-- ==== Sys2Proof/Word.lean ====
section
/-!
DEFINITION. The word types of the part: a byte, a 32-bit register word, a byte string (R4 to R6).
-/
namespace Sys2Proof

/-- One byte (R4). -/
abbrev Byte := BitVec 8

/-- One 32-bit register of BAR 0. -/
abbrev Word := BitVec 32

/-- A byte string: byte 0 is the first element (R4, R6). -/
abbrev Bytes := List Byte

end Sys2Proof
end

