-- ==== Sys2Proof/Machine/Bits.lean ====
section
/-!
DEFINITION. Bit fields, byte order, ticks and saturation: the plain arithmetic every chapter shares
(R4 to R7, R502). Numbers are held as `Nat` where the spec counts, and wrapped where the spec wraps.
-/
namespace Sys2Proof.Machine

/-- Bits [hi:lo] of a number, inclusive, shifted down (notation of Table 0.3). -/
def bitsOf (hi lo v : Nat) : Nat := v / 2 ^ lo % 2 ^ (hi + 1 - lo)

/-- Bit n of a number. -/
def bitOf (n v : Nat) : Bool := v / 2 ^ n % 2 == 1

/-- The number with bits [hi:lo] replaced by the low bits of `x`. -/
def setBitsOf (hi lo x v : Nat) : Nat :=
  v / 2 ^ (hi + 1) * 2 ^ (hi + 1) + x % 2 ^ (hi + 1 - lo) * 2 ^ lo + v % 2 ^ lo

/-- 1 for true, 0 for false. -/
def b2n (b : Bool) : Nat := if b then 1 else 0

/-- Division rounding up; `ceilDiv a b` is the least n with a ≤ n × b. -/
def ceilDiv (a b : Nat) : Nat := (a + b - 1) / b

/-- The tick in which the timebase value x falls (R502). -/
def tickOf (x : Nat) : Nat := 10 * (x / 10)

/-- The first tick at or after the timebase value x (R502). -/
def tickUp (x : Nat) : Nat := 10 * ((x + 9) / 10)

/-- Saturation at a bound. -/
def satAt (cap v : Nat) : Nat := min v cap

/-- Saturation of an unsigned 32-bit field. -/
def sat32 (v : Nat) : Nat := satAt 0xFFFFFFFF v

/-- `n` bytes of `v`, little-endian (R5). -/
def le : Nat → Nat → Bytes
  | 0, _ => []
  | n + 1, v => BitVec.ofNat 8 v :: le n (v / 256)

/-- The number that little-endian bytes spell (R5). -/
def unle : Bytes → Nat
  | [] => 0
  | b :: bs => b.toNat + 256 * unle bs

/-- `n` bytes of `v`, most significant first (R6: byte strings of a standard). -/
def be (n v : Nat) : Bytes := (le n v).reverse

/-- The number that big-endian bytes spell. -/
def unbe (bs : Bytes) : Nat := bs.foldl (fun a b => a * 256 + b.toNat) 0

/-- `n` bytes from offset `off`; bytes beyond the end read as 0. -/
def slice (off n : Nat) (bs : Bytes) : Bytes :=
  let t := (bs.drop off).take n
  t ++ List.replicate (n - t.length) 0

/-- A little-endian field of `n` bytes at `off`. -/
def fieldAt (off n : Nat) (bs : Bytes) : Nat := unle (slice off n bs)

/-- `n` zero bytes. -/
def zeros (n : Nat) : Bytes := List.replicate n 0

/-- The string padded with zero bytes, or cut, to `n` bytes. -/
def padTo (n : Nat) (bs : Bytes) : Bytes := slice 0 n bs

/-- 32-bit register k of a byte string shown in registers (R501). -/
def wordOfBytes (k : Nat) (bs : Bytes) : Nat := fieldAt (4 * k) 4 bs

/-- The signed value of a two's complement field of w bits (R7). -/
def sext (w v : Nat) : Int := if v % 2 ^ w < 2 ^ (w - 1) then (v % 2 ^ w : Nat) else (v % 2 ^ w : Nat) - (2 ^ w : Nat)

/-- The two's complement field of w bits that holds x, wrapping (R7). -/
def ofInt (w : Nat) (x : Int) : Nat := (x % (2 ^ w : Nat)).toNat

/-- Clamp an integer to [lo, hi]. -/
def clampInt (lo hi x : Int) : Int := max lo (min hi x)

/-- The first element of a list that passes a test, with its index. -/
def findIdx? {α : Type} (p : α → Bool) : List α → Option (Nat × α)
  | [] => none
  | a :: as => if p a then some (0, a) else (findIdx? p as).map fun r => (r.1 + 1, r.2)

/-- Replace the elements that pass the test by `f` of them. -/
def updateWhere {α : Type} (p : α → Bool) (f : α → α) (l : List α) : List α :=
  l.map fun a => if p a then f a else a

/-- Sum of a function over a list. -/
def sumOf {α : Type} (f : α → Nat) (l : List α) : Nat := (l.map f).sum

/-- The element of least key, the first of them in list order when keys are equal. -/
def minBy {α : Type} (lt : α → α → Bool) : List α → Option α
  | [] => none
  | a :: as =>
    match minBy lt as with
    | none => some a
    | some b => if lt b a then some b else some a

/-- Put a number in its place in a rising list without repeats. -/
def insertNat (n : Nat) : List Nat → List Nat
  | [] => [n]
  | m :: ms => if n < m then n :: m :: ms else if n = m then m :: ms else m :: insertNat n ms

/-- A list of numbers in rising order, without repeats. -/
def sortNat (l : List Nat) : List Nat := l.foldr insertNat []

/-- Put an element in its place by a strict order, after its equals. -/
def insertBy {α : Type} (lt : α → α → Bool) (a : α) : List α → List α
  | [] => [a]
  | b :: bs => if lt a b then a :: b :: bs else b :: insertBy lt a bs

/-- A list sorted by a strict order, equals in their order. -/
def sortBy {α : Type} (lt : α → α → Bool) (l : List α) : List α := l.foldl (fun acc a => insertBy lt a acc) []

/-- Strict lexicographic order on lists of numbers. -/
def lexLt : List Nat → List Nat → Bool
  | _, [] => false
  | [], _ :: _ => true
  | a :: as, b :: bs => if a < b then true else if b < a then false else lexLt as bs

end Sys2Proof.Machine
end

