-- ==== Sys2Proof/Machine/Crc.lean ====
section
/-!
DEFINITION. CRC-32 (reflected, polynomial 0xEDB88320, initial value and final XOR of all ones), the CRC of the
cascade frames, the flits and the journals (R153, R180, R274).
-/
namespace Sys2Proof.Machine

/-- Shift n bits out of the CRC register. -/
def crcBits : Nat → Nat → Nat
  | 0, c => c
  | n + 1, c => crcBits n (if c % 2 = 1 then Nat.xor (c / 2) 0xEDB88320 else c / 2)

/-- CRC-32 of a byte string. -/
def crc32 (bs : Bytes) : Nat :=
  Nat.xor 0xFFFFFFFF (bs.foldl (fun c b => crcBits 8 (Nat.xor c b.toNat)) 0xFFFFFFFF)

end Sys2Proof.Machine
end

