-- ==== Sys2Proof/Machine/Sparse.lean ====
section
/-!
DEFINITION. Sparse data by key: a list of (key, value) pairs in ONE canonical form, keys strictly
rising and no value equal to what an unlisted key reads as, so that equal contents are equal data.
-/
namespace Sys2Proof.Machine

/-- Sparse data: (key, value) pairs, see `Sparse.wf` for the canonical form. -/
abbrev Sparse (α : Type) := List (Nat × α)

/-- The value at key k; an unlisted key reads as `d k`. -/
def Sparse.get {α : Type} (d : Nat → α) : Sparse α → Nat → α
  | [], k => d k
  | (k', v) :: m, k => if k = k' then v else Sparse.get d m k

/-- Put (k, v) in its place in rising order, in the stead of what stands at k. -/
def Sparse.ins {α : Type} : Sparse α → Nat → α → Sparse α
  | [], k, v => [(k, v)]
  | (k', v') :: m, k, v =>
    if k < k' then (k, v) :: (k', v') :: m else if k = k' then (k, v) :: m else (k', v') :: Sparse.ins m k v

/-- Write v at k: key k is taken out when v is what an unlisted k reads as. -/
def Sparse.set {α : Type} [DecidableEq α] (d : Nat → α) (m : Sparse α) (k : Nat) (v : α) : Sparse α :=
  if v = d k then m.filter (fun p => p.1 != k) else m.ins k v

/-- Every listed key is at least lo, keys rise strictly, and no value is the default. -/
def Sparse.wfFrom {α : Type} [DecidableEq α] (d : Nat → α) : Nat → Sparse α → Bool
  | _, [] => true
  | lo, (k, v) :: m => lo ≤ k && !(v = d k) && Sparse.wfFrom d (k + 1) m

/-- The canonical form. -/
def Sparse.wf {α : Type} [DecidableEq α] (d : Nat → α) (m : Sparse α) : Bool := Sparse.wfFrom d 0 m

/-- Change the value at a key. -/
def Sparse.upd {α : Type} [DecidableEq α] (d : Nat → α) (m : Sparse α) (k : Nat) (f : α → α) : Sparse α :=
  m.set d k (f (m.get d k))

end Sys2Proof.Machine
end

