-- ==== Sys2Proof/Machine/RegTable.lean ====
section
/-!
DEFINITION. The register map of BAR 0, from the register tables of every chapter: each register's
offset, its reset value, and each field's bits, access code (R11) and write condition (R9).
`R.<NAME>` is an offset, `F.<NAME>_<FIELD>` a field; `regAt` finds the register at an offset.
-/
namespace Sys2Proof.Machine

/-- The access codes of Table 0.4 (R11). -/
inductive Access where
  | ro | rw | wo | w1c | w1s | rws | lk
  deriving DecidableEq, Repr

/-- The condition under which a write reaches a field: any value, a range (R9), a command of its own
(the field is written by the command that has a row of its own), or a host interface condition (R461 to R466). -/
inductive FieldCheck where
  | any | range (lo hi : Nat) | own | win | winPf | qp | qpPf | qpMod | pf
  deriving DecidableEq, Repr

/-- A field of one register: offset in BAR 0 and bits [hi:lo]. -/
structure Fld where
  off : Nat
  hi : Nat
  lo : Nat
  deriving DecidableEq, Repr

/-- One field of a register table. -/
structure FieldInfo where
  hi : Nat
  lo : Nat
  acc : Access
  chk : FieldCheck
  deriving DecidableEq, Repr

/-- One register table: where it stands, its (up to two) array dimensions as (count, stride), its reset
value as stored, and its fields. Bits in no field are reserved (R8). -/
structure RegInfo where
  base : Nat
  n1 : Nat
  s1 : Nat
  n2 : Nat
  s2 : Nat
  reset : Nat
  fields : List FieldInfo
  deriving DecidableEq, Repr

/-- True when the register (array) has an element at this offset. -/
def RegInfo.covers (r : RegInfo) (off : Nat) : Bool :=
  r.base ≤ off &&
    (let d := off - r.base
     let i := if r.s1 = 0 then 0 else min (d / r.s1) (r.n1 - 1)
     let e := d - i * r.s1
     let j := if r.s2 = 0 then 0 else min (e / r.s2) (r.n2 - 1)
     e == j * r.s2)

namespace R

def SHL_ID : Nat := 0
def SHL_CONFIG : Nat := 8
def SHL_CASCADE_CTRL : Nat := 0x100
def SHL_CASCADE_STATUS : Nat := 0x104
def SHL_CASCADE_CMAP : Nat := 0x108
def SHL_CASCADE_SENT_COUNT : Nat := 0x110
def SHL_CASCADE_CRC_COUNT : Nat := 0x114
def SHL_CASCADE_DOWN_COUNT : Nat := 0x118
def SHL_AMA_VER_LO : Nat := 0x120
def SHL_AMA_VER_HI : Nat := 0x124
def SHL_AMA_DIGEST (n : Nat) : Nat := 0x140 + 4 * n
def SHL_RESET_CMD : Nat := 0x200
def SHL_RESET_CAUSE : Nat := 0x204
def SHL_BOOT_STATUS : Nat := 0x208
def SHL_BIND_CMD : Nat := 0x1000
def SHL_BIND_RESULT : Nat := 0x1004
def SHL_BIND_SRC_LO : Nat := 0x1008
def SHL_BIND_SRC_HI : Nat := 0x100c
def SHL_BIND_LEN : Nat := 0x1010
def SHL_CAT_DEST_LO : Nat := 0x1018
def SHL_CAT_DEST_HI : Nat := 0x101c
def SHL_BIND_STATUS : Nat := 0x1020
def SHL_BIND_FAULT_ADDR_LO : Nat := 0x1028
def SHL_BIND_FAULT_ADDR_HI : Nat := 0x102c
def SHL_MSET_ID : Nat := 0x1030
def SHL_CAT_SIZE : Nat := 0x1034
def SHL_CAT_USED : Nat := 0x1038
def SHL_BIND_LOAD_COUNT : Nat := 0x103c
def SHL_BIND_RESTORE_COUNT : Nat := 0x1040
def SHL_BIND_DIGEST (n : Nat) : Nat := 0x1100 + 4 * n
def SHL_STAGE_DIGEST (n : Nat) : Nat := 0x1140 + 4 * n
def SHL_MSET_DIGEST (n : Nat) : Nat := 0x1180 + 4 * n
def SHL_MSET (q s : Nat) : Nat := 0x1400 + 0x40 * q + 4 * s
def DKL_TIME_LO : Nat := 0x100000
def DKL_TIME_HI : Nat := 0x100004
def DKL_DELAY_IN : Nat := 0x100010
def DKL_DELAY_OUT : Nat := 0x100014
def DKL_PROVEN_IN : Nat := 0x100018
def DKL_PROVEN_OUT : Nat := 0x10001c
def DKL_MARGIN : Nat := 0x100020
def DKL_RAIL_LIMIT : Nat := 0x100024
def DKL_RAIL : Nat := 0x100028
def DKL_STATUS : Nat := 0x100030
def DKL_GATHER_CMD : Nat := 0x100040
def DKL_GATHER_STATUS : Nat := 0x100044
def DKL_GATHER_ID : Nat := 0x100048
def DKL_OPEN_LIMIT : Nat := 0x10004c
def DKL_LATE_LIMIT : Nat := 0x100050
def DKL_LATE_IN_COUNT : Nat := 0x100060
def DKL_LATE_OUT_COUNT : Nat := 0x100064
def DKL_TENANT_POSTURE (n : Nat) : Nat := 0x100100 + 4 * n
def LDG_FOLIO_CMD : Nat := 0x200000
def LDG_FOLIO_RESULT : Nat := 0x200004
def LDG_LIVE : Nat := 0x200010
def LDG_FREE : Nat := 0x200014
def LDG_SCAN_PERIOD : Nat := 0x200020
def LDG_RETAIN : Nat := 0x200024
def LDG_STATUS : Nat := 0x200030
def LDG_CANCEL_COUNT : Nat := 0x200040
def LDG_EXPIRE_COUNT : Nat := 0x200044
def LDG_ORPHAN_COUNT : Nat := 0x200048
def LDG_DEADLINE_MISS_COUNT : Nat := 0x20004c
def LDG_SNAP (n : Nat) : Nat := 0x201000 + 4 * n
def ADM_CHAN_IN : Nat := 0x300000
def ADM_CHAN_OUT : Nat := 0x300004
def ADM_BAL_LIMIT : Nat := 0x300010
def ADM_BAL_CTRL : Nat := 0x300014
def ADM_BAL_STATUS : Nat := 0x300018
def ADM_OCC : Nat := 0x30001c
def ADM_SPLIT : Nat := 0x300020
def ADM_STATUS : Nat := 0x300030
def ADM_ADMIT_IN_COUNT : Nat := 0x300040
def ADM_ADMIT_OUT_COUNT : Nat := 0x300044
def ADM_REFUSE_COUNT : Nat := 0x300048
def ADM_SPARE_COUNT : Nat := 0x30004c
def ADM_MOVE_COUNT : Nat := 0x300050
def ADM_WAIT_IN_MAX : Nat := 0x300054
def ADM_WAIT_OUT_MAX : Nat := 0x300058
def ADM_WAIT_IN_SUM_LO : Nat := 0x300060
def ADM_WAIT_IN_SUM_HI : Nat := 0x300064
def ADM_WAIT_OUT_SUM_LO : Nat := 0x300068
def ADM_WAIT_OUT_SUM_HI : Nat := 0x30006c
def ADM_TENANT_WEIGHT (n : Nat) : Nat := 0x301000 + 0x10 * n
def ADM_TENANT_RATE_IN (n : Nat) : Nat := 0x301004 + 0x10 * n
def ADM_TENANT_RATE_OUT (n : Nat) : Nat := 0x301008 + 0x10 * n
def ADM_TENANT_BURST (n : Nat) : Nat := 0x30100c + 0x10 * n
def PVC_CTRL : Nat := 0x400000
def PVC_CMD : Nat := 0x400004
def PVC_CMD_RESULT : Nat := 0x400008
def PVC_CAP : Nat := 0x40000c
def PVC_SNAP_BYTES : Nat := 0x400010
def PVC_STATUS : Nat := 0x400014
def PVC_PROBE_COUNT : Nat := 0x400040
def PVC_HIT_COUNT : Nat := 0x400044
def PVC_FILL_COUNT : Nat := 0x400048
def PVC_FILL_SKIP_COUNT : Nat := 0x40004c
def PVC_VERIFY_FAIL_COUNT : Nat := 0x400050
def PVC_ECC_COUNT : Nat := 0x400054
def PVC_VERIFY (n : Nat) : Nat := 0x400100 + 4 * n
def PVC_EPOCH (n : Nat) : Nat := 0x400200 + 4 * n
def QUIRE_TWE_MODEL (n : Nat) : Nat := 0x810000 + 0x100000 * n
def QUIRE_TWE_TREES (n : Nat) : Nat := 0x810004 + 0x100000 * n
def QUIRE_TWE_OCC (n m : Nat) : Nat := 0x810010 + 0x100000 * n + 4 * m
def QUIRE_TWE_STATUS (n : Nat) : Nat := 0x810040 + 0x100000 * n
def QUIRE_TWE_VISIT_LO (n : Nat) : Nat := 0x810080 + 0x100000 * n
def QUIRE_TWE_VISIT_HI (n : Nat) : Nat := 0x810084 + 0x100000 * n
def QUIRE_TWE_TREE_COUNT (n : Nat) : Nat := 0x810088 + 0x100000 * n
def QUIRE_TWE_MISSING_COUNT (n : Nat) : Nat := 0x81008c + 0x100000 * n
def QUIRE_TWE_UNSEEN_COUNT (n : Nat) : Nat := 0x810090 + 0x100000 * n
def QUIRE_TWE_FAULT_COUNT (n : Nat) : Nat := 0x810094 + 0x100000 * n
def QUIRE_AMT_CTRL (n : Nat) : Nat := 0x820000 + 0x100000 * n
def QUIRE_AMT_STATUS (n : Nat) : Nat := 0x820040 + 0x100000 * n
def QUIRE_AMT_PASS_COUNT (n : Nat) : Nat := 0x820080 + 0x100000 * n
def QUIRE_AMT_CERT_COUNT (n : Nat) : Nat := 0x820084 + 0x100000 * n
def QUIRE_AMT_UNCERT_COUNT (n : Nat) : Nat := 0x820088 + 0x100000 * n
def QUIRE_AMT_WITNESS_FAIL_COUNT (n : Nat) : Nat := 0x82008c + 0x100000 * n
def QUIRE_AMT_ROW_FAIL_COUNT (n : Nat) : Nat := 0x820090 + 0x100000 * n
def QUIRE_AMT_CAL_COUNT (n : Nat) : Nat := 0x820094 + 0x100000 * n
def QUIRE_AMT_STATE (n t : Nat) : Nat := 0x820100 + 0x100000 * n + 4 * t
def QUIRE_AMA_BANK_CFG (n m : Nat) : Nat := 0x830000 + 0x100000 * n + 4 * m
def QUIRE_AMA_STATUS (n : Nat) : Nat := 0x830080 + 0x100000 * n
def QUIRE_AMA_SEARCH_COUNT (n : Nat) : Nat := 0x830100 + 0x100000 * n
def QUIRE_AMA_HIT_COUNT (n : Nat) : Nat := 0x830104 + 0x100000 * n
def QUIRE_AMA_INCOMPLETE_COUNT (n : Nat) : Nat := 0x830108 + 0x100000 * n
def QUIRE_AMA_UPD_VALUE_LO (n u : Nat) : Nat := 0x830200 + 0x100000 * n + 0x20 * u
def QUIRE_AMA_UPD_VALUE_HI (n u : Nat) : Nat := 0x830204 + 0x100000 * n + 0x20 * u
def QUIRE_AMA_UPD_CARE_LO (n u : Nat) : Nat := 0x830208 + 0x100000 * n + 0x20 * u
def QUIRE_AMA_UPD_CARE_HI (n u : Nat) : Nat := 0x83020c + 0x100000 * n + 0x20 * u
def QUIRE_AMA_UPD_TAG (n u : Nat) : Nat := 0x830210 + 0x100000 * n + 0x20 * u
def QUIRE_AMA_UPD_CMD (n : Nat) : Nat := 0x830280 + 0x100000 * n
def QUIRE_AMA_UPD_RESULT (n : Nat) : Nat := 0x830284 + 0x100000 * n
def QUIRE_AMA_UPD_VER_LO (n : Nat) : Nat := 0x830288 + 0x100000 * n
def QUIRE_AMA_UPD_VER_HI (n : Nat) : Nat := 0x83028c + 0x100000 * n
def QUIRE_AMA_UPD_TICK0_LO (n : Nat) : Nat := 0x830290 + 0x100000 * n
def QUIRE_AMA_UPD_TICK0_HI (n : Nat) : Nat := 0x830294 + 0x100000 * n
def QUIRE_AMA_UPD_TICK1_LO (n : Nat) : Nat := 0x830298 + 0x100000 * n
def QUIRE_AMA_UPD_TICK1_HI (n : Nat) : Nat := 0x83029c + 0x100000 * n
def QUIRE_AMA_UPD_MOVED (n : Nat) : Nat := 0x8302a0 + 0x100000 * n
def QUIRE_AMA_UPD_VER0_LO (n : Nat) : Nat := 0x8302a8 + 0x100000 * n
def QUIRE_AMA_UPD_VER0_HI (n : Nat) : Nat := 0x8302ac + 0x100000 * n
def QUIRE_AMA_JOURNAL_0 (n : Nat) : Nat := 0x830300 + 0x100000 * n
def QUIRE_AMA_JOURNAL_1 (n : Nat) : Nat := 0x830304 + 0x100000 * n
def QUIRE_AMA_JOURNAL_2 (n : Nat) : Nat := 0x830308 + 0x100000 * n
def QUIRE_AMA_SCRUB_CTRL (n : Nat) : Nat := 0x830310 + 0x100000 * n
def QUIRE_AMA_MAINT_STATUS (n : Nat) : Nat := 0x830314 + 0x100000 * n
def QUIRE_AMA_FAILED (n : Nat) : Nat := 0x830318 + 0x100000 * n
def QUIRE_AMA_QUARANTINE (n : Nat) : Nat := 0x83031c + 0x100000 * n
def QUIRE_AMA_FALSE_HIT_COUNT (n : Nat) : Nat := 0x830320 + 0x100000 * n
def QUIRE_AMA_SCRUB_FIX_COUNT (n : Nat) : Nat := 0x830324 + 0x100000 * n
def QUIRE_AMA_QUARANTINE_COUNT (n : Nat) : Nat := 0x830328 + 0x100000 * n
def QUIRE_AMA_MOVE_COPY_COUNT (n : Nat) : Nat := 0x83032c + 0x100000 * n
def QUIRE_XL_RESERVE (n : Nat) : Nat := 0x840000 + 0x100000 * n
def QUIRE_XL_STATUS (n : Nat) : Nat := 0x840004 + 0x100000 * n
def QUIRE_XL_DEMAND (n : Nat) : Nat := 0x840008 + 0x100000 * n
def QUIRE_XL_RERUN_IN_COUNT (n : Nat) : Nat := 0x840040 + 0x100000 * n
def QUIRE_XL_RERUN_OUT_COUNT (n : Nat) : Nat := 0x840044 + 0x100000 * n
def QUIRE_XL_LATE_COUNT (n : Nat) : Nat := 0x840048 + 0x100000 * n
def QUIRE_XL_FAULT_COUNT (n : Nat) : Nat := 0x84004c + 0x100000 * n
def TSU_STATUS : Nat := 0x1000000
def TSU_COUNT_CAP : Nat := 0x1000004
def TSU_COUNT_USED : Nat := 0x1000008
def TSU_SELECT_COUNT : Nat := 0x1000040
def TSU_MASKED_COUNT : Nat := 0x1000044
def TSU_ALL_MASKED_COUNT : Nat := 0x1000048
def TSU_REJECT_COUNT : Nat := 0x100004c
def TSU_SPEC_COUNT : Nat := 0x1000050
def TSU_COUNT_FULL_COUNT : Nat := 0x1000054
def TSU_EXP2 (k : Nat) : Nat := 0x1001000 + 4 * k
def SPN_PORT_CTRL (p : Nat) : Nat := 0x1100000 + 0x100 * p
def SPN_PORT_STATUS (p : Nat) : Nat := 0x1100004 + 0x100 * p
def SPN_PORT_LANE (p : Nat) : Nat := 0x1100008 + 0x100 * p
def SPN_PORT_FEC_CORR_COUNT (p : Nat) : Nat := 0x1100010 + 0x100 * p
def SPN_PORT_FEC_UNCORR_COUNT (p : Nat) : Nat := 0x1100014 + 0x100 * p
def SPN_PORT_CRC_COUNT (p : Nat) : Nat := 0x1100018 + 0x100 * p
def SPN_PORT_REPLAY_COUNT (p : Nat) : Nat := 0x110001c + 0x100 * p
def SPN_PORT_RETRAIN_COUNT (p : Nat) : Nat := 0x1100020 + 0x100 * p
def SPN_PORT_TRAIN_COUNT (p : Nat) : Nat := 0x1100024 + 0x100 * p
def SPN_PORT_REJECT_COUNT (p : Nat) : Nat := 0x1100028 + 0x100 * p
def SPN_PORT_DROP_COUNT (p : Nat) : Nat := 0x110002c + 0x100 * p
def SPN_PORT_TX_FLIT_LO (p : Nat) : Nat := 0x1100030 + 0x100 * p
def SPN_PORT_TX_FLIT_HI (p : Nat) : Nat := 0x1100034 + 0x100 * p
def SPN_PORT_RX_FLIT_LO (p : Nat) : Nat := 0x1100038 + 0x100 * p
def SPN_PORT_RX_FLIT_HI (p : Nat) : Nat := 0x110003c + 0x100 * p
def SPN_PARTNER_INFO (n : Nat) : Nat := 0x1101000 + 0x40 * n
def SPN_PARTNER_BOUND (n : Nat) : Nat := 0x1101004 + 0x40 * n
def SPN_PARTNER_REFS (n : Nat) : Nat := 0x1101008 + 0x40 * n
def SPN_PARTNER_MAX_STREAMS (n : Nat) : Nat := 0x110100c + 0x40 * n
def SPN_PARTNER_FT_PAGES (n : Nat) : Nat := 0x1101010 + 0x40 * n
def SPN_PARTNER_FT_USED (n : Nat) : Nat := 0x1101014 + 0x40 * n
def SPN_PARTNER_MAX_BODY (n : Nat) : Nat := 0x1101018 + 0x40 * n
def SPN_PARTNER_CMD (n : Nat) : Nat := 0x110101c + 0x40 * n
def SPN_PARTNER_UNIT_ID (n k : Nat) : Nat := 0x1101020 + 0x40 * n + 4 * k
def SPN_PARTNER_T_ATTACH_LO (n : Nat) : Nat := 0x1101030 + 0x40 * n
def SPN_PARTNER_T_ATTACH_HI (n : Nat) : Nat := 0x1101034 + 0x40 * n
def SPN_PARTNER_HB_GAP_COUNT (n : Nat) : Nat := 0x1101038 + 0x40 * n
def SPN_UNIT_ID (k : Nat) : Nat := 0x1102000 + 4 * k
def SPN_PARTNER_SUMMARY : Nat := 0x1102010
def SPN_PARTNER_STATUS : Nat := 0x1102014
def SPN_KV_HOLD_CAP : Nat := 0x1102020
def SPN_KV_HOLD_USED : Nat := 0x1102024
def SPN_ATTACH_COUNT : Nat := 0x1102040
def SPN_LOSS_COUNT : Nat := 0x1102044
def SPN_PAGE_IN_COUNT : Nat := 0x1102048
def SPN_PAGE_FWD_COUNT : Nat := 0x110204c
def SPN_PAGE_DROP_COUNT : Nat := 0x1102050
def SPN_FT_STORE_COUNT : Nat := 0x1102054
def SPN_FT_FETCH_COUNT : Nat := 0x1102058
def SPN_EVICT_FAIL_COUNT : Nat := 0x110205c
def COL_CTRL : Nat := 0x1200000
def COL_STATUS : Nat := 0x1200004
def COL_USED : Nat := 0x1200008
def COL_HEAD_SEQ_LO : Nat := 0x1200010
def COL_HEAD_SEQ_HI : Nat := 0x1200014
def COL_TAIL_SEQ_LO : Nat := 0x1200018
def COL_TAIL_SEQ_HI : Nat := 0x120001c
def COL_LAST_SEAL_LO : Nat := 0x1200020
def COL_LAST_SEAL_HI : Nat := 0x1200024
def COL_UNSEALED_FIRST_LO : Nat := 0x1200028
def COL_UNSEALED_FIRST_HI : Nat := 0x120002c
def COL_UNSEALED_LAST_LO : Nat := 0x1200030
def COL_UNSEALED_LAST_HI : Nat := 0x1200034
def COL_PUSH_BASE_LO : Nat := 0x1200038
def COL_PUSH_BASE_HI : Nat := 0x120003c
def COL_KEY_EPOCH : Nat := 0x1200040
def COL_SEAL_COUNT : Nat := 0x1200048
def COL_STOP_COUNT : Nat := 0x120004c
def COL_CHAIN_ID (n : Nat) : Nat := 0x1200100 + 4 * n
def COL_HEAD_DIGEST (n : Nat) : Nat := 0x1200140 + 4 * n
def COL_PUBKEY (n : Nat) : Nat := 0x1200200 + 4 * n
def COL_ENDORSE (n : Nat) : Nat := 0x1200400 + 4 * n
def FLT_STATUS : Nat := 0x1300000
def FLT_PENDING : Nat := 0x1300004
def FLT_CENSUS_NEXT : Nat := 0x1300008
def FLT_CENSUS_CMD : Nat := 0x1300010
def FLT_CENSUS_RESULT : Nat := 0x1300014
def FLT_SCRUB_CTRL : Nat := 0x1300018
def FLT_CENSUS_DATA (n : Nat) : Nat := 0x1300020 + 4 * n
def FLT_REPAIR_FAILED : Nat := 0x1300040
def FLT_FOLIO_FAULT_COUNT : Nat := 0x1300080
def FLT_REPAIR_COUNT : Nat := 0x1300084
def FLT_RETRY_COUNT : Nat := 0x1300088
def FLT_LOG_SEQ : Nat := 0x130008c
def FLT_LOG (n w : Nat) : Nat := 0x1301000 + 0x20 * n + 4 * w
def PWR_STATE_CMD : Nat := 0x1400000
def PWR_STATE : Nat := 0x1400004
def PWR_DOMAIN (n : Nat) : Nat := 0x1400010 + 4 * n
def PWR_THERM : Nat := 0x1400020
def PWR_THERM_LIMIT : Nat := 0x1400024
def PWR_STATUS : Nat := 0x1400028
def PWR_POWER : Nat := 0x140002c
def SEC_STATE : Nat := 0x1500000
def SEC_TAMPER : Nat := 0x1500004
def SEC_TAMPER_TICK_LO : Nat := 0x1500008
def SEC_TAMPER_TICK_HI : Nat := 0x150000c
def SEC_PROV_CMD : Nat := 0x1500010
def SEC_PROV_RESULT : Nat := 0x1500014
def SEC_PROV_REQ (n : Nat) : Nat := 0x1500100 + 4 * n
def SEC_PROV_ATTEST (n : Nat) : Nat := 0x1500180 + 4 * n
def SEC_PROV_SIG (n : Nat) : Nat := 0x1500200 + 4 * n
def NVM_CMD : Nat := 0x1600000
def NVM_ADDR : Nat := 0x1600004
def NVM_LEN : Nat := 0x1600008
def NVM_FAULT_ADDR : Nat := 0x160000c
def NVM_HOST_LO : Nat := 0x1600010
def NVM_HOST_HI : Nat := 0x1600014
def NVM_RESULT : Nat := 0x1600018
def NVM_WEAR : Nat := 0x1600020
def NVM_MAX_ERASE : Nat := 0x1600024
def NVM_STATUS : Nat := 0x1600028
def EPD_CMD : Nat := 0x1608000
def EPD_RESULT : Nat := 0x1608004
def EPD_SRC_LO : Nat := 0x1608008
def EPD_SRC_HI : Nat := 0x160800c
def EPD_LEN : Nat := 0x1608010
def EPD_STATE : Nat := 0x1608014
def EPD_CURSOR : Nat := 0x1608018
def EPD_RUN_VERSION : Nat := 0x1608020
def EPD_CONF_VERSION : Nat := 0x1608024
def EPD_NVM_VERSION : Nat := 0x1608028
def EPD_SECVER : Nat := 0x160802c
def EPD_ABI : Nat := 0x1608030
def EPD_SETTINGS : Nat := 0x1608034
def EPD_SET_LEN : Nat := 0x1608038
def EPD_STATUS : Nat := 0x160803c
def EPD_SET_DATA (n : Nat) : Nat := 0x1608100 + 4 * n
def HIF_STATUS : Nat := 0x1800000
def HIF_LINK : Nat := 0x1800004
def HIF_DMA_FAULT_ADDR_LO : Nat := 0x1800008
def HIF_DMA_FAULT_ADDR_HI : Nat := 0x180000c
def HIF_DMA_FAULT_INFO : Nat := 0x1800010
def HIF_INT_STATUS : Nat := 0x1800020
def HIF_INT_ENABLE : Nat := 0x1800024
def HIF_EVENT : Nat := 0x1800028
def HIF_INT_MOD : Nat := 0x180002c
def HIF_WIN_BASE_LO (w : Nat) : Nat := 0x1810000 + 0x20 * w
def HIF_WIN_BASE_HI (w : Nat) : Nat := 0x1810004 + 0x20 * w
def HIF_WIN_SIZE_LO (w : Nat) : Nat := 0x1810008 + 0x20 * w
def HIF_WIN_SIZE_HI (w : Nat) : Nat := 0x181000c + 0x20 * w
def HIF_WIN_CTRL (w : Nat) : Nat := 0x1810010 + 0x20 * w
def HIF_QP_CTRL (q : Nat) : Nat := 0x1820000 + 0x40 * q
def HIF_QP_VECTOR (q : Nat) : Nat := 0x1820004 + 0x40 * q
def HIF_QP_SQ_BASE_LO (q : Nat) : Nat := 0x1820008 + 0x40 * q
def HIF_QP_SQ_BASE_HI (q : Nat) : Nat := 0x182000c + 0x40 * q
def HIF_QP_CQ_BASE_LO (q : Nat) : Nat := 0x1820010 + 0x40 * q
def HIF_QP_CQ_BASE_HI (q : Nat) : Nat := 0x1820014 + 0x40 * q
def HIF_QP_STATUS (q : Nat) : Nat := 0x1820018 + 0x40 * q
def HIF_QP_SQ_TAIL (q : Nat) : Nat := 0x1840000 + 0x1000 * q
def HIF_QP_CQ_HEAD (q : Nat) : Nat := 0x1840004 + 0x1000 * q
def HIF_VF_TENANTS (v : Nat) : Nat := 0x18a0000 + 4 * v
def HIF_I3C_STATUS : Nat := 0x18c0000

end R

namespace F

def SHL_ID_ID : Fld := ⟨R.SHL_ID, 31, 0⟩
def SHL_CONFIG_CONFIG : Fld := ⟨R.SHL_CONFIG, 31, 0⟩
def SHL_CASCADE_CTRL_ENABLE : Fld := ⟨R.SHL_CASCADE_CTRL, 0, 0⟩
def SHL_CASCADE_CTRL_SIZE : Fld := ⟨R.SHL_CASCADE_CTRL, 4, 1⟩
def SHL_CASCADE_CTRL_POSITION : Fld := ⟨R.SHL_CASCADE_CTRL, 7, 5⟩
def SHL_CASCADE_STATUS_STATE : Fld := ⟨R.SHL_CASCADE_STATUS, 1, 0⟩
def SHL_CASCADE_STATUS_REASON : Fld := ⟨R.SHL_CASCADE_STATUS, 11, 8⟩
def SHL_CASCADE_STATUS_DOWN_SEEN : Fld := ⟨R.SHL_CASCADE_STATUS, 16, 16⟩
def SHL_CASCADE_STATUS_CRC_SEEN : Fld := ⟨R.SHL_CASCADE_STATUS, 17, 17⟩
def SHL_CASCADE_STATUS_MISMATCH_SEEN : Fld := ⟨R.SHL_CASCADE_STATUS, 18, 18⟩
def SHL_CASCADE_CMAP_CMAP_ID : Fld := ⟨R.SHL_CASCADE_CMAP, 31, 0⟩
def SHL_CASCADE_SENT_COUNT_COUNT : Fld := ⟨R.SHL_CASCADE_SENT_COUNT, 31, 0⟩
def SHL_CASCADE_CRC_COUNT_COUNT : Fld := ⟨R.SHL_CASCADE_CRC_COUNT, 31, 0⟩
def SHL_CASCADE_DOWN_COUNT_COUNT : Fld := ⟨R.SHL_CASCADE_DOWN_COUNT, 31, 0⟩
def SHL_AMA_VER_LO_V : Fld := ⟨R.SHL_AMA_VER_LO, 31, 0⟩
def SHL_AMA_VER_HI_V : Fld := ⟨R.SHL_AMA_VER_HI, 31, 0⟩
def SHL_AMA_DIGEST_DIGEST (n : Nat) : Fld := ⟨R.SHL_AMA_DIGEST n, 31, 0⟩
def SHL_RESET_CMD_KIND : Fld := ⟨R.SHL_RESET_CMD, 1, 0⟩
def SHL_RESET_CMD_QUIRES : Fld := ⟨R.SHL_RESET_CMD, 15, 8⟩
def SHL_RESET_CMD_GUARD : Fld := ⟨R.SHL_RESET_CMD, 31, 16⟩
def SHL_RESET_CAUSE_COLD : Fld := ⟨R.SHL_RESET_CAUSE, 3, 0⟩
def SHL_RESET_CAUSE_WARM : Fld := ⟨R.SHL_RESET_CAUSE, 7, 4⟩
def SHL_RESET_CAUSE_QUIRE_SEEN : Fld := ⟨R.SHL_RESET_CAUSE, 15, 8⟩
def SHL_RESET_CAUSE_WARM_COUNT : Fld := ⟨R.SHL_RESET_CAUSE, 31, 16⟩
def SHL_BOOT_STATUS_STEP : Fld := ⟨R.SHL_BOOT_STATUS, 4, 0⟩
def SHL_BOOT_STATUS_READY : Fld := ⟨R.SHL_BOOT_STATUS, 5, 5⟩
def SHL_BOOT_STATUS_HALTED : Fld := ⟨R.SHL_BOOT_STATUS, 6, 6⟩
def SHL_BOOT_STATUS_REASON : Fld := ⟨R.SHL_BOOT_STATUS, 15, 8⟩
def SHL_BIND_CMD_OP : Fld := ⟨R.SHL_BIND_CMD, 2, 0⟩
def SHL_BIND_CMD_WINDOW : Fld := ⟨R.SHL_BIND_CMD, 13, 8⟩
def SHL_BIND_CMD_VARIANT : Fld := ⟨R.SHL_BIND_CMD, 27, 16⟩
def SHL_BIND_RESULT_STATUS : Fld := ⟨R.SHL_BIND_RESULT, 7, 0⟩
def SHL_BIND_RESULT_BUSY : Fld := ⟨R.SHL_BIND_RESULT, 8, 8⟩
def SHL_BIND_RESULT_DETAIL : Fld := ⟨R.SHL_BIND_RESULT, 31, 16⟩
def SHL_BIND_SRC_LO_SRC : Fld := ⟨R.SHL_BIND_SRC_LO, 31, 0⟩
def SHL_BIND_SRC_HI_SRC : Fld := ⟨R.SHL_BIND_SRC_HI, 31, 0⟩
def SHL_BIND_LEN_LEN : Fld := ⟨R.SHL_BIND_LEN, 31, 0⟩
def SHL_CAT_DEST_LO_DEST : Fld := ⟨R.SHL_CAT_DEST_LO, 31, 0⟩
def SHL_CAT_DEST_HI_DEST : Fld := ⟨R.SHL_CAT_DEST_HI, 31, 0⟩
def SHL_BIND_STATUS_STAGED : Fld := ⟨R.SHL_BIND_STATUS, 0, 0⟩
def SHL_BIND_STATUS_LOADED : Fld := ⟨R.SHL_BIND_STATUS, 1, 1⟩
def SHL_BIND_STATUS_STALE : Fld := ⟨R.SHL_BIND_STATUS, 2, 2⟩
def SHL_BIND_STATUS_RESTORING : Fld := ⟨R.SHL_BIND_STATUS, 3, 3⟩
def SHL_BIND_STATUS_IN_FORCE : Fld := ⟨R.SHL_BIND_STATUS, 4, 4⟩
def SHL_BIND_STATUS_RESTORE_NEEDED : Fld := ⟨R.SHL_BIND_STATUS, 15, 8⟩
def SHL_BIND_STATUS_FW_ABI : Fld := ⟨R.SHL_BIND_STATUS, 31, 16⟩
def SHL_BIND_FAULT_ADDR_LO_ADDR : Fld := ⟨R.SHL_BIND_FAULT_ADDR_LO, 31, 0⟩
def SHL_BIND_FAULT_ADDR_HI_ADDR : Fld := ⟨R.SHL_BIND_FAULT_ADDR_HI, 31, 0⟩
def SHL_MSET_ID_ID : Fld := ⟨R.SHL_MSET_ID, 31, 0⟩
def SHL_CAT_SIZE_GIB : Fld := ⟨R.SHL_CAT_SIZE, 6, 0⟩
def SHL_CAT_USED_USED : Fld := ⟨R.SHL_CAT_USED, 31, 0⟩
def SHL_BIND_LOAD_COUNT_COUNT : Fld := ⟨R.SHL_BIND_LOAD_COUNT, 31, 0⟩
def SHL_BIND_RESTORE_COUNT_COUNT : Fld := ⟨R.SHL_BIND_RESTORE_COUNT, 31, 0⟩
def SHL_BIND_DIGEST_DIGEST (n : Nat) : Fld := ⟨R.SHL_BIND_DIGEST n, 31, 0⟩
def SHL_STAGE_DIGEST_DIGEST (n : Nat) : Fld := ⟨R.SHL_STAGE_DIGEST n, 31, 0⟩
def SHL_MSET_DIGEST_DIGEST (n : Nat) : Fld := ⟨R.SHL_MSET_DIGEST n, 31, 0⟩
def SHL_MSET_VARIANT (q s : Nat) : Fld := ⟨R.SHL_MSET q s, 11, 0⟩
def SHL_MSET_USE (q s : Nat) : Fld := ⟨R.SHL_MSET q s, 15, 15⟩
def DKL_TIME_LO_TIME_LO : Fld := ⟨R.DKL_TIME_LO, 31, 0⟩
def DKL_TIME_HI_TIME_HI : Fld := ⟨R.DKL_TIME_HI, 31, 0⟩
def DKL_DELAY_IN_DELAY : Fld := ⟨R.DKL_DELAY_IN, 15, 0⟩
def DKL_DELAY_OUT_DELAY : Fld := ⟨R.DKL_DELAY_OUT, 15, 0⟩
def DKL_PROVEN_IN_PATH : Fld := ⟨R.DKL_PROVEN_IN, 15, 0⟩
def DKL_PROVEN_OUT_PATH : Fld := ⟨R.DKL_PROVEN_OUT, 15, 0⟩
def DKL_MARGIN_MARGIN : Fld := ⟨R.DKL_MARGIN, 15, 0⟩
def DKL_MARGIN_DOMAIN : Fld := ⟨R.DKL_MARGIN, 23, 16⟩
def DKL_RAIL_LIMIT_MIN_MV : Fld := ⟨R.DKL_RAIL_LIMIT, 9, 0⟩
def DKL_RAIL_LIMIT_MAX_MV : Fld := ⟨R.DKL_RAIL_LIMIT, 25, 16⟩
def DKL_RAIL_SETPOINT_MV : Fld := ⟨R.DKL_RAIL, 9, 0⟩
def DKL_RAIL_AT_MAX : Fld := ⟨R.DKL_RAIL, 16, 16⟩
def DKL_STATUS_THROTTLE : Fld := ⟨R.DKL_STATUS, 0, 0⟩
def DKL_STATUS_HALT : Fld := ⟨R.DKL_STATUS, 1, 1⟩
def DKL_STATUS_REF_LOST : Fld := ⟨R.DKL_STATUS, 2, 2⟩
def DKL_STATUS_LATE_SEEN : Fld := ⟨R.DKL_STATUS, 8, 8⟩
def DKL_STATUS_THROTTLE_SEEN : Fld := ⟨R.DKL_STATUS, 9, 9⟩
def DKL_STATUS_HALT_SEEN : Fld := ⟨R.DKL_STATUS, 10, 10⟩
def DKL_STATUS_REF_LOST_SEEN : Fld := ⟨R.DKL_STATUS, 11, 11⟩
def DKL_GATHER_CMD_CMD : Fld := ⟨R.DKL_GATHER_CMD, 1, 0⟩
def DKL_GATHER_STATUS_STATE : Fld := ⟨R.DKL_GATHER_STATUS, 2, 0⟩
def DKL_GATHER_STATUS_RESULT : Fld := ⟨R.DKL_GATHER_STATUS, 15, 8⟩
def DKL_GATHER_STATUS_REVERTED : Fld := ⟨R.DKL_GATHER_STATUS, 16, 16⟩
def DKL_GATHER_STATUS_EXHAUSTED : Fld := ⟨R.DKL_GATHER_STATUS, 17, 17⟩
def DKL_GATHER_STATUS_TIMER : Fld := ⟨R.DKL_GATHER_STATUS, 18, 18⟩
def DKL_GATHER_ID_ID : Fld := ⟨R.DKL_GATHER_ID, 31, 0⟩
def DKL_OPEN_LIMIT_LIMIT_US : Fld := ⟨R.DKL_OPEN_LIMIT, 15, 0⟩
def DKL_LATE_LIMIT_LIMIT : Fld := ⟨R.DKL_LATE_LIMIT, 3, 0⟩
def DKL_LATE_IN_COUNT_COUNT : Fld := ⟨R.DKL_LATE_IN_COUNT, 31, 0⟩
def DKL_LATE_OUT_COUNT_COUNT : Fld := ⟨R.DKL_LATE_OUT_COUNT, 31, 0⟩
def DKL_TENANT_POSTURE_OPEN (n : Nat) : Fld := ⟨R.DKL_TENANT_POSTURE n, 31, 0⟩
def LDG_FOLIO_CMD_FOLIO : Fld := ⟨R.LDG_FOLIO_CMD, 15, 0⟩
def LDG_FOLIO_CMD_GEN : Fld := ⟨R.LDG_FOLIO_CMD, 23, 16⟩
def LDG_FOLIO_CMD_CMD : Fld := ⟨R.LDG_FOLIO_CMD, 26, 24⟩
def LDG_FOLIO_RESULT_STATUS : Fld := ⟨R.LDG_FOLIO_RESULT, 7, 0⟩
def LDG_FOLIO_RESULT_BUSY : Fld := ⟨R.LDG_FOLIO_RESULT, 8, 8⟩
def LDG_LIVE_LIVE : Fld := ⟨R.LDG_LIVE, 16, 0⟩
def LDG_FREE_FREE : Fld := ⟨R.LDG_FREE, 16, 0⟩
def LDG_SCAN_PERIOD_PERIOD_MS : Fld := ⟨R.LDG_SCAN_PERIOD, 9, 0⟩
def LDG_RETAIN_RETAIN_MS : Fld := ⟨R.LDG_RETAIN, 15, 0⟩
def LDG_STATUS_FULL : Fld := ⟨R.LDG_STATUS, 0, 0⟩
def LDG_STATUS_FULL_SEEN : Fld := ⟨R.LDG_STATUS, 8, 8⟩
def LDG_STATUS_EXPIRED_SEEN : Fld := ⟨R.LDG_STATUS, 9, 9⟩
def LDG_STATUS_ORPHAN_SEEN : Fld := ⟨R.LDG_STATUS, 10, 10⟩
def LDG_STATUS_FT_FREE_LOST_SEEN : Fld := ⟨R.LDG_STATUS, 11, 11⟩
def LDG_CANCEL_COUNT_COUNT : Fld := ⟨R.LDG_CANCEL_COUNT, 31, 0⟩
def LDG_EXPIRE_COUNT_COUNT : Fld := ⟨R.LDG_EXPIRE_COUNT, 31, 0⟩
def LDG_ORPHAN_COUNT_COUNT : Fld := ⟨R.LDG_ORPHAN_COUNT, 31, 0⟩
def LDG_DEADLINE_MISS_COUNT_COUNT : Fld := ⟨R.LDG_DEADLINE_MISS_COUNT, 31, 0⟩
def LDG_SNAP_DATA (n : Nat) : Fld := ⟨R.LDG_SNAP n, 31, 0⟩
def ADM_CHAN_IN_MODE : Fld := ⟨R.ADM_CHAN_IN, 0, 0⟩
def ADM_CHAN_IN_SPARE : Fld := ⟨R.ADM_CHAN_IN, 1, 1⟩
def ADM_CHAN_IN_LOOKAHEAD : Fld := ⟨R.ADM_CHAN_IN, 15, 8⟩
def ADM_CHAN_IN_TENANT_CAP : Fld := ⟨R.ADM_CHAN_IN, 31, 16⟩
def ADM_CHAN_OUT_MODE : Fld := ⟨R.ADM_CHAN_OUT, 0, 0⟩
def ADM_CHAN_OUT_SPARE : Fld := ⟨R.ADM_CHAN_OUT, 1, 1⟩
def ADM_CHAN_OUT_LOOKAHEAD : Fld := ⟨R.ADM_CHAN_OUT, 15, 8⟩
def ADM_CHAN_OUT_TENANT_CAP : Fld := ⟨R.ADM_CHAN_OUT, 31, 16⟩
def ADM_BAL_LIMIT_MIN_OUT : Fld := ⟨R.ADM_BAL_LIMIT, 5, 0⟩
def ADM_BAL_LIMIT_MAX_OUT : Fld := ⟨R.ADM_BAL_LIMIT, 13, 8⟩
def ADM_BAL_LIMIT_INIT : Fld := ⟨R.ADM_BAL_LIMIT, 18, 16⟩
def ADM_BAL_CTRL_HYST : Fld := ⟨R.ADM_BAL_CTRL, 9, 0⟩
def ADM_BAL_CTRL_PERIOD_US : Fld := ⟨R.ADM_BAL_CTRL, 19, 10⟩
def ADM_BAL_CTRL_CONFIRM : Fld := ⟨R.ADM_BAL_CTRL, 23, 20⟩
def ADM_BAL_CTRL_ENABLE : Fld := ⟨R.ADM_BAL_CTRL, 31, 31⟩
def ADM_BAL_STATUS_OUT_GROUPS : Fld := ⟨R.ADM_BAL_STATUS, 6, 0⟩
def ADM_BAL_STATUS_MOVING : Fld := ⟨R.ADM_BAL_STATUS, 7, 7⟩
def ADM_BAL_STATUS_MOVE_QUIRE : Fld := ⟨R.ADM_BAL_STATUS, 10, 8⟩
def ADM_BAL_STATUS_MOVE_TO_OUT : Fld := ⟨R.ADM_BAL_STATUS, 11, 11⟩
def ADM_BAL_STATUS_STREAK : Fld := ⟨R.ADM_BAL_STATUS, 15, 12⟩
def ADM_OCC_O_IN : Fld := ⟨R.ADM_OCC, 10, 0⟩
def ADM_OCC_O_OUT : Fld := ⟨R.ADM_OCC, 26, 16⟩
def ADM_SPLIT_OUT_Q : Fld := ⟨R.ADM_SPLIT, 31, 0⟩
def ADM_STATUS_QUEUE_FULL_SEEN : Fld := ⟨R.ADM_STATUS, 0, 0⟩
def ADM_STATUS_BYPASS_LIMIT_SEEN : Fld := ⟨R.ADM_STATUS, 1, 1⟩
def ADM_STATUS_MOVE_BLOCKED_SEEN : Fld := ⟨R.ADM_STATUS, 2, 2⟩
def ADM_STATUS_SPARE_SEEN : Fld := ⟨R.ADM_STATUS, 3, 3⟩
def ADM_ADMIT_IN_COUNT_COUNT : Fld := ⟨R.ADM_ADMIT_IN_COUNT, 31, 0⟩
def ADM_ADMIT_OUT_COUNT_COUNT : Fld := ⟨R.ADM_ADMIT_OUT_COUNT, 31, 0⟩
def ADM_REFUSE_COUNT_COUNT : Fld := ⟨R.ADM_REFUSE_COUNT, 31, 0⟩
def ADM_SPARE_COUNT_COUNT : Fld := ⟨R.ADM_SPARE_COUNT, 31, 0⟩
def ADM_MOVE_COUNT_COUNT : Fld := ⟨R.ADM_MOVE_COUNT, 31, 0⟩
def ADM_WAIT_IN_MAX_MAX : Fld := ⟨R.ADM_WAIT_IN_MAX, 31, 0⟩
def ADM_WAIT_OUT_MAX_MAX : Fld := ⟨R.ADM_WAIT_OUT_MAX, 31, 0⟩
def ADM_WAIT_IN_SUM_LO_SUM : Fld := ⟨R.ADM_WAIT_IN_SUM_LO, 31, 0⟩
def ADM_WAIT_IN_SUM_HI_SUM : Fld := ⟨R.ADM_WAIT_IN_SUM_HI, 31, 0⟩
def ADM_WAIT_OUT_SUM_LO_SUM : Fld := ⟨R.ADM_WAIT_OUT_SUM_LO, 31, 0⟩
def ADM_WAIT_OUT_SUM_HI_SUM : Fld := ⟨R.ADM_WAIT_OUT_SUM_HI, 31, 0⟩
def ADM_TENANT_WEIGHT_WEIGHT_IN (n : Nat) : Fld := ⟨R.ADM_TENANT_WEIGHT n, 7, 0⟩
def ADM_TENANT_WEIGHT_WEIGHT_OUT (n : Nat) : Fld := ⟨R.ADM_TENANT_WEIGHT n, 15, 8⟩
def ADM_TENANT_RATE_IN_RATE (n : Nat) : Fld := ⟨R.ADM_TENANT_RATE_IN n, 23, 0⟩
def ADM_TENANT_RATE_OUT_RATE (n : Nat) : Fld := ⟨R.ADM_TENANT_RATE_OUT n, 23, 0⟩
def ADM_TENANT_BURST_BURST_IN (n : Nat) : Fld := ⟨R.ADM_TENANT_BURST n, 15, 0⟩
def ADM_TENANT_BURST_BURST_OUT (n : Nat) : Fld := ⟨R.ADM_TENANT_BURST n, 31, 16⟩
def PVC_CTRL_ENABLE : Fld := ⟨R.PVC_CTRL, 0, 0⟩
def PVC_CTRL_FILL : Fld := ⟨R.PVC_CTRL, 1, 1⟩
def PVC_CTRL_KEEP_BOOKING : Fld := ⟨R.PVC_CTRL, 2, 2⟩
def PVC_CMD_TENANT : Fld := ⟨R.PVC_CMD, 9, 0⟩
def PVC_CMD_CMD : Fld := ⟨R.PVC_CMD, 17, 16⟩
def PVC_CMD_RESULT_STATUS : Fld := ⟨R.PVC_CMD_RESULT, 7, 0⟩
def PVC_CMD_RESULT_BUSY : Fld := ⟨R.PVC_CMD_RESULT, 8, 8⟩
def PVC_CAP_ENTRIES : Fld := ⟨R.PVC_CAP, 20, 0⟩
def PVC_SNAP_BYTES_BYTES : Fld := ⟨R.PVC_SNAP_BYTES, 31, 0⟩
def PVC_STATUS_VERIFY_FAIL_SEEN : Fld := ⟨R.PVC_STATUS, 0, 0⟩
def PVC_STATUS_ECC_SEEN : Fld := ⟨R.PVC_STATUS, 1, 1⟩
def PVC_STATUS_FILL_SKIP_SEEN : Fld := ⟨R.PVC_STATUS, 2, 2⟩
def PVC_PROBE_COUNT_COUNT : Fld := ⟨R.PVC_PROBE_COUNT, 31, 0⟩
def PVC_HIT_COUNT_COUNT : Fld := ⟨R.PVC_HIT_COUNT, 31, 0⟩
def PVC_FILL_COUNT_COUNT : Fld := ⟨R.PVC_FILL_COUNT, 31, 0⟩
def PVC_FILL_SKIP_COUNT_COUNT : Fld := ⟨R.PVC_FILL_SKIP_COUNT, 31, 0⟩
def PVC_VERIFY_FAIL_COUNT_COUNT : Fld := ⟨R.PVC_VERIFY_FAIL_COUNT, 31, 0⟩
def PVC_ECC_COUNT_COUNT : Fld := ⟨R.PVC_ECC_COUNT, 31, 0⟩
def PVC_VERIFY_VERIFY (n : Nat) : Fld := ⟨R.PVC_VERIFY n, 31, 0⟩
def PVC_EPOCH_EPOCH (n : Nat) : Fld := ⟨R.PVC_EPOCH n, 31, 0⟩
def QUIRE_TWE_MODEL_NODES (n : Nat) : Fld := ⟨R.QUIRE_TWE_MODEL n, 24, 0⟩
def QUIRE_TWE_TREES_TREES (n : Nat) : Fld := ⟨R.QUIRE_TWE_TREES n, 14, 0⟩
def QUIRE_TWE_TREES_ENSEMBLES (n : Nat) : Fld := ⟨R.QUIRE_TWE_TREES n, 24, 16⟩
def QUIRE_TWE_OCC_IN_FLIGHT (n m : Nat) : Fld := ⟨R.QUIRE_TWE_OCC n m, 9, 0⟩
def QUIRE_TWE_OCC_CHANNEL (n m : Nat) : Fld := ⟨R.QUIRE_TWE_OCC n m, 10, 10⟩
def QUIRE_TWE_OCC_FENCED (n m : Nat) : Fld := ⟨R.QUIRE_TWE_OCC n m, 11, 11⟩
def QUIRE_TWE_OCC_QUEUED (n m : Nat) : Fld := ⟨R.QUIRE_TWE_OCC n m, 31, 16⟩
def QUIRE_TWE_STATUS_COMPARE_SEEN (n : Nat) : Fld := ⟨R.QUIRE_TWE_STATUS n, 0, 0⟩
def QUIRE_TWE_STATUS_RESIDUE_SEEN (n : Nat) : Fld := ⟨R.QUIRE_TWE_STATUS n, 1, 1⟩
def QUIRE_TWE_STATUS_OVERFLOW_SEEN (n : Nat) : Fld := ⟨R.QUIRE_TWE_STATUS n, 2, 2⟩
def QUIRE_TWE_STATUS_MEMORY_SEEN (n : Nat) : Fld := ⟨R.QUIRE_TWE_STATUS n, 3, 3⟩
def QUIRE_TWE_STATUS_DEPTH_SEEN (n : Nat) : Fld := ⟨R.QUIRE_TWE_STATUS n, 4, 4⟩
def QUIRE_TWE_STATUS_UNSEEN_SEEN (n : Nat) : Fld := ⟨R.QUIRE_TWE_STATUS n, 5, 5⟩
def QUIRE_TWE_STATUS_LAST_ENGINE (n : Nat) : Fld := ⟨R.QUIRE_TWE_STATUS n, 10, 8⟩
def QUIRE_TWE_VISIT_LO_VISITS (n : Nat) : Fld := ⟨R.QUIRE_TWE_VISIT_LO n, 31, 0⟩
def QUIRE_TWE_VISIT_HI_VISITS (n : Nat) : Fld := ⟨R.QUIRE_TWE_VISIT_HI n, 31, 0⟩
def QUIRE_TWE_TREE_COUNT_COUNT (n : Nat) : Fld := ⟨R.QUIRE_TWE_TREE_COUNT n, 31, 0⟩
def QUIRE_TWE_MISSING_COUNT_COUNT (n : Nat) : Fld := ⟨R.QUIRE_TWE_MISSING_COUNT n, 31, 0⟩
def QUIRE_TWE_UNSEEN_COUNT_COUNT (n : Nat) : Fld := ⟨R.QUIRE_TWE_UNSEEN_COUNT n, 31, 0⟩
def QUIRE_TWE_FAULT_COUNT_COUNT (n : Nat) : Fld := ⟨R.QUIRE_TWE_FAULT_COUNT n, 31, 0⟩
def QUIRE_AMT_CTRL_EPS_LIMIT (n : Nat) : Fld := ⟨R.QUIRE_AMT_CTRL n, 7, 0⟩
def QUIRE_AMT_CTRL_CAL_ALL (n : Nat) : Fld := ⟨R.QUIRE_AMT_CTRL n, 8, 8⟩
def QUIRE_AMT_CTRL_GATHER_NS (n : Nat) : Fld := ⟨R.QUIRE_AMT_CTRL n, 25, 12⟩
def QUIRE_AMT_STATUS_WITNESS_SEEN (n : Nat) : Fld := ⟨R.QUIRE_AMT_STATUS n, 0, 0⟩
def QUIRE_AMT_STATUS_ROW_SEEN (n : Nat) : Fld := ⟨R.QUIRE_AMT_STATUS n, 1, 1⟩
def QUIRE_AMT_STATUS_SATURATE_SEEN (n : Nat) : Fld := ⟨R.QUIRE_AMT_STATUS n, 2, 2⟩
def QUIRE_AMT_STATUS_STALE_SEEN (n : Nat) : Fld := ⟨R.QUIRE_AMT_STATUS n, 3, 3⟩
def QUIRE_AMT_STATUS_CAL_FAIL_SEEN (n : Nat) : Fld := ⟨R.QUIRE_AMT_STATUS n, 4, 4⟩
def QUIRE_AMT_PASS_COUNT_COUNT (n : Nat) : Fld := ⟨R.QUIRE_AMT_PASS_COUNT n, 31, 0⟩
def QUIRE_AMT_CERT_COUNT_COUNT (n : Nat) : Fld := ⟨R.QUIRE_AMT_CERT_COUNT n, 31, 0⟩
def QUIRE_AMT_UNCERT_COUNT_COUNT (n : Nat) : Fld := ⟨R.QUIRE_AMT_UNCERT_COUNT n, 31, 0⟩
def QUIRE_AMT_WITNESS_FAIL_COUNT_COUNT (n : Nat) : Fld := ⟨R.QUIRE_AMT_WITNESS_FAIL_COUNT n, 31, 0⟩
def QUIRE_AMT_ROW_FAIL_COUNT_COUNT (n : Nat) : Fld := ⟨R.QUIRE_AMT_ROW_FAIL_COUNT n, 31, 0⟩
def QUIRE_AMT_CAL_COUNT_COUNT (n : Nat) : Fld := ⟨R.QUIRE_AMT_CAL_COUNT n, 31, 0⟩
def QUIRE_AMT_STATE_EPS16 (n t : Nat) : Fld := ⟨R.QUIRE_AMT_STATE n t, 7, 0⟩
def QUIRE_AMT_STATE_T_CAL (n t : Nat) : Fld := ⟨R.QUIRE_AMT_STATE n t, 14, 8⟩
def QUIRE_AMT_STATE_VALID (n t : Nat) : Fld := ⟨R.QUIRE_AMT_STATE n t, 16, 16⟩
def QUIRE_AMT_STATE_DISABLED (n t : Nat) : Fld := ⟨R.QUIRE_AMT_STATE n t, 17, 17⟩
def QUIRE_AMT_STATE_CALIBRATING (n t : Nat) : Fld := ⟨R.QUIRE_AMT_STATE n t, 18, 18⟩
def QUIRE_AMT_STATE_STALE (n t : Nat) : Fld := ⟨R.QUIRE_AMT_STATE n t, 19, 19⟩
def QUIRE_AMT_STATE_AGE (n t : Nat) : Fld := ⟨R.QUIRE_AMT_STATE n t, 31, 20⟩
def QUIRE_AMA_BANK_CFG_WIDTH (n m : Nat) : Fld := ⟨R.QUIRE_AMA_BANK_CFG n m, 1, 0⟩
def QUIRE_AMA_BANK_CFG_IN_TABLE (n m : Nat) : Fld := ⟨R.QUIRE_AMA_BANK_CFG n m, 2, 2⟩
def QUIRE_AMA_BANK_CFG_TABLE (n m : Nat) : Fld := ⟨R.QUIRE_AMA_BANK_CFG n m, 8, 3⟩
def QUIRE_AMA_BANK_CFG_KIND (n m : Nat) : Fld := ⟨R.QUIRE_AMA_BANK_CFG n m, 9, 9⟩
def QUIRE_AMA_BANK_CFG_ORDER (n m : Nat) : Fld := ⟨R.QUIRE_AMA_BANK_CFG n m, 17, 10⟩
def QUIRE_AMA_BANK_CFG_CASCADE (n m : Nat) : Fld := ⟨R.QUIRE_AMA_BANK_CFG n m, 18, 18⟩
def QUIRE_AMA_STATUS_INCOMPLETE_SEEN (n : Nat) : Fld := ⟨R.QUIRE_AMA_STATUS n, 0, 0⟩
def QUIRE_AMA_SEARCH_COUNT_COUNT (n : Nat) : Fld := ⟨R.QUIRE_AMA_SEARCH_COUNT n, 31, 0⟩
def QUIRE_AMA_HIT_COUNT_COUNT (n : Nat) : Fld := ⟨R.QUIRE_AMA_HIT_COUNT n, 31, 0⟩
def QUIRE_AMA_INCOMPLETE_COUNT_COUNT (n : Nat) : Fld := ⟨R.QUIRE_AMA_INCOMPLETE_COUNT n, 31, 0⟩
def QUIRE_AMA_UPD_VALUE_LO_VALUE_LO (n u : Nat) : Fld := ⟨R.QUIRE_AMA_UPD_VALUE_LO n u, 31, 0⟩
def QUIRE_AMA_UPD_VALUE_HI_VALUE_HI (n u : Nat) : Fld := ⟨R.QUIRE_AMA_UPD_VALUE_HI n u, 31, 0⟩
def QUIRE_AMA_UPD_CARE_LO_CARE_LO (n u : Nat) : Fld := ⟨R.QUIRE_AMA_UPD_CARE_LO n u, 31, 0⟩
def QUIRE_AMA_UPD_CARE_HI_CARE_HI (n u : Nat) : Fld := ⟨R.QUIRE_AMA_UPD_CARE_HI n u, 31, 0⟩
def QUIRE_AMA_UPD_TAG_TAG (n u : Nat) : Fld := ⟨R.QUIRE_AMA_UPD_TAG n u, 15, 0⟩
def QUIRE_AMA_UPD_CMD_SLOT (n : Nat) : Fld := ⟨R.QUIRE_AMA_UPD_CMD n, 14, 0⟩
def QUIRE_AMA_UPD_CMD_BANK (n : Nat) : Fld := ⟨R.QUIRE_AMA_UPD_CMD n, 19, 15⟩
def QUIRE_AMA_UPD_CMD_OP (n : Nat) : Fld := ⟨R.QUIRE_AMA_UPD_CMD n, 22, 20⟩
def QUIRE_AMA_UPD_RESULT_STATUS (n : Nat) : Fld := ⟨R.QUIRE_AMA_UPD_RESULT n, 7, 0⟩
def QUIRE_AMA_UPD_RESULT_BUSY (n : Nat) : Fld := ⟨R.QUIRE_AMA_UPD_RESULT n, 8, 8⟩
def QUIRE_AMA_UPD_RESULT_SUSPENDED (n : Nat) : Fld := ⟨R.QUIRE_AMA_UPD_RESULT n, 9, 9⟩
def QUIRE_AMA_UPD_RESULT_RESUMED (n : Nat) : Fld := ⟨R.QUIRE_AMA_UPD_RESULT n, 10, 10⟩
def QUIRE_AMA_UPD_RESULT_PLACED_SLOT (n : Nat) : Fld := ⟨R.QUIRE_AMA_UPD_RESULT n, 29, 16⟩
def QUIRE_AMA_UPD_RESULT_STEPS (n : Nat) : Fld := ⟨R.QUIRE_AMA_UPD_RESULT n, 31, 30⟩
def QUIRE_AMA_UPD_VER_LO_VER (n : Nat) : Fld := ⟨R.QUIRE_AMA_UPD_VER_LO n, 31, 0⟩
def QUIRE_AMA_UPD_VER_HI_VER (n : Nat) : Fld := ⟨R.QUIRE_AMA_UPD_VER_HI n, 31, 0⟩
def QUIRE_AMA_UPD_TICK0_LO_TICK0 (n : Nat) : Fld := ⟨R.QUIRE_AMA_UPD_TICK0_LO n, 31, 0⟩
def QUIRE_AMA_UPD_TICK0_HI_TICK0 (n : Nat) : Fld := ⟨R.QUIRE_AMA_UPD_TICK0_HI n, 31, 0⟩
def QUIRE_AMA_UPD_TICK1_LO_TICK1 (n : Nat) : Fld := ⟨R.QUIRE_AMA_UPD_TICK1_LO n, 31, 0⟩
def QUIRE_AMA_UPD_TICK1_HI_TICK1 (n : Nat) : Fld := ⟨R.QUIRE_AMA_UPD_TICK1_HI n, 31, 0⟩
def QUIRE_AMA_UPD_MOVED_COUNT (n : Nat) : Fld := ⟨R.QUIRE_AMA_UPD_MOVED n, 13, 0⟩
def QUIRE_AMA_UPD_MOVED_DIR (n : Nat) : Fld := ⟨R.QUIRE_AMA_UPD_MOVED n, 16, 16⟩
def QUIRE_AMA_UPD_VER0_LO_VER0 (n : Nat) : Fld := ⟨R.QUIRE_AMA_UPD_VER0_LO n, 31, 0⟩
def QUIRE_AMA_UPD_VER0_HI_VER0 (n : Nat) : Fld := ⟨R.QUIRE_AMA_UPD_VER0_HI n, 31, 0⟩
def QUIRE_AMA_JOURNAL_0_STATE (n : Nat) : Fld := ⟨R.QUIRE_AMA_JOURNAL_0 n, 1, 0⟩
def QUIRE_AMA_JOURNAL_0_BANK (n : Nat) : Fld := ⟨R.QUIRE_AMA_JOURNAL_0 n, 6, 2⟩
def QUIRE_AMA_JOURNAL_0_DIR (n : Nat) : Fld := ⟨R.QUIRE_AMA_JOURNAL_0 n, 7, 7⟩
def QUIRE_AMA_JOURNAL_0_SUBSTEP (n : Nat) : Fld := ⟨R.QUIRE_AMA_JOURNAL_0 n, 9, 8⟩
def QUIRE_AMA_JOURNAL_0_GOOD (n : Nat) : Fld := ⟨R.QUIRE_AMA_JOURNAL_0 n, 10, 10⟩
def QUIRE_AMA_JOURNAL_1_CURSOR (n : Nat) : Fld := ⟨R.QUIRE_AMA_JOURNAL_1 n, 13, 0⟩
def QUIRE_AMA_JOURNAL_1_TARGET (n : Nat) : Fld := ⟨R.QUIRE_AMA_JOURNAL_1 n, 29, 16⟩
def QUIRE_AMA_JOURNAL_2_GUTTER (n : Nat) : Fld := ⟨R.QUIRE_AMA_JOURNAL_2 n, 13, 0⟩
def QUIRE_AMA_JOURNAL_2_WIDTH (n : Nat) : Fld := ⟨R.QUIRE_AMA_JOURNAL_2 n, 15, 14⟩
def QUIRE_AMA_SCRUB_CTRL_PERIOD_MS (n : Nat) : Fld := ⟨R.QUIRE_AMA_SCRUB_CTRL n, 9, 0⟩
def QUIRE_AMA_MAINT_STATUS_FALSE_HIT_SEEN (n : Nat) : Fld := ⟨R.QUIRE_AMA_MAINT_STATUS n, 0, 0⟩
def QUIRE_AMA_MAINT_STATUS_QUARANTINE_SEEN (n : Nat) : Fld := ⟨R.QUIRE_AMA_MAINT_STATUS n, 1, 1⟩
def QUIRE_AMA_MAINT_STATUS_JOURNAL_BAD_SEEN (n : Nat) : Fld := ⟨R.QUIRE_AMA_MAINT_STATUS n, 2, 2⟩
def QUIRE_AMA_MAINT_STATUS_SCRUB_FIX_SEEN (n : Nat) : Fld := ⟨R.QUIRE_AMA_MAINT_STATUS n, 3, 3⟩
def QUIRE_AMA_FAILED_FAILED (n : Nat) : Fld := ⟨R.QUIRE_AMA_FAILED n, 31, 0⟩
def QUIRE_AMA_QUARANTINE_QUARANTINE (n : Nat) : Fld := ⟨R.QUIRE_AMA_QUARANTINE n, 31, 0⟩
def QUIRE_AMA_FALSE_HIT_COUNT_COUNT (n : Nat) : Fld := ⟨R.QUIRE_AMA_FALSE_HIT_COUNT n, 31, 0⟩
def QUIRE_AMA_SCRUB_FIX_COUNT_COUNT (n : Nat) : Fld := ⟨R.QUIRE_AMA_SCRUB_FIX_COUNT n, 31, 0⟩
def QUIRE_AMA_QUARANTINE_COUNT_COUNT (n : Nat) : Fld := ⟨R.QUIRE_AMA_QUARANTINE_COUNT n, 31, 0⟩
def QUIRE_AMA_MOVE_COPY_COUNT_COUNT (n : Nat) : Fld := ⟨R.QUIRE_AMA_MOVE_COPY_COUNT n, 31, 0⟩
def QUIRE_XL_RESERVE_PERCENT (n : Nat) : Fld := ⟨R.QUIRE_XL_RESERVE n, 4, 0⟩
def QUIRE_XL_STATUS_OVER_SEEN (n : Nat) : Fld := ⟨R.QUIRE_XL_STATUS n, 0, 0⟩
def QUIRE_XL_STATUS_RESIDUE_SEEN (n : Nat) : Fld := ⟨R.QUIRE_XL_STATUS n, 1, 1⟩
def QUIRE_XL_STATUS_BOUND_SEEN (n : Nat) : Fld := ⟨R.QUIRE_XL_STATUS n, 2, 2⟩
def QUIRE_XL_STATUS_MEMORY_SEEN (n : Nat) : Fld := ⟨R.QUIRE_XL_STATUS n, 3, 3⟩
def QUIRE_XL_DEMAND_USED_PERMILLE (n : Nat) : Fld := ⟨R.QUIRE_XL_DEMAND n, 11, 0⟩
def QUIRE_XL_DEMAND_QUEUED (n : Nat) : Fld := ⟨R.QUIRE_XL_DEMAND n, 31, 16⟩
def QUIRE_XL_RERUN_IN_COUNT_COUNT (n : Nat) : Fld := ⟨R.QUIRE_XL_RERUN_IN_COUNT n, 31, 0⟩
def QUIRE_XL_RERUN_OUT_COUNT_COUNT (n : Nat) : Fld := ⟨R.QUIRE_XL_RERUN_OUT_COUNT n, 31, 0⟩
def QUIRE_XL_LATE_COUNT_COUNT (n : Nat) : Fld := ⟨R.QUIRE_XL_LATE_COUNT n, 31, 0⟩
def QUIRE_XL_FAULT_COUNT_COUNT (n : Nat) : Fld := ⟨R.QUIRE_XL_FAULT_COUNT n, 31, 0⟩
def TSU_STATUS_REJECT_SEEN : Fld := ⟨R.TSU_STATUS, 0, 0⟩
def TSU_STATUS_SPEC_SEEN : Fld := ⟨R.TSU_STATUS, 1, 1⟩
def TSU_STATUS_ALL_MASKED_SEEN : Fld := ⟨R.TSU_STATUS, 2, 2⟩
def TSU_STATUS_COUNT_FULL_SEEN : Fld := ⟨R.TSU_STATUS, 3, 3⟩
def TSU_COUNT_CAP_ENTRIES : Fld := ⟨R.TSU_COUNT_CAP, 31, 0⟩
def TSU_COUNT_USED_ENTRIES : Fld := ⟨R.TSU_COUNT_USED, 31, 0⟩
def TSU_SELECT_COUNT_COUNT : Fld := ⟨R.TSU_SELECT_COUNT, 31, 0⟩
def TSU_MASKED_COUNT_COUNT : Fld := ⟨R.TSU_MASKED_COUNT, 31, 0⟩
def TSU_ALL_MASKED_COUNT_COUNT : Fld := ⟨R.TSU_ALL_MASKED_COUNT, 31, 0⟩
def TSU_REJECT_COUNT_COUNT : Fld := ⟨R.TSU_REJECT_COUNT, 31, 0⟩
def TSU_SPEC_COUNT_COUNT : Fld := ⟨R.TSU_SPEC_COUNT, 31, 0⟩
def TSU_COUNT_FULL_COUNT_COUNT : Fld := ⟨R.TSU_COUNT_FULL_COUNT, 31, 0⟩
def TSU_EXP2_VALUE (k : Nat) : Fld := ⟨R.TSU_EXP2 k, 31, 0⟩
def SPN_PORT_CTRL_ENABLE (p : Nat) : Fld := ⟨R.SPN_PORT_CTRL p, 0, 0⟩
def SPN_PORT_CTRL_RATE_64 (p : Nat) : Fld := ⟨R.SPN_PORT_CTRL p, 1, 1⟩
def SPN_PORT_CTRL_WIDTH_4 (p : Nat) : Fld := ⟨R.SPN_PORT_CTRL p, 2, 2⟩
def SPN_PORT_CTRL_RETRAIN (p : Nat) : Fld := ⟨R.SPN_PORT_CTRL p, 3, 3⟩
def SPN_PORT_CTRL_FULL_TRAIN (p : Nat) : Fld := ⟨R.SPN_PORT_CTRL p, 4, 4⟩
def SPN_PORT_STATUS_STATE (p : Nat) : Fld := ⟨R.SPN_PORT_STATUS p, 2, 0⟩
def SPN_PORT_STATUS_RATE (p : Nat) : Fld := ⟨R.SPN_PORT_STATUS p, 3, 3⟩
def SPN_PORT_STATUS_WIDTH (p : Nat) : Fld := ⟨R.SPN_PORT_STATUS p, 4, 4⟩
def SPN_PORT_STATUS_REVERSED (p : Nat) : Fld := ⟨R.SPN_PORT_STATUS p, 5, 5⟩
def SPN_PORT_STATUS_HALF (p : Nat) : Fld := ⟨R.SPN_PORT_STATUS p, 6, 6⟩
def SPN_PORT_STATUS_EPS (p : Nat) : Fld := ⟨R.SPN_PORT_STATUS p, 10, 8⟩
def SPN_PORT_STATUS_FEC_UNCORR_SEEN (p : Nat) : Fld := ⟨R.SPN_PORT_STATUS p, 16, 16⟩
def SPN_PORT_STATUS_CRC_SEEN (p : Nat) : Fld := ⟨R.SPN_PORT_STATUS p, 17, 17⟩
def SPN_PORT_STATUS_REPLAY_SEEN (p : Nat) : Fld := ⟨R.SPN_PORT_STATUS p, 18, 18⟩
def SPN_PORT_STATUS_RETRAIN_SEEN (p : Nat) : Fld := ⟨R.SPN_PORT_STATUS p, 19, 19⟩
def SPN_PORT_STATUS_DOWN_SEEN (p : Nat) : Fld := ⟨R.SPN_PORT_STATUS p, 20, 20⟩
def SPN_PORT_STATUS_REJECT_SEEN (p : Nat) : Fld := ⟨R.SPN_PORT_STATUS p, 21, 21⟩
def SPN_PORT_STATUS_CREDIT_SEEN (p : Nat) : Fld := ⟨R.SPN_PORT_STATUS p, 22, 22⟩
def SPN_PORT_LANE_LOCKED (p : Nat) : Fld := ⟨R.SPN_PORT_LANE p, 7, 0⟩
def SPN_PORT_LANE_FAILED (p : Nat) : Fld := ⟨R.SPN_PORT_LANE p, 15, 8⟩
def SPN_PORT_FEC_CORR_COUNT_COUNT (p : Nat) : Fld := ⟨R.SPN_PORT_FEC_CORR_COUNT p, 31, 0⟩
def SPN_PORT_FEC_UNCORR_COUNT_COUNT (p : Nat) : Fld := ⟨R.SPN_PORT_FEC_UNCORR_COUNT p, 31, 0⟩
def SPN_PORT_CRC_COUNT_COUNT (p : Nat) : Fld := ⟨R.SPN_PORT_CRC_COUNT p, 31, 0⟩
def SPN_PORT_REPLAY_COUNT_COUNT (p : Nat) : Fld := ⟨R.SPN_PORT_REPLAY_COUNT p, 31, 0⟩
def SPN_PORT_RETRAIN_COUNT_COUNT (p : Nat) : Fld := ⟨R.SPN_PORT_RETRAIN_COUNT p, 31, 0⟩
def SPN_PORT_TRAIN_COUNT_COUNT (p : Nat) : Fld := ⟨R.SPN_PORT_TRAIN_COUNT p, 31, 0⟩
def SPN_PORT_REJECT_COUNT_COUNT (p : Nat) : Fld := ⟨R.SPN_PORT_REJECT_COUNT p, 31, 0⟩
def SPN_PORT_DROP_COUNT_COUNT (p : Nat) : Fld := ⟨R.SPN_PORT_DROP_COUNT p, 31, 0⟩
def SPN_PORT_TX_FLIT_LO_FLITS (p : Nat) : Fld := ⟨R.SPN_PORT_TX_FLIT_LO p, 31, 0⟩
def SPN_PORT_TX_FLIT_HI_FLITS (p : Nat) : Fld := ⟨R.SPN_PORT_TX_FLIT_HI p, 31, 0⟩
def SPN_PORT_RX_FLIT_LO_FLITS (p : Nat) : Fld := ⟨R.SPN_PORT_RX_FLIT_LO p, 31, 0⟩
def SPN_PORT_RX_FLIT_HI_FLITS (p : Nat) : Fld := ⟨R.SPN_PORT_RX_FLIT_HI p, 31, 0⟩
def SPN_PARTNER_INFO_STATE (n : Nat) : Fld := ⟨R.SPN_PARTNER_INFO n, 2, 0⟩
def SPN_PARTNER_INFO_KIND (n : Nat) : Fld := ⟨R.SPN_PARTNER_INFO n, 6, 4⟩
def SPN_PARTNER_INFO_SPEC (n : Nat) : Fld := ⟨R.SPN_PARTNER_INFO n, 7, 7⟩
def SPN_PARTNER_INFO_PORT (n : Nat) : Fld := ⟨R.SPN_PARTNER_INFO n, 11, 8⟩
def SPN_PARTNER_INFO_EP (n : Nat) : Fld := ⟨R.SPN_PARTNER_INFO n, 13, 12⟩
def SPN_PARTNER_INFO_PAGE_KIB (n : Nat) : Fld := ⟨R.SPN_PARTNER_INFO n, 22, 16⟩
def SPN_PARTNER_INFO_MISSED (n : Nat) : Fld := ⟨R.SPN_PARTNER_INFO n, 27, 24⟩
def SPN_PARTNER_INFO_LOSS (n : Nat) : Fld := ⟨R.SPN_PARTNER_INFO n, 30, 28⟩
def SPN_PARTNER_BOUND_BOUND (n : Nat) : Fld := ⟨R.SPN_PARTNER_BOUND n, 16, 0⟩
def SPN_PARTNER_REFS_REFS (n : Nat) : Fld := ⟨R.SPN_PARTNER_REFS n, 16, 0⟩
def SPN_PARTNER_MAX_STREAMS_MAX_STREAMS (n : Nat) : Fld := ⟨R.SPN_PARTNER_MAX_STREAMS n, 31, 0⟩
def SPN_PARTNER_FT_PAGES_FT_PAGES (n : Nat) : Fld := ⟨R.SPN_PARTNER_FT_PAGES n, 31, 0⟩
def SPN_PARTNER_FT_USED_FT_USED (n : Nat) : Fld := ⟨R.SPN_PARTNER_FT_USED n, 31, 0⟩
def SPN_PARTNER_MAX_BODY_MAX_BODY (n : Nat) : Fld := ⟨R.SPN_PARTNER_MAX_BODY n, 31, 0⟩
def SPN_PARTNER_CMD_CMD (n : Nat) : Fld := ⟨R.SPN_PARTNER_CMD n, 1, 0⟩
def SPN_PARTNER_UNIT_ID_UNIT_ID (n k : Nat) : Fld := ⟨R.SPN_PARTNER_UNIT_ID n k, 31, 0⟩
def SPN_PARTNER_T_ATTACH_LO_T_ATTACH (n : Nat) : Fld := ⟨R.SPN_PARTNER_T_ATTACH_LO n, 31, 0⟩
def SPN_PARTNER_T_ATTACH_HI_T_ATTACH (n : Nat) : Fld := ⟨R.SPN_PARTNER_T_ATTACH_HI n, 31, 0⟩
def SPN_PARTNER_HB_GAP_COUNT_COUNT (n : Nat) : Fld := ⟨R.SPN_PARTNER_HB_GAP_COUNT n, 31, 0⟩
def SPN_UNIT_ID_UNIT_ID (k : Nat) : Fld := ⟨R.SPN_UNIT_ID k, 31, 0⟩
def SPN_PARTNER_SUMMARY_ATTACHED : Fld := ⟨R.SPN_PARTNER_SUMMARY, 5, 0⟩
def SPN_PARTNER_SUMMARY_COOLING : Fld := ⟨R.SPN_PARTNER_SUMMARY, 13, 8⟩
def SPN_PARTNER_STATUS_ATTACH_SEEN : Fld := ⟨R.SPN_PARTNER_STATUS, 0, 0⟩
def SPN_PARTNER_STATUS_LOSS_SEEN : Fld := ⟨R.SPN_PARTNER_STATUS, 1, 1⟩
def SPN_PARTNER_STATUS_ATTACH_FAIL_SEEN : Fld := ⟨R.SPN_PARTNER_STATUS, 2, 2⟩
def SPN_PARTNER_STATUS_FULL_SEEN : Fld := ⟨R.SPN_PARTNER_STATUS, 3, 3⟩
def SPN_PARTNER_STATUS_HB_GAP_SEEN : Fld := ⟨R.SPN_PARTNER_STATUS, 4, 4⟩
def SPN_PARTNER_STATUS_EVICT_FAIL_SEEN : Fld := ⟨R.SPN_PARTNER_STATUS, 5, 5⟩
def SPN_KV_HOLD_CAP_CAP : Fld := ⟨R.SPN_KV_HOLD_CAP, 31, 0⟩
def SPN_KV_HOLD_USED_USED : Fld := ⟨R.SPN_KV_HOLD_USED, 31, 0⟩
def SPN_ATTACH_COUNT_COUNT : Fld := ⟨R.SPN_ATTACH_COUNT, 31, 0⟩
def SPN_LOSS_COUNT_COUNT : Fld := ⟨R.SPN_LOSS_COUNT, 31, 0⟩
def SPN_PAGE_IN_COUNT_COUNT : Fld := ⟨R.SPN_PAGE_IN_COUNT, 31, 0⟩
def SPN_PAGE_FWD_COUNT_COUNT : Fld := ⟨R.SPN_PAGE_FWD_COUNT, 31, 0⟩
def SPN_PAGE_DROP_COUNT_COUNT : Fld := ⟨R.SPN_PAGE_DROP_COUNT, 31, 0⟩
def SPN_FT_STORE_COUNT_COUNT : Fld := ⟨R.SPN_FT_STORE_COUNT, 31, 0⟩
def SPN_FT_FETCH_COUNT_COUNT : Fld := ⟨R.SPN_FT_FETCH_COUNT, 31, 0⟩
def SPN_EVICT_FAIL_COUNT_COUNT : Fld := ⟨R.SPN_EVICT_FAIL_COUNT, 31, 0⟩
def COL_CTRL_SEAL_NOW : Fld := ⟨R.COL_CTRL, 0, 0⟩
def COL_CTRL_PUSH_ENABLE : Fld := ⟨R.COL_CTRL, 1, 1⟩
def COL_CTRL_PUSH_LOG2 : Fld := ⟨R.COL_CTRL, 12, 8⟩
def COL_CTRL_PUSH_WINDOW : Fld := ⟨R.COL_CTRL, 21, 16⟩
def COL_STATUS_STOP : Fld := ⟨R.COL_STATUS, 0, 0⟩
def COL_STATUS_SEAL_PENDING : Fld := ⟨R.COL_STATUS, 1, 1⟩
def COL_STATUS_KEY_OK : Fld := ⟨R.COL_STATUS, 2, 2⟩
def COL_STATUS_STOP_SEEN : Fld := ⟨R.COL_STATUS, 8, 8⟩
def COL_STATUS_UNSEALED_SEEN : Fld := ⟨R.COL_STATUS, 9, 9⟩
def COL_STATUS_PUSH_ERR_SEEN : Fld := ⟨R.COL_STATUS, 10, 10⟩
def COL_STATUS_PUSH_RESULT : Fld := ⟨R.COL_STATUS, 23, 16⟩
def COL_USED_USED : Fld := ⟨R.COL_USED, 31, 0⟩
def COL_HEAD_SEQ_LO_HEAD : Fld := ⟨R.COL_HEAD_SEQ_LO, 31, 0⟩
def COL_HEAD_SEQ_HI_HEAD : Fld := ⟨R.COL_HEAD_SEQ_HI, 31, 0⟩
def COL_TAIL_SEQ_LO_TAIL : Fld := ⟨R.COL_TAIL_SEQ_LO, 31, 0⟩
def COL_TAIL_SEQ_HI_TAIL : Fld := ⟨R.COL_TAIL_SEQ_HI, 31, 0⟩
def COL_LAST_SEAL_LO_SEQ : Fld := ⟨R.COL_LAST_SEAL_LO, 31, 0⟩
def COL_LAST_SEAL_HI_SEQ : Fld := ⟨R.COL_LAST_SEAL_HI, 31, 0⟩
def COL_UNSEALED_FIRST_LO_SEQ : Fld := ⟨R.COL_UNSEALED_FIRST_LO, 31, 0⟩
def COL_UNSEALED_FIRST_HI_SEQ : Fld := ⟨R.COL_UNSEALED_FIRST_HI, 31, 0⟩
def COL_UNSEALED_LAST_LO_SEQ : Fld := ⟨R.COL_UNSEALED_LAST_LO, 31, 0⟩
def COL_UNSEALED_LAST_HI_SEQ : Fld := ⟨R.COL_UNSEALED_LAST_HI, 31, 0⟩
def COL_PUSH_BASE_LO_BASE : Fld := ⟨R.COL_PUSH_BASE_LO, 31, 7⟩
def COL_PUSH_BASE_HI_BASE : Fld := ⟨R.COL_PUSH_BASE_HI, 31, 0⟩
def COL_KEY_EPOCH_EPOCH : Fld := ⟨R.COL_KEY_EPOCH, 31, 0⟩
def COL_SEAL_COUNT_COUNT : Fld := ⟨R.COL_SEAL_COUNT, 31, 0⟩
def COL_STOP_COUNT_COUNT : Fld := ⟨R.COL_STOP_COUNT, 31, 0⟩
def COL_CHAIN_ID_ID (n : Nat) : Fld := ⟨R.COL_CHAIN_ID n, 31, 0⟩
def COL_HEAD_DIGEST_DIGEST (n : Nat) : Fld := ⟨R.COL_HEAD_DIGEST n, 31, 0⟩
def COL_PUBKEY_KEY (n : Nat) : Fld := ⟨R.COL_PUBKEY n, 31, 0⟩
def COL_ENDORSE_REC (n : Nat) : Fld := ⟨R.COL_ENDORSE n, 31, 0⟩
def FLT_STATUS_PENDING : Fld := ⟨R.FLT_STATUS, 0, 0⟩
def FLT_STATUS_FOLIO_FAULT_SEEN : Fld := ⟨R.FLT_STATUS, 8, 8⟩
def FLT_STATUS_REPAIR_SEEN : Fld := ⟨R.FLT_STATUS, 9, 9⟩
def FLT_STATUS_REPAIR_FAIL_SEEN : Fld := ⟨R.FLT_STATUS, 10, 10⟩
def FLT_STATUS_MULTI_SEEN : Fld := ⟨R.FLT_STATUS, 11, 11⟩
def FLT_STATUS_COL_ECC_SEEN : Fld := ⟨R.FLT_STATUS, 12, 12⟩
def FLT_STATUS_LOG_WRAP_SEEN : Fld := ⟨R.FLT_STATUS, 13, 13⟩
def FLT_PENDING_PENDING : Fld := ⟨R.FLT_PENDING, 16, 0⟩
def FLT_CENSUS_NEXT_FOLIO : Fld := ⟨R.FLT_CENSUS_NEXT, 15, 0⟩
def FLT_CENSUS_NEXT_VALID : Fld := ⟨R.FLT_CENSUS_NEXT, 31, 31⟩
def FLT_CENSUS_CMD_FOLIO : Fld := ⟨R.FLT_CENSUS_CMD, 15, 0⟩
def FLT_CENSUS_CMD_GEN : Fld := ⟨R.FLT_CENSUS_CMD, 23, 16⟩
def FLT_CENSUS_CMD_CMD : Fld := ⟨R.FLT_CENSUS_CMD, 26, 24⟩
def FLT_CENSUS_RESULT_STATUS : Fld := ⟨R.FLT_CENSUS_RESULT, 7, 0⟩
def FLT_CENSUS_RESULT_BUSY : Fld := ⟨R.FLT_CENSUS_RESULT, 8, 8⟩
def FLT_CENSUS_RESULT_NEW_STATE : Fld := ⟨R.FLT_CENSUS_RESULT, 23, 16⟩
def FLT_SCRUB_CTRL_PERIOD_MS : Fld := ⟨R.FLT_SCRUB_CTRL, 9, 0⟩
def FLT_CENSUS_DATA_DATA (n : Nat) : Fld := ⟨R.FLT_CENSUS_DATA n, 31, 0⟩
def FLT_REPAIR_FAILED_QUIRES : Fld := ⟨R.FLT_REPAIR_FAILED, 7, 0⟩
def FLT_FOLIO_FAULT_COUNT_COUNT : Fld := ⟨R.FLT_FOLIO_FAULT_COUNT, 31, 0⟩
def FLT_REPAIR_COUNT_COUNT : Fld := ⟨R.FLT_REPAIR_COUNT, 31, 0⟩
def FLT_RETRY_COUNT_COUNT : Fld := ⟨R.FLT_RETRY_COUNT, 31, 0⟩
def FLT_LOG_SEQ_COUNT : Fld := ⟨R.FLT_LOG_SEQ, 31, 0⟩
def FLT_LOG_WORD (n w : Nat) : Fld := ⟨R.FLT_LOG n w, 31, 0⟩
def PWR_STATE_CMD_TARGET : Fld := ⟨R.PWR_STATE_CMD, 1, 0⟩
def PWR_STATE_CURRENT : Fld := ⟨R.PWR_STATE, 1, 0⟩
def PWR_STATE_BUSY : Fld := ⟨R.PWR_STATE, 2, 2⟩
def PWR_STATE_THERM_STOP : Fld := ⟨R.PWR_STATE, 3, 3⟩
def PWR_STATE_RESULT : Fld := ⟨R.PWR_STATE, 15, 8⟩
def PWR_DOMAIN_ON (n : Nat) : Fld := ⟨R.PWR_DOMAIN n, 31, 0⟩
def PWR_THERM_TJ : Fld := ⟨R.PWR_THERM, 7, 0⟩
def PWR_THERM_SENSOR : Fld := ⟨R.PWR_THERM, 13, 8⟩
def PWR_THERM_LIMIT_WARN : Fld := ⟨R.PWR_THERM_LIMIT, 7, 0⟩
def PWR_THERM_LIMIT_STOP : Fld := ⟨R.PWR_THERM_LIMIT, 15, 8⟩
def PWR_THERM_LIMIT_RESUME : Fld := ⟨R.PWR_THERM_LIMIT, 23, 16⟩
def PWR_STATUS_WARN_SEEN : Fld := ⟨R.PWR_STATUS, 0, 0⟩
def PWR_STATUS_STOP_SEEN : Fld := ⟨R.PWR_STATUS, 1, 1⟩
def PWR_POWER_POWER : Fld := ⟨R.PWR_POWER, 15, 0⟩
def SEC_STATE_MODE : Fld := ⟨R.SEC_STATE, 1, 0⟩
def SEC_STATE_KEY_LOADED : Fld := ⟨R.SEC_STATE, 2, 2⟩
def SEC_STATE_KILLED : Fld := ⟨R.SEC_STATE, 3, 3⟩
def SEC_STATE_LOCK_CODE : Fld := ⟨R.SEC_STATE, 15, 8⟩
def SEC_TAMPER_ACTIVE : Fld := ⟨R.SEC_TAMPER, 7, 0⟩
def SEC_TAMPER_TICK_LO_TICK : Fld := ⟨R.SEC_TAMPER_TICK_LO, 31, 0⟩
def SEC_TAMPER_TICK_HI_TICK : Fld := ⟨R.SEC_TAMPER_TICK_HI, 31, 0⟩
def SEC_PROV_CMD_OP : Fld := ⟨R.SEC_PROV_CMD, 1, 0⟩
def SEC_PROV_RESULT_STATUS : Fld := ⟨R.SEC_PROV_RESULT, 7, 0⟩
def SEC_PROV_RESULT_BUSY : Fld := ⟨R.SEC_PROV_RESULT, 8, 8⟩
def SEC_PROV_REQ_REQ (n : Nat) : Fld := ⟨R.SEC_PROV_REQ n, 31, 0⟩
def SEC_PROV_ATTEST_SIG (n : Nat) : Fld := ⟨R.SEC_PROV_ATTEST n, 31, 0⟩
def SEC_PROV_SIG_SIG (n : Nat) : Fld := ⟨R.SEC_PROV_SIG n, 31, 0⟩
def NVM_CMD_OP : Fld := ⟨R.NVM_CMD, 1, 0⟩
def NVM_CMD_WINDOW : Fld := ⟨R.NVM_CMD, 13, 8⟩
def NVM_ADDR_ADDR : Fld := ⟨R.NVM_ADDR, 25, 0⟩
def NVM_LEN_LEN : Fld := ⟨R.NVM_LEN, 31, 0⟩
def NVM_FAULT_ADDR_ADDR : Fld := ⟨R.NVM_FAULT_ADDR, 31, 0⟩
def NVM_HOST_LO_HOST : Fld := ⟨R.NVM_HOST_LO, 31, 0⟩
def NVM_HOST_HI_HOST : Fld := ⟨R.NVM_HOST_HI, 31, 0⟩
def NVM_RESULT_STATUS : Fld := ⟨R.NVM_RESULT, 7, 0⟩
def NVM_RESULT_BUSY : Fld := ⟨R.NVM_RESULT, 8, 8⟩
def NVM_WEAR_SPARES : Fld := ⟨R.NVM_WEAR, 5, 0⟩
def NVM_WEAR_RETIRED : Fld := ⟨R.NVM_WEAR, 15, 8⟩
def NVM_WEAR_READ_ONLY : Fld := ⟨R.NVM_WEAR, 16, 16⟩
def NVM_MAX_ERASE_MAX : Fld := ⟨R.NVM_MAX_ERASE, 31, 0⟩
def NVM_STATUS_READ_ONLY_SEEN : Fld := ⟨R.NVM_STATUS, 0, 0⟩
def NVM_STATUS_RETIRE_SEEN : Fld := ⟨R.NVM_STATUS, 1, 1⟩
def EPD_CMD_OP : Fld := ⟨R.EPD_CMD, 3, 0⟩
def EPD_CMD_WINDOW : Fld := ⟨R.EPD_CMD, 13, 8⟩
def EPD_CMD_KEY : Fld := ⟨R.EPD_CMD, 31, 16⟩
def EPD_RESULT_STATUS : Fld := ⟨R.EPD_RESULT, 7, 0⟩
def EPD_RESULT_BUSY : Fld := ⟨R.EPD_RESULT, 8, 8⟩
def EPD_RESULT_DETAIL : Fld := ⟨R.EPD_RESULT, 31, 16⟩
def EPD_SRC_LO_SRC : Fld := ⟨R.EPD_SRC_LO, 31, 0⟩
def EPD_SRC_HI_SRC : Fld := ⟨R.EPD_SRC_HI, 31, 0⟩
def EPD_LEN_LEN : Fld := ⟨R.EPD_LEN, 31, 0⟩
def EPD_STATE_PHASE : Fld := ⟨R.EPD_STATE, 2, 0⟩
def EPD_STATE_LIMP : Fld := ⟨R.EPD_STATE, 3, 3⟩
def EPD_STATE_LIMP_CAUSE : Fld := ⟨R.EPD_STATE, 11, 4⟩
def EPD_STATE_UNCONFIRMED : Fld := ⟨R.EPD_STATE, 12, 12⟩
def EPD_STATE_BANK : Fld := ⟨R.EPD_STATE, 13, 13⟩
def EPD_STATE_DUAL : Fld := ⟨R.EPD_STATE, 14, 14⟩
def EPD_STATE_QSV_HELD : Fld := ⟨R.EPD_STATE, 23, 16⟩
def EPD_CURSOR_CURSOR : Fld := ⟨R.EPD_CURSOR, 8, 0⟩
def EPD_RUN_VERSION_VERSION : Fld := ⟨R.EPD_RUN_VERSION, 31, 0⟩
def EPD_CONF_VERSION_VERSION : Fld := ⟨R.EPD_CONF_VERSION, 31, 0⟩
def EPD_NVM_VERSION_VERSION : Fld := ⟨R.EPD_NVM_VERSION, 31, 0⟩
def EPD_SECVER_VALUE : Fld := ⟨R.EPD_SECVER, 7, 0⟩
def EPD_SECVER_TERMINAL : Fld := ⟨R.EPD_SECVER, 8, 8⟩
def EPD_SECVER_SEC_VERSION : Fld := ⟨R.EPD_SECVER, 23, 16⟩
def EPD_ABI_ABI : Fld := ⟨R.EPD_ABI, 15, 0⟩
def EPD_SETTINGS_FORMAT : Fld := ⟨R.EPD_SETTINGS, 15, 0⟩
def EPD_SETTINGS_CONF_FORMAT : Fld := ⟨R.EPD_SETTINGS, 31, 16⟩
def EPD_SET_LEN_LEN : Fld := ⟨R.EPD_SET_LEN, 7, 0⟩
def EPD_STATUS_FUSE_SEEN : Fld := ⟨R.EPD_STATUS, 0, 0⟩
def EPD_STATUS_HANDOVER_SEEN : Fld := ⟨R.EPD_STATUS, 1, 1⟩
def EPD_STATUS_LIMP_SEEN : Fld := ⟨R.EPD_STATUS, 2, 2⟩
def EPD_SET_DATA_DATA (n : Nat) : Fld := ⟨R.EPD_SET_DATA n, 31, 0⟩
def HIF_STATUS_ACCESS_SEEN : Fld := ⟨R.HIF_STATUS, 0, 0⟩
def HIF_STATUS_DMA_ERR_SEEN : Fld := ⟨R.HIF_STATUS, 1, 1⟩
def HIF_STATUS_BOUNDARY_SEEN : Fld := ⟨R.HIF_STATUS, 2, 2⟩
def HIF_STATUS_QP_ERR_SEEN : Fld := ⟨R.HIF_STATUS, 3, 3⟩
def HIF_LINK_SPEED : Fld := ⟨R.HIF_LINK, 2, 0⟩
def HIF_LINK_WIDTH : Fld := ⟨R.HIF_LINK, 7, 3⟩
def HIF_DMA_FAULT_ADDR_LO_ADDR : Fld := ⟨R.HIF_DMA_FAULT_ADDR_LO, 31, 0⟩
def HIF_DMA_FAULT_ADDR_HI_ADDR : Fld := ⟨R.HIF_DMA_FAULT_ADDR_HI, 31, 0⟩
def HIF_DMA_FAULT_INFO_WINDOW : Fld := ⟨R.HIF_DMA_FAULT_INFO, 5, 0⟩
def HIF_DMA_FAULT_INFO_FUNCTION : Fld := ⟨R.HIF_DMA_FAULT_INFO, 12, 8⟩
def HIF_DMA_FAULT_INFO_STATUS : Fld := ⟨R.HIF_DMA_FAULT_INFO, 23, 16⟩
def HIF_INT_STATUS_BLOCKS : Fld := ⟨R.HIF_INT_STATUS, 14, 0⟩
def HIF_INT_ENABLE_ENABLE : Fld := ⟨R.HIF_INT_ENABLE, 12, 0⟩
def HIF_INT_ENABLE_ENABLE_HIF : Fld := ⟨R.HIF_INT_ENABLE, 14, 14⟩
def HIF_EVENT_BOOT_READY : Fld := ⟨R.HIF_EVENT, 0, 0⟩
def HIF_EVENT_GATHER_OPEN : Fld := ⟨R.HIF_EVENT, 1, 1⟩
def HIF_EVENT_GATHER_SEALED : Fld := ⟨R.HIF_EVENT, 2, 2⟩
def HIF_EVENT_HANDOVER_DONE : Fld := ⟨R.HIF_EVENT, 3, 3⟩
def HIF_INT_MOD_MOD_US : Fld := ⟨R.HIF_INT_MOD, 9, 0⟩
def HIF_WIN_BASE_LO_BASE (w : Nat) : Fld := ⟨R.HIF_WIN_BASE_LO w, 31, 12⟩
def HIF_WIN_BASE_HI_BASE (w : Nat) : Fld := ⟨R.HIF_WIN_BASE_HI w, 31, 0⟩
def HIF_WIN_SIZE_LO_SIZE (w : Nat) : Fld := ⟨R.HIF_WIN_SIZE_LO w, 31, 12⟩
def HIF_WIN_SIZE_HI_SIZE (w : Nat) : Fld := ⟨R.HIF_WIN_SIZE_HI w, 31, 0⟩
def HIF_WIN_CTRL_ENABLE (w : Nat) : Fld := ⟨R.HIF_WIN_CTRL w, 0, 0⟩
def HIF_WIN_CTRL_DEV_READ (w : Nat) : Fld := ⟨R.HIF_WIN_CTRL w, 1, 1⟩
def HIF_WIN_CTRL_DEV_WRITE (w : Nat) : Fld := ⟨R.HIF_WIN_CTRL w, 2, 2⟩
def HIF_WIN_CTRL_OWNER (w : Nat) : Fld := ⟨R.HIF_WIN_CTRL w, 12, 8⟩
def HIF_WIN_CTRL_BUSY (w : Nat) : Fld := ⟨R.HIF_WIN_CTRL w, 16, 16⟩
def HIF_QP_CTRL_ENABLE (q : Nat) : Fld := ⟨R.HIF_QP_CTRL q, 0, 0⟩
def HIF_QP_CTRL_IRQ_EN (q : Nat) : Fld := ⟨R.HIF_QP_CTRL q, 1, 1⟩
def HIF_QP_CTRL_WINDOW (q : Nat) : Fld := ⟨R.HIF_QP_CTRL q, 13, 8⟩
def HIF_QP_CTRL_OWNER (q : Nat) : Fld := ⟨R.HIF_QP_CTRL q, 20, 16⟩
def HIF_QP_CTRL_SQ_LOG2 (q : Nat) : Fld := ⟨R.HIF_QP_CTRL q, 27, 24⟩
def HIF_QP_CTRL_CQ_LOG2 (q : Nat) : Fld := ⟨R.HIF_QP_CTRL q, 31, 28⟩
def HIF_QP_VECTOR_VECTOR (q : Nat) : Fld := ⟨R.HIF_QP_VECTOR q, 10, 0⟩
def HIF_QP_VECTOR_MOD_US (q : Nat) : Fld := ⟨R.HIF_QP_VECTOR q, 25, 16⟩
def HIF_QP_SQ_BASE_LO_BASE (q : Nat) : Fld := ⟨R.HIF_QP_SQ_BASE_LO q, 31, 0⟩
def HIF_QP_SQ_BASE_HI_BASE (q : Nat) : Fld := ⟨R.HIF_QP_SQ_BASE_HI q, 31, 0⟩
def HIF_QP_CQ_BASE_LO_BASE (q : Nat) : Fld := ⟨R.HIF_QP_CQ_BASE_LO q, 31, 0⟩
def HIF_QP_CQ_BASE_HI_BASE (q : Nat) : Fld := ⟨R.HIF_QP_CQ_BASE_HI q, 31, 0⟩
def HIF_QP_STATUS_RESULT (q : Nat) : Fld := ⟨R.HIF_QP_STATUS q, 7, 0⟩
def HIF_QP_STATUS_ACTIVE (q : Nat) : Fld := ⟨R.HIF_QP_STATUS q, 8, 8⟩
def HIF_QP_STATUS_ERROR (q : Nat) : Fld := ⟨R.HIF_QP_STATUS q, 9, 9⟩
def HIF_QP_STATUS_SQ_HEAD (q : Nat) : Fld := ⟨R.HIF_QP_STATUS q, 31, 16⟩
def HIF_QP_SQ_TAIL_TAIL (q : Nat) : Fld := ⟨R.HIF_QP_SQ_TAIL q, 15, 0⟩
def HIF_QP_CQ_HEAD_HEAD (q : Nat) : Fld := ⟨R.HIF_QP_CQ_HEAD q, 15, 0⟩
def HIF_VF_TENANTS_FIRST (v : Nat) : Fld := ⟨R.HIF_VF_TENANTS v, 9, 0⟩
def HIF_VF_TENANTS_COUNT (v : Nat) : Fld := ⟨R.HIF_VF_TENANTS v, 26, 16⟩
def HIF_I3C_STATUS_DYN_ADDR : Fld := ⟨R.HIF_I3C_STATUS, 6, 0⟩
def HIF_I3C_STATUS_ASSIGNED : Fld := ⟨R.HIF_I3C_STATUS, 7, 7⟩
def HIF_I3C_STATUS_IBI_EN : Fld := ⟨R.HIF_I3C_STATUS, 8, 8⟩

end F

/-- Register tables of block b0, offsets within the block (part 0). -/
def regs_b0_0 : List RegInfo :=
  [ ⟨0, 1, 0, 1, 0, 0, [⟨31, 0, .ro, .any⟩]⟩,
    ⟨8, 1, 0, 1, 0, 0, [⟨31, 0, .ro, .any⟩]⟩,
    ⟨0x100, 1, 0, 1, 0, 0, [⟨0, 0, .lk, .any⟩, ⟨4, 1, .lk, (.range 2 8)⟩, ⟨7, 5, .lk, .any⟩]⟩,
    ⟨0x104, 1, 0, 1, 0, 0, [⟨1, 0, .ro, .any⟩, ⟨11, 8, .ro, .any⟩, ⟨16, 16, .w1c, .any⟩, ⟨17, 17, .w1c, .any⟩, ⟨18, 18, .w1c, .any⟩]⟩,
    ⟨0x108, 1, 0, 1, 0, 0, [⟨31, 0, .ro, .any⟩]⟩,
    ⟨0x110, 1, 0, 1, 0, 0, [⟨31, 0, .ro, .any⟩]⟩,
    ⟨0x114, 1, 0, 1, 0, 0, [⟨31, 0, .ro, .any⟩]⟩,
    ⟨0x118, 1, 0, 1, 0, 0, [⟨31, 0, .ro, .any⟩]⟩,
    ⟨0x120, 1, 0, 1, 0, 0, [⟨31, 0, .ro, .any⟩]⟩,
    ⟨0x124, 1, 0, 1, 0, 0, [⟨31, 0, .ro, .any⟩]⟩,
    ⟨0x140, 12, 4, 1, 0, 0, [⟨31, 0, .ro, .any⟩]⟩,
    ⟨0x200, 1, 0, 1, 0, 0, [⟨1, 0, .wo, .own⟩, ⟨15, 8, .wo, .own⟩, ⟨31, 16, .wo, .own⟩]⟩,
    ⟨0x204, 1, 0, 1, 0, 0, [⟨3, 0, .ro, .any⟩, ⟨7, 4, .ro, .any⟩, ⟨15, 8, .w1c, .any⟩, ⟨31, 16, .ro, .any⟩]⟩,
    ⟨0x208, 1, 0, 1, 0, 0, [⟨4, 0, .ro, .any⟩, ⟨5, 5, .ro, .any⟩, ⟨6, 6, .ro, .any⟩, ⟨15, 8, .ro, .any⟩]⟩,
    ⟨0x1000, 1, 0, 1, 0, 0, [⟨2, 0, .wo, .own⟩, ⟨13, 8, .wo, .own⟩, ⟨27, 16, .wo, .own⟩]⟩,
    ⟨0x1004, 1, 0, 1, 0, 0xFFFF0000, [⟨7, 0, .ro, .any⟩, ⟨8, 8, .ro, .any⟩, ⟨31, 16, .ro, .any⟩]⟩,
    ⟨0x1008, 1, 0, 1, 0, 0, [⟨31, 0, .rw, .any⟩]⟩,
    ⟨0x100c, 1, 0, 1, 0, 0, [⟨31, 0, .rw, .any⟩]⟩,
    ⟨0x1010, 1, 0, 1, 0, 0, [⟨31, 0, .rw, .any⟩]⟩,
    ⟨0x1018, 1, 0, 1, 0, 0, [⟨31, 0, .rw, .any⟩]⟩,
    ⟨0x101c, 1, 0, 1, 0, 0, [⟨31, 0, .rw, .any⟩]⟩,
    ⟨0x1020, 1, 0, 1, 0, 0, [⟨0, 0, .ro, .any⟩, ⟨1, 1, .ro, .any⟩, ⟨2, 2, .ro, .any⟩, ⟨3, 3, .ro, .any⟩, ⟨4, 4, .ro, .any⟩, ⟨15, 8, .ro, .any⟩, ⟨31, 16, .ro, .any⟩]⟩,
    ⟨0x1028, 1, 0, 1, 0, 0, [⟨31, 0, .ro, .any⟩]⟩,
    ⟨0x102c, 1, 0, 1, 0, 0, [⟨31, 0, .ro, .any⟩]⟩,
    ⟨0x1030, 1, 0, 1, 0, 0, [⟨31, 0, .ro, .any⟩]⟩,
    ⟨0x1034, 1, 0, 1, 0, 0x10, [⟨6, 0, .rw, .own⟩]⟩,
    ⟨0x1038, 1, 0, 1, 0, 0, [⟨31, 0, .ro, .any⟩]⟩,
    ⟨0x103c, 1, 0, 1, 0, 0, [⟨31, 0, .ro, .any⟩]⟩,
    ⟨0x1040, 1, 0, 1, 0, 0, [⟨31, 0, .ro, .any⟩]⟩,
    ⟨0x1100, 12, 4, 1, 0, 0, [⟨31, 0, .ro, .any⟩]⟩ ]

/-- Register tables of block b0, offsets within the block (part 1). -/
def regs_b0_1 : List RegInfo :=
  [ ⟨0x1140, 12, 4, 1, 0, 0, [⟨31, 0, .ro, .any⟩]⟩,
    ⟨0x1180, 12, 4, 1, 0, 0, [⟨31, 0, .ro, .any⟩]⟩,
    ⟨0x1400, 8, 0x40, 16, 4, 0, [⟨11, 0, .lk, .own⟩, ⟨15, 15, .lk, .own⟩]⟩ ]

def regs_b0 : List RegInfo := regs_b0_0 ++ regs_b0_1

/-- Register tables of block b1, offsets within the block (part 0). -/
def regs_b1_0 : List RegInfo :=
  [ ⟨0, 1, 0, 1, 0, 0, [⟨31, 0, .ro, .any⟩]⟩,
    ⟨4, 1, 0, 1, 0, 0, [⟨31, 0, .ro, .any⟩]⟩,
    ⟨0x10, 1, 0, 1, 0, 0x3E80, [⟨15, 0, .lk, (.range 4000 40000)⟩]⟩,
    ⟨0x14, 1, 0, 1, 0, 0x7D0, [⟨15, 0, .lk, (.range 800 6400)⟩]⟩,
    ⟨0x18, 1, 0, 1, 0, 0, [⟨15, 0, .ro, .any⟩]⟩,
    ⟨0x1c, 1, 0, 1, 0, 0, [⟨15, 0, .ro, .any⟩]⟩,
    ⟨0x20, 1, 0, 1, 0, 0, [⟨15, 0, .ro, .any⟩, ⟨23, 16, .ro, .any⟩]⟩,
    ⟨0x24, 1, 0, 1, 0, 0x3520258, [⟨9, 0, .rw, .any⟩, ⟨25, 16, .rw, .any⟩]⟩,
    ⟨0x28, 1, 0, 1, 0, 0x2EE, [⟨9, 0, .ro, .any⟩, ⟨16, 16, .ro, .any⟩]⟩,
    ⟨0x30, 1, 0, 1, 0, 0, [⟨0, 0, .ro, .any⟩, ⟨1, 1, .ro, .any⟩, ⟨2, 2, .ro, .any⟩, ⟨8, 8, .w1c, .any⟩, ⟨9, 9, .w1c, .any⟩, ⟨10, 10, .w1c, .any⟩, ⟨11, 11, .w1c, .own⟩]⟩,
    ⟨0x40, 1, 0, 1, 0, 0, [⟨1, 0, .wo, .own⟩]⟩,
    ⟨0x44, 1, 0, 1, 0, 0, [⟨2, 0, .ro, .any⟩, ⟨15, 8, .ro, .any⟩, ⟨16, 16, .ro, .any⟩, ⟨17, 17, .ro, .any⟩, ⟨18, 18, .ro, .any⟩]⟩,
    ⟨0x48, 1, 0, 1, 0, 0, [⟨31, 0, .ro, .any⟩]⟩,
    ⟨0x4c, 1, 0, 1, 0, 0x1388, [⟨15, 0, .rw, .own⟩]⟩,
    ⟨0x50, 1, 0, 1, 0, 0x3, [⟨3, 0, .lk, (.range 1 15)⟩]⟩,
    ⟨0x60, 1, 0, 1, 0, 0, [⟨31, 0, .ro, .any⟩]⟩,
    ⟨0x64, 1, 0, 1, 0, 0, [⟨31, 0, .ro, .any⟩]⟩,
    ⟨0x100, 32, 4, 1, 0, 0, [⟨31, 0, .lk, .any⟩]⟩ ]

def regs_b1 : List RegInfo := regs_b1_0

/-- Register tables of block b2, offsets within the block (part 0). -/
def regs_b2_0 : List RegInfo :=
  [ ⟨0, 1, 0, 1, 0, 0, [⟨15, 0, .wo, .own⟩, ⟨23, 16, .wo, .own⟩, ⟨26, 24, .wo, .own⟩]⟩,
    ⟨4, 1, 0, 1, 0, 0, [⟨7, 0, .ro, .any⟩, ⟨8, 8, .ro, .any⟩]⟩,
    ⟨0x10, 1, 0, 1, 0, 0, [⟨16, 0, .ro, .any⟩]⟩,
    ⟨0x14, 1, 0, 1, 0, 0, [⟨16, 0, .ro, .any⟩]⟩,
    ⟨0x20, 1, 0, 1, 0, 0xA, [⟨9, 0, .rw, (.range 1 1000)⟩]⟩,
    ⟨0x24, 1, 0, 1, 0, 0x64, [⟨15, 0, .rw, (.range 0 60000)⟩]⟩,
    ⟨0x30, 1, 0, 1, 0, 0, [⟨0, 0, .ro, .any⟩, ⟨8, 8, .w1c, .any⟩, ⟨9, 9, .w1c, .any⟩, ⟨10, 10, .w1c, .any⟩, ⟨11, 11, .w1c, .any⟩]⟩,
    ⟨0x40, 1, 0, 1, 0, 0, [⟨31, 0, .ro, .any⟩]⟩,
    ⟨0x44, 1, 0, 1, 0, 0, [⟨31, 0, .ro, .any⟩]⟩,
    ⟨0x48, 1, 0, 1, 0, 0, [⟨31, 0, .ro, .any⟩]⟩,
    ⟨0x4c, 1, 0, 1, 0, 0, [⟨31, 0, .ro, .any⟩]⟩,
    ⟨0x1000, 128, 4, 1, 0, 0, [⟨31, 0, .ro, .any⟩]⟩ ]

def regs_b2 : List RegInfo := regs_b2_0

/-- Register tables of block b3, offsets within the block (part 0). -/
def regs_b3_0 : List RegInfo :=
  [ ⟨0, 1, 0, 1, 0, 0x10000802, [⟨0, 0, .lk, .any⟩, ⟨1, 1, .lk, .any⟩, ⟨15, 8, .lk, (.range 1 16)⟩, ⟨31, 16, .lk, (.range 1 65535)⟩]⟩,
    ⟨4, 1, 0, 1, 0, 0x4000803, [⟨0, 0, .lk, .any⟩, ⟨1, 1, .lk, .any⟩, ⟨15, 8, .lk, (.range 1 16)⟩, ⟨31, 16, .lk, (.range 1 65535)⟩]⟩,
    ⟨0x10, 1, 0, 1, 0, 0x23808, [⟨5, 0, .rw, .any⟩, ⟨13, 8, .rw, .any⟩, ⟨18, 16, .lk, (.range 1 7)⟩]⟩,
    ⟨0x14, 1, 0, 1, 0, 0x80319080, [⟨9, 0, .rw, .any⟩, ⟨19, 10, .rw, (.range 10 1000)⟩, ⟨23, 20, .rw, (.range 1 15)⟩, ⟨31, 31, .rw, .any⟩]⟩,
    ⟨0x18, 1, 0, 1, 0, 0, [⟨6, 0, .ro, .any⟩, ⟨7, 7, .ro, .any⟩, ⟨10, 8, .ro, .any⟩, ⟨11, 11, .ro, .any⟩, ⟨15, 12, .ro, .any⟩]⟩,
    ⟨0x1c, 1, 0, 1, 0, 0, [⟨10, 0, .ro, .any⟩, ⟨26, 16, .ro, .any⟩]⟩,
    ⟨0x20, 1, 0, 1, 0, 0, [⟨31, 0, .ro, .any⟩]⟩,
    ⟨0x30, 1, 0, 1, 0, 0, [⟨0, 0, .w1c, .any⟩, ⟨1, 1, .w1c, .any⟩, ⟨2, 2, .w1c, .any⟩, ⟨3, 3, .w1c, .any⟩]⟩,
    ⟨0x40, 1, 0, 1, 0, 0, [⟨31, 0, .ro, .any⟩]⟩,
    ⟨0x44, 1, 0, 1, 0, 0, [⟨31, 0, .ro, .any⟩]⟩,
    ⟨0x48, 1, 0, 1, 0, 0, [⟨31, 0, .ro, .any⟩]⟩,
    ⟨0x4c, 1, 0, 1, 0, 0, [⟨31, 0, .ro, .any⟩]⟩,
    ⟨0x50, 1, 0, 1, 0, 0, [⟨31, 0, .ro, .any⟩]⟩,
    ⟨0x54, 1, 0, 1, 0, 0, [⟨31, 0, .ro, .any⟩]⟩,
    ⟨0x58, 1, 0, 1, 0, 0, [⟨31, 0, .ro, .any⟩]⟩,
    ⟨0x60, 1, 0, 1, 0, 0, [⟨31, 0, .ro, .any⟩]⟩,
    ⟨0x64, 1, 0, 1, 0, 0, [⟨31, 0, .ro, .any⟩]⟩,
    ⟨0x68, 1, 0, 1, 0, 0, [⟨31, 0, .ro, .any⟩]⟩,
    ⟨0x6c, 1, 0, 1, 0, 0, [⟨31, 0, .ro, .any⟩]⟩,
    ⟨0x1000, 1024, 0x10, 1, 0, 0x101, [⟨7, 0, .rw, (.range 1 255)⟩, ⟨15, 8, .rw, (.range 1 255)⟩]⟩,
    ⟨0x1004, 1024, 0x10, 1, 0, 0xFFFFFF, [⟨23, 0, .rw, .any⟩]⟩,
    ⟨0x1008, 1024, 0x10, 1, 0, 0xFFFFFF, [⟨23, 0, .rw, .any⟩]⟩,
    ⟨0x100c, 1024, 0x10, 1, 0, 0x1001000, [⟨15, 0, .rw, (.range 64 65535)⟩, ⟨31, 16, .rw, (.range 1 65535)⟩]⟩ ]

def regs_b3 : List RegInfo := regs_b3_0

/-- Register tables of block b4, offsets within the block (part 0). -/
def regs_b4_0 : List RegInfo :=
  [ ⟨0, 1, 0, 1, 0, 0x3, [⟨0, 0, .lk, .any⟩, ⟨1, 1, .rw, .any⟩, ⟨2, 2, .lk, .any⟩]⟩,
    ⟨4, 1, 0, 1, 0, 0, [⟨9, 0, .wo, .own⟩, ⟨17, 16, .wo, .own⟩]⟩,
    ⟨8, 1, 0, 1, 0, 0, [⟨7, 0, .ro, .any⟩, ⟨8, 8, .ro, .any⟩]⟩,
    ⟨0xc, 1, 0, 1, 0, 0, [⟨20, 0, .ro, .any⟩]⟩,
    ⟨0x10, 1, 0, 1, 0, 0, [⟨31, 0, .ro, .any⟩]⟩,
    ⟨0x14, 1, 0, 1, 0, 0, [⟨0, 0, .w1c, .any⟩, ⟨1, 1, .w1c, .any⟩, ⟨2, 2, .w1c, .any⟩]⟩,
    ⟨0x40, 1, 0, 1, 0, 0, [⟨31, 0, .ro, .any⟩]⟩,
    ⟨0x44, 1, 0, 1, 0, 0, [⟨31, 0, .ro, .any⟩]⟩,
    ⟨0x48, 1, 0, 1, 0, 0, [⟨31, 0, .ro, .any⟩]⟩,
    ⟨0x4c, 1, 0, 1, 0, 0, [⟨31, 0, .ro, .any⟩]⟩,
    ⟨0x50, 1, 0, 1, 0, 0, [⟨31, 0, .ro, .any⟩]⟩,
    ⟨0x54, 1, 0, 1, 0, 0, [⟨31, 0, .ro, .any⟩]⟩,
    ⟨0x100, 32, 4, 1, 0, 0, [⟨31, 0, .lk, .any⟩]⟩,
    ⟨0x200, 256, 4, 1, 0, 0, [⟨31, 0, .ro, .any⟩]⟩ ]

def regs_b4 : List RegInfo := regs_b4_0

/-- Register tables of block quire, offsets within the block (part 0). -/
def regs_quire_0 : List RegInfo :=
  [ ⟨0x10000, 1, 0, 1, 0, 0, [⟨24, 0, .ro, .any⟩]⟩,
    ⟨0x10004, 1, 0, 1, 0, 0, [⟨14, 0, .ro, .any⟩, ⟨24, 16, .ro, .any⟩]⟩,
    ⟨0x10010, 8, 4, 1, 0, 0, [⟨9, 0, .ro, .any⟩, ⟨10, 10, .ro, .any⟩, ⟨11, 11, .ro, .any⟩, ⟨31, 16, .ro, .any⟩]⟩,
    ⟨0x10040, 1, 0, 1, 0, 0, [⟨0, 0, .w1c, .any⟩, ⟨1, 1, .w1c, .any⟩, ⟨2, 2, .w1c, .any⟩, ⟨3, 3, .w1c, .any⟩, ⟨4, 4, .w1c, .any⟩, ⟨5, 5, .w1c, .any⟩, ⟨10, 8, .ro, .any⟩]⟩,
    ⟨0x10080, 1, 0, 1, 0, 0, [⟨31, 0, .ro, .any⟩]⟩,
    ⟨0x10084, 1, 0, 1, 0, 0, [⟨31, 0, .ro, .any⟩]⟩,
    ⟨0x10088, 1, 0, 1, 0, 0, [⟨31, 0, .ro, .any⟩]⟩,
    ⟨0x1008c, 1, 0, 1, 0, 0, [⟨31, 0, .ro, .any⟩]⟩,
    ⟨0x10090, 1, 0, 1, 0, 0, [⟨31, 0, .ro, .any⟩]⟩,
    ⟨0x10094, 1, 0, 1, 0, 0, [⟨31, 0, .ro, .any⟩]⟩,
    ⟨0x20000, 1, 0, 1, 0, 0x3E8030, [⟨7, 0, .rw, (.range 16 255)⟩, ⟨8, 8, .wo, .own⟩, ⟨25, 12, .lk, (.range 100 10000)⟩]⟩,
    ⟨0x20040, 1, 0, 1, 0, 0, [⟨0, 0, .w1c, .any⟩, ⟨1, 1, .w1c, .any⟩, ⟨2, 2, .w1c, .any⟩, ⟨3, 3, .w1c, .any⟩, ⟨4, 4, .w1c, .any⟩]⟩,
    ⟨0x20080, 1, 0, 1, 0, 0, [⟨31, 0, .ro, .any⟩]⟩,
    ⟨0x20084, 1, 0, 1, 0, 0, [⟨31, 0, .ro, .any⟩]⟩,
    ⟨0x20088, 1, 0, 1, 0, 0, [⟨31, 0, .ro, .any⟩]⟩,
    ⟨0x2008c, 1, 0, 1, 0, 0, [⟨31, 0, .ro, .any⟩]⟩,
    ⟨0x20090, 1, 0, 1, 0, 0, [⟨31, 0, .ro, .any⟩]⟩,
    ⟨0x20094, 1, 0, 1, 0, 0, [⟨31, 0, .ro, .any⟩]⟩,
    ⟨0x20100, 32, 4, 1, 0, 0, [⟨7, 0, .ro, .any⟩, ⟨14, 8, .ro, .any⟩, ⟨16, 16, .ro, .any⟩, ⟨17, 17, .ro, .any⟩, ⟨18, 18, .ro, .any⟩, ⟨19, 19, .ro, .any⟩, ⟨31, 20, .ro, .any⟩]⟩,
    ⟨0x30000, 32, 4, 1, 0, 0, [⟨1, 0, .ro, .any⟩, ⟨2, 2, .ro, .any⟩, ⟨8, 3, .ro, .any⟩, ⟨9, 9, .ro, .any⟩, ⟨17, 10, .ro, .any⟩, ⟨18, 18, .ro, .any⟩]⟩,
    ⟨0x30080, 1, 0, 1, 0, 0, [⟨0, 0, .w1c, .any⟩]⟩,
    ⟨0x30100, 1, 0, 1, 0, 0, [⟨31, 0, .ro, .any⟩]⟩,
    ⟨0x30104, 1, 0, 1, 0, 0, [⟨31, 0, .ro, .any⟩]⟩,
    ⟨0x30108, 1, 0, 1, 0, 0, [⟨31, 0, .ro, .any⟩]⟩,
    ⟨0x30200, 4, 0x20, 1, 0, 0, [⟨31, 0, .rw, .any⟩]⟩,
    ⟨0x30204, 4, 0x20, 1, 0, 0, [⟨31, 0, .rw, .any⟩]⟩,
    ⟨0x30208, 4, 0x20, 1, 0, 0, [⟨31, 0, .rw, .any⟩]⟩,
    ⟨0x3020c, 4, 0x20, 1, 0, 0, [⟨31, 0, .rw, .any⟩]⟩,
    ⟨0x30210, 4, 0x20, 1, 0, 0, [⟨15, 0, .rw, .any⟩]⟩,
    ⟨0x30280, 1, 0, 1, 0, 0, [⟨14, 0, .wo, .own⟩, ⟨19, 15, .wo, .own⟩, ⟨22, 20, .wo, .own⟩]⟩ ]

/-- Register tables of block quire, offsets within the block (part 1). -/
def regs_quire_1 : List RegInfo :=
  [ ⟨0x30284, 1, 0, 1, 0, 0, [⟨7, 0, .ro, .any⟩, ⟨8, 8, .ro, .any⟩, ⟨9, 9, .ro, .any⟩, ⟨10, 10, .ro, .any⟩, ⟨29, 16, .ro, .any⟩, ⟨31, 30, .ro, .any⟩]⟩,
    ⟨0x30288, 1, 0, 1, 0, 0, [⟨31, 0, .ro, .any⟩]⟩,
    ⟨0x3028c, 1, 0, 1, 0, 0, [⟨31, 0, .ro, .any⟩]⟩,
    ⟨0x30290, 1, 0, 1, 0, 0, [⟨31, 0, .ro, .any⟩]⟩,
    ⟨0x30294, 1, 0, 1, 0, 0, [⟨31, 0, .ro, .any⟩]⟩,
    ⟨0x30298, 1, 0, 1, 0, 0, [⟨31, 0, .ro, .any⟩]⟩,
    ⟨0x3029c, 1, 0, 1, 0, 0, [⟨31, 0, .ro, .any⟩]⟩,
    ⟨0x302a0, 1, 0, 1, 0, 0, [⟨13, 0, .ro, .any⟩, ⟨16, 16, .ro, .any⟩]⟩,
    ⟨0x302a8, 1, 0, 1, 0, 0, [⟨31, 0, .ro, .any⟩]⟩,
    ⟨0x302ac, 1, 0, 1, 0, 0, [⟨31, 0, .ro, .any⟩]⟩,
    ⟨0x30300, 1, 0, 1, 0, 0, [⟨1, 0, .ro, .any⟩, ⟨6, 2, .ro, .any⟩, ⟨7, 7, .ro, .any⟩, ⟨9, 8, .ro, .any⟩, ⟨10, 10, .ro, .any⟩]⟩,
    ⟨0x30304, 1, 0, 1, 0, 0, [⟨13, 0, .ro, .any⟩, ⟨29, 16, .ro, .any⟩]⟩,
    ⟨0x30308, 1, 0, 1, 0, 0, [⟨13, 0, .ro, .any⟩, ⟨15, 14, .ro, .any⟩]⟩,
    ⟨0x30310, 1, 0, 1, 0, 0x32, [⟨9, 0, .rw, (.range 10 1000)⟩]⟩,
    ⟨0x30314, 1, 0, 1, 0, 0, [⟨0, 0, .w1c, .any⟩, ⟨1, 1, .w1c, .any⟩, ⟨2, 2, .w1c, .any⟩, ⟨3, 3, .w1c, .any⟩]⟩,
    ⟨0x30318, 1, 0, 1, 0, 0, [⟨31, 0, .ro, .any⟩]⟩,
    ⟨0x3031c, 1, 0, 1, 0, 0, [⟨31, 0, .ro, .any⟩]⟩,
    ⟨0x30320, 1, 0, 1, 0, 0, [⟨31, 0, .ro, .any⟩]⟩,
    ⟨0x30324, 1, 0, 1, 0, 0, [⟨31, 0, .ro, .any⟩]⟩,
    ⟨0x30328, 1, 0, 1, 0, 0, [⟨31, 0, .ro, .any⟩]⟩,
    ⟨0x3032c, 1, 0, 1, 0, 0, [⟨31, 0, .ro, .any⟩]⟩,
    ⟨0x40000, 1, 0, 1, 0, 0x6, [⟨4, 0, .lk, (.range 1 25)⟩]⟩,
    ⟨0x40004, 1, 0, 1, 0, 0, [⟨0, 0, .w1c, .any⟩, ⟨1, 1, .w1c, .any⟩, ⟨2, 2, .w1c, .any⟩, ⟨3, 3, .w1c, .any⟩]⟩,
    ⟨0x40008, 1, 0, 1, 0, 0, [⟨11, 0, .ro, .any⟩, ⟨31, 16, .ro, .any⟩]⟩,
    ⟨0x40040, 1, 0, 1, 0, 0, [⟨31, 0, .ro, .any⟩]⟩,
    ⟨0x40044, 1, 0, 1, 0, 0, [⟨31, 0, .ro, .any⟩]⟩,
    ⟨0x40048, 1, 0, 1, 0, 0, [⟨31, 0, .ro, .any⟩]⟩,
    ⟨0x4004c, 1, 0, 1, 0, 0, [⟨31, 0, .ro, .any⟩]⟩ ]

def regs_quire : List RegInfo := regs_quire_0 ++ regs_quire_1

/-- Register tables of block b10, offsets within the block (part 0). -/
def regs_b10_0 : List RegInfo :=
  [ ⟨0, 1, 0, 1, 0, 0, [⟨0, 0, .w1c, .any⟩, ⟨1, 1, .w1c, .any⟩, ⟨2, 2, .w1c, .any⟩, ⟨3, 3, .w1c, .any⟩]⟩,
    ⟨4, 1, 0, 1, 0, 0, [⟨31, 0, .ro, .any⟩]⟩,
    ⟨8, 1, 0, 1, 0, 0, [⟨31, 0, .ro, .any⟩]⟩,
    ⟨0x40, 1, 0, 1, 0, 0, [⟨31, 0, .ro, .any⟩]⟩,
    ⟨0x44, 1, 0, 1, 0, 0, [⟨31, 0, .ro, .any⟩]⟩,
    ⟨0x48, 1, 0, 1, 0, 0, [⟨31, 0, .ro, .any⟩]⟩,
    ⟨0x4c, 1, 0, 1, 0, 0, [⟨31, 0, .ro, .any⟩]⟩,
    ⟨0x50, 1, 0, 1, 0, 0, [⟨31, 0, .ro, .any⟩]⟩,
    ⟨0x54, 1, 0, 1, 0, 0, [⟨31, 0, .ro, .any⟩]⟩,
    ⟨0x1000, 1024, 4, 1, 0, 0, [⟨31, 0, .ro, .any⟩]⟩ ]

def regs_b10 : List RegInfo := regs_b10_0

/-- Register tables of block b11, offsets within the block (part 0). -/
def regs_b11_0 : List RegInfo :=
  [ ⟨0, 16, 0x100, 1, 0, 0x1, [⟨0, 0, .rw, .own⟩, ⟨1, 1, .rw, .any⟩, ⟨2, 2, .rw, .any⟩, ⟨3, 3, .wo, .own⟩, ⟨4, 4, .wo, .own⟩]⟩,
    ⟨4, 16, 0x100, 1, 0, 0, [⟨2, 0, .ro, .any⟩, ⟨3, 3, .ro, .any⟩, ⟨4, 4, .ro, .any⟩, ⟨5, 5, .ro, .any⟩, ⟨6, 6, .ro, .any⟩, ⟨10, 8, .ro, .any⟩, ⟨16, 16, .w1c, .any⟩, ⟨17, 17, .w1c, .any⟩, ⟨18, 18, .w1c, .any⟩, ⟨19, 19, .w1c, .any⟩, ⟨20, 20, .w1c, .any⟩, ⟨21, 21, .w1c, .any⟩, ⟨22, 22, .w1c, .any⟩]⟩,
    ⟨8, 16, 0x100, 1, 0, 0, [⟨7, 0, .ro, .any⟩, ⟨15, 8, .ro, .any⟩]⟩,
    ⟨0x10, 16, 0x100, 1, 0, 0, [⟨31, 0, .ro, .any⟩]⟩,
    ⟨0x14, 16, 0x100, 1, 0, 0, [⟨31, 0, .ro, .any⟩]⟩,
    ⟨0x18, 16, 0x100, 1, 0, 0, [⟨31, 0, .ro, .any⟩]⟩,
    ⟨0x1c, 16, 0x100, 1, 0, 0, [⟨31, 0, .ro, .any⟩]⟩,
    ⟨0x20, 16, 0x100, 1, 0, 0, [⟨31, 0, .ro, .any⟩]⟩,
    ⟨0x24, 16, 0x100, 1, 0, 0, [⟨31, 0, .ro, .any⟩]⟩,
    ⟨0x28, 16, 0x100, 1, 0, 0, [⟨31, 0, .ro, .any⟩]⟩,
    ⟨0x2c, 16, 0x100, 1, 0, 0, [⟨31, 0, .ro, .any⟩]⟩,
    ⟨0x30, 16, 0x100, 1, 0, 0, [⟨31, 0, .ro, .any⟩]⟩,
    ⟨0x34, 16, 0x100, 1, 0, 0, [⟨31, 0, .ro, .any⟩]⟩,
    ⟨0x38, 16, 0x100, 1, 0, 0, [⟨31, 0, .ro, .any⟩]⟩,
    ⟨0x3c, 16, 0x100, 1, 0, 0, [⟨31, 0, .ro, .any⟩]⟩,
    ⟨0x1000, 48, 0x40, 1, 0, 0, [⟨2, 0, .ro, .any⟩, ⟨6, 4, .ro, .any⟩, ⟨7, 7, .ro, .any⟩, ⟨11, 8, .ro, .any⟩, ⟨13, 12, .ro, .any⟩, ⟨22, 16, .ro, .any⟩, ⟨27, 24, .ro, .any⟩, ⟨30, 28, .ro, .any⟩]⟩,
    ⟨0x1004, 48, 0x40, 1, 0, 0, [⟨16, 0, .ro, .any⟩]⟩,
    ⟨0x1008, 48, 0x40, 1, 0, 0, [⟨16, 0, .ro, .any⟩]⟩,
    ⟨0x100c, 48, 0x40, 1, 0, 0, [⟨31, 0, .ro, .any⟩]⟩,
    ⟨0x1010, 48, 0x40, 1, 0, 0, [⟨31, 0, .ro, .any⟩]⟩,
    ⟨0x1014, 48, 0x40, 1, 0, 0, [⟨31, 0, .ro, .any⟩]⟩,
    ⟨0x1018, 48, 0x40, 1, 0, 0, [⟨31, 0, .ro, .any⟩]⟩,
    ⟨0x101c, 48, 0x40, 1, 0, 0, [⟨1, 0, .wo, .own⟩]⟩,
    ⟨0x1020, 48, 0x40, 4, 4, 0, [⟨31, 0, .ro, .any⟩]⟩,
    ⟨0x1030, 48, 0x40, 1, 0, 0, [⟨31, 0, .ro, .any⟩]⟩,
    ⟨0x1034, 48, 0x40, 1, 0, 0, [⟨31, 0, .ro, .any⟩]⟩,
    ⟨0x1038, 48, 0x40, 1, 0, 0, [⟨31, 0, .ro, .any⟩]⟩,
    ⟨0x2000, 4, 4, 1, 0, 0, [⟨31, 0, .ro, .any⟩]⟩,
    ⟨0x2010, 1, 0, 1, 0, 0, [⟨5, 0, .ro, .any⟩, ⟨13, 8, .ro, .any⟩]⟩,
    ⟨0x2014, 1, 0, 1, 0, 0, [⟨0, 0, .w1c, .any⟩, ⟨1, 1, .w1c, .any⟩, ⟨2, 2, .w1c, .any⟩, ⟨3, 3, .w1c, .any⟩, ⟨4, 4, .w1c, .any⟩, ⟨5, 5, .w1c, .any⟩]⟩ ]

/-- Register tables of block b11, offsets within the block (part 1). -/
def regs_b11_1 : List RegInfo :=
  [ ⟨0x2020, 1, 0, 1, 0, 0, [⟨31, 0, .ro, .any⟩]⟩,
    ⟨0x2024, 1, 0, 1, 0, 0, [⟨31, 0, .ro, .any⟩]⟩,
    ⟨0x2040, 1, 0, 1, 0, 0, [⟨31, 0, .ro, .any⟩]⟩,
    ⟨0x2044, 1, 0, 1, 0, 0, [⟨31, 0, .ro, .any⟩]⟩,
    ⟨0x2048, 1, 0, 1, 0, 0, [⟨31, 0, .ro, .any⟩]⟩,
    ⟨0x204c, 1, 0, 1, 0, 0, [⟨31, 0, .ro, .any⟩]⟩,
    ⟨0x2050, 1, 0, 1, 0, 0, [⟨31, 0, .ro, .any⟩]⟩,
    ⟨0x2054, 1, 0, 1, 0, 0, [⟨31, 0, .ro, .any⟩]⟩,
    ⟨0x2058, 1, 0, 1, 0, 0, [⟨31, 0, .ro, .any⟩]⟩,
    ⟨0x205c, 1, 0, 1, 0, 0, [⟨31, 0, .ro, .any⟩]⟩ ]

def regs_b11 : List RegInfo := regs_b11_0 ++ regs_b11_1

/-- Register tables of block b12, offsets within the block (part 0). -/
def regs_b12_0 : List RegInfo :=
  [ ⟨0, 1, 0, 1, 0, 0xC00, [⟨0, 0, .wo, .own⟩, ⟨1, 1, .rw, .own⟩, ⟨12, 8, .rw, (.range 12 22)⟩, ⟨21, 16, .rw, .any⟩]⟩,
    ⟨4, 1, 0, 1, 0, 0x4, [⟨0, 0, .ro, .any⟩, ⟨1, 1, .ro, .any⟩, ⟨2, 2, .ro, .any⟩, ⟨8, 8, .w1c, .any⟩, ⟨9, 9, .w1c, .any⟩, ⟨10, 10, .w1c, .any⟩, ⟨23, 16, .ro, .any⟩]⟩,
    ⟨8, 1, 0, 1, 0, 0, [⟨31, 0, .ro, .any⟩]⟩,
    ⟨0x10, 1, 0, 1, 0, 0, [⟨31, 0, .ro, .any⟩]⟩,
    ⟨0x14, 1, 0, 1, 0, 0, [⟨31, 0, .ro, .any⟩]⟩,
    ⟨0x18, 1, 0, 1, 0, 0, [⟨31, 0, .rw, .own⟩]⟩,
    ⟨0x1c, 1, 0, 1, 0, 0, [⟨31, 0, .rw, .any⟩]⟩,
    ⟨0x20, 1, 0, 1, 0, 0, [⟨31, 0, .ro, .any⟩]⟩,
    ⟨0x24, 1, 0, 1, 0, 0, [⟨31, 0, .ro, .any⟩]⟩,
    ⟨0x28, 1, 0, 1, 0, 0, [⟨31, 0, .ro, .any⟩]⟩,
    ⟨0x2c, 1, 0, 1, 0, 0, [⟨31, 0, .ro, .any⟩]⟩,
    ⟨0x30, 1, 0, 1, 0, 0, [⟨31, 0, .ro, .any⟩]⟩,
    ⟨0x34, 1, 0, 1, 0, 0, [⟨31, 0, .ro, .any⟩]⟩,
    ⟨0x38, 1, 0, 1, 0, 0, [⟨31, 7, .rw, .any⟩]⟩,
    ⟨0x3c, 1, 0, 1, 0, 0, [⟨31, 0, .rw, .any⟩]⟩,
    ⟨0x40, 1, 0, 1, 0, 0, [⟨31, 0, .ro, .any⟩]⟩,
    ⟨0x48, 1, 0, 1, 0, 0, [⟨31, 0, .ro, .any⟩]⟩,
    ⟨0x4c, 1, 0, 1, 0, 0, [⟨31, 0, .ro, .any⟩]⟩,
    ⟨0x100, 4, 4, 1, 0, 0, [⟨31, 0, .ro, .any⟩]⟩,
    ⟨0x140, 12, 4, 1, 0, 0, [⟨31, 0, .ro, .any⟩]⟩,
    ⟨0x200, 24, 4, 1, 0, 0, [⟨31, 0, .ro, .any⟩]⟩,
    ⟨0x400, 64, 4, 1, 0, 0, [⟨31, 0, .ro, .any⟩]⟩ ]

def regs_b12 : List RegInfo := regs_b12_0

/-- Register tables of block b13, offsets within the block (part 0). -/
def regs_b13_0 : List RegInfo :=
  [ ⟨0, 1, 0, 1, 0, 0, [⟨0, 0, .ro, .any⟩, ⟨8, 8, .w1c, .any⟩, ⟨9, 9, .w1c, .any⟩, ⟨10, 10, .w1c, .any⟩, ⟨11, 11, .w1c, .any⟩, ⟨12, 12, .w1c, .any⟩, ⟨13, 13, .w1c, .any⟩]⟩,
    ⟨4, 1, 0, 1, 0, 0, [⟨16, 0, .ro, .any⟩]⟩,
    ⟨8, 1, 0, 1, 0, 0, [⟨15, 0, .ro, .any⟩, ⟨31, 31, .ro, .any⟩]⟩,
    ⟨0x10, 1, 0, 1, 0, 0, [⟨15, 0, .wo, .own⟩, ⟨23, 16, .wo, .own⟩, ⟨26, 24, .wo, .own⟩]⟩,
    ⟨0x14, 1, 0, 1, 0, 0, [⟨7, 0, .ro, .any⟩, ⟨8, 8, .ro, .any⟩, ⟨23, 16, .ro, .any⟩]⟩,
    ⟨0x18, 1, 0, 1, 0, 0x64, [⟨9, 0, .rw, (.range 10 1000)⟩]⟩,
    ⟨0x20, 8, 4, 1, 0, 0, [⟨31, 0, .ro, .any⟩]⟩,
    ⟨0x40, 1, 0, 1, 0, 0, [⟨7, 0, .ro, .any⟩]⟩,
    ⟨0x80, 1, 0, 1, 0, 0, [⟨31, 0, .ro, .any⟩]⟩,
    ⟨0x84, 1, 0, 1, 0, 0, [⟨31, 0, .ro, .any⟩]⟩,
    ⟨0x88, 1, 0, 1, 0, 0, [⟨31, 0, .ro, .any⟩]⟩,
    ⟨0x8c, 1, 0, 1, 0, 0, [⟨31, 0, .ro, .any⟩]⟩,
    ⟨0x1000, 128, 0x20, 8, 4, 0, [⟨31, 0, .ro, .any⟩]⟩ ]

def regs_b13 : List RegInfo := regs_b13_0

/-- Register tables of block b14, offsets within the block (part 0). -/
def regs_b14_0 : List RegInfo :=
  [ ⟨0, 1, 0, 1, 0, 0, [⟨1, 0, .wo, .own⟩]⟩,
    ⟨4, 1, 0, 1, 0, 0, [⟨1, 0, .ro, .any⟩, ⟨2, 2, .ro, .any⟩, ⟨3, 3, .ro, .any⟩, ⟨15, 8, .ro, .any⟩]⟩,
    ⟨0x10, 4, 4, 1, 0, 0, [⟨31, 0, .ro, .any⟩]⟩,
    ⟨0x20, 1, 0, 1, 0, 0, [⟨7, 0, .ro, .any⟩, ⟨13, 8, .ro, .any⟩]⟩,
    ⟨0x24, 1, 0, 1, 0, 0x5F6E64, [⟨7, 0, .rws, .any⟩, ⟨15, 8, .rws, .any⟩, ⟨23, 16, .rws, .any⟩]⟩,
    ⟨0x28, 1, 0, 1, 0, 0, [⟨0, 0, .w1c, .any⟩, ⟨1, 1, .w1c, .any⟩]⟩,
    ⟨0x2c, 1, 0, 1, 0, 0, [⟨15, 0, .ro, .any⟩]⟩ ]

def regs_b14 : List RegInfo := regs_b14_0

/-- Register tables of block b15, offsets within the block (part 0). -/
def regs_b15_0 : List RegInfo :=
  [ ⟨0, 1, 0, 1, 0, 0, [⟨1, 0, .ro, .any⟩, ⟨2, 2, .ro, .any⟩, ⟨3, 3, .ro, .any⟩, ⟨15, 8, .ro, .any⟩]⟩,
    ⟨4, 1, 0, 1, 0, 0, [⟨7, 0, .ro, .any⟩]⟩,
    ⟨8, 1, 0, 1, 0, 0, [⟨31, 0, .ro, .any⟩]⟩,
    ⟨0xc, 1, 0, 1, 0, 0, [⟨31, 0, .ro, .any⟩]⟩,
    ⟨0x10, 1, 0, 1, 0, 0, [⟨1, 0, .wo, .own⟩]⟩,
    ⟨0x14, 1, 0, 1, 0, 0, [⟨7, 0, .ro, .any⟩, ⟨8, 8, .ro, .any⟩]⟩,
    ⟨0x100, 32, 4, 1, 0, 0, [⟨31, 0, .ro, .any⟩]⟩,
    ⟨0x180, 24, 4, 1, 0, 0, [⟨31, 0, .ro, .any⟩]⟩,
    ⟨0x200, 24, 4, 1, 0, 0, [⟨31, 0, .rw, .any⟩]⟩ ]

def regs_b15 : List RegInfo := regs_b15_0

/-- Register tables of block b16, offsets within the block (part 0). -/
def regs_b16_0 : List RegInfo :=
  [ ⟨0, 1, 0, 1, 0, 0, [⟨1, 0, .wo, .own⟩, ⟨13, 8, .wo, .own⟩]⟩,
    ⟨4, 1, 0, 1, 0, 0, [⟨25, 0, .rw, .any⟩]⟩,
    ⟨8, 1, 0, 1, 0, 0, [⟨31, 0, .rw, .any⟩]⟩,
    ⟨0xc, 1, 0, 1, 0, 0, [⟨31, 0, .ro, .any⟩]⟩,
    ⟨0x10, 1, 0, 1, 0, 0, [⟨31, 0, .rw, .any⟩]⟩,
    ⟨0x14, 1, 0, 1, 0, 0, [⟨31, 0, .rw, .any⟩]⟩,
    ⟨0x18, 1, 0, 1, 0, 0, [⟨7, 0, .ro, .any⟩, ⟨8, 8, .ro, .any⟩]⟩,
    ⟨0x20, 1, 0, 1, 0, 0, [⟨5, 0, .ro, .any⟩, ⟨15, 8, .ro, .any⟩, ⟨16, 16, .ro, .any⟩]⟩,
    ⟨0x24, 1, 0, 1, 0, 0, [⟨31, 0, .ro, .any⟩]⟩,
    ⟨0x28, 1, 0, 1, 0, 0, [⟨0, 0, .w1c, .any⟩, ⟨1, 1, .w1c, .any⟩]⟩,
    ⟨0x8000, 1, 0, 1, 0, 0, [⟨3, 0, .wo, .own⟩, ⟨13, 8, .wo, .own⟩, ⟨31, 16, .wo, .own⟩]⟩,
    ⟨0x8004, 1, 0, 1, 0, 0, [⟨7, 0, .ro, .any⟩, ⟨8, 8, .ro, .any⟩, ⟨31, 16, .ro, .any⟩]⟩,
    ⟨0x8008, 1, 0, 1, 0, 0, [⟨31, 0, .rw, .any⟩]⟩,
    ⟨0x800c, 1, 0, 1, 0, 0, [⟨31, 0, .rw, .any⟩]⟩,
    ⟨0x8010, 1, 0, 1, 0, 0, [⟨31, 0, .rw, .any⟩]⟩,
    ⟨0x8014, 1, 0, 1, 0, 0, [⟨2, 0, .ro, .any⟩, ⟨3, 3, .ro, .any⟩, ⟨11, 4, .ro, .any⟩, ⟨12, 12, .ro, .any⟩, ⟨13, 13, .ro, .any⟩, ⟨14, 14, .ro, .any⟩, ⟨23, 16, .ro, .any⟩]⟩,
    ⟨0x8018, 1, 0, 1, 0, 0, [⟨8, 0, .ro, .any⟩]⟩,
    ⟨0x8020, 1, 0, 1, 0, 0, [⟨31, 0, .ro, .any⟩]⟩,
    ⟨0x8024, 1, 0, 1, 0, 0, [⟨31, 0, .ro, .any⟩]⟩,
    ⟨0x8028, 1, 0, 1, 0, 0, [⟨31, 0, .ro, .any⟩]⟩,
    ⟨0x802c, 1, 0, 1, 0, 0, [⟨7, 0, .ro, .any⟩, ⟨8, 8, .ro, .any⟩, ⟨23, 16, .ro, .any⟩]⟩,
    ⟨0x8030, 1, 0, 1, 0, 0, [⟨15, 0, .ro, .any⟩]⟩,
    ⟨0x8034, 1, 0, 1, 0, 0, [⟨15, 0, .ro, .any⟩, ⟨31, 16, .ro, .any⟩]⟩,
    ⟨0x8038, 1, 0, 1, 0, 0, [⟨7, 0, .rw, (.range 0 240)⟩]⟩,
    ⟨0x803c, 1, 0, 1, 0, 0, [⟨0, 0, .w1c, .any⟩, ⟨1, 1, .w1c, .any⟩, ⟨2, 2, .w1c, .any⟩]⟩,
    ⟨0x8100, 60, 4, 1, 0, 0, [⟨31, 0, .rw, .any⟩]⟩ ]

def regs_b16 : List RegInfo := regs_b16_0

/-- Register tables of block b18, offsets within the block (part 0). -/
def regs_b18_0 : List RegInfo :=
  [ ⟨0, 1, 0, 1, 0, 0, [⟨0, 0, .w1c, .any⟩, ⟨1, 1, .w1c, .any⟩, ⟨2, 2, .w1c, .any⟩, ⟨3, 3, .w1c, .any⟩]⟩,
    ⟨4, 1, 0, 1, 0, 0, [⟨2, 0, .ro, .any⟩, ⟨7, 3, .ro, .any⟩]⟩,
    ⟨8, 1, 0, 1, 0, 0, [⟨31, 0, .ro, .any⟩]⟩,
    ⟨0xc, 1, 0, 1, 0, 0, [⟨31, 0, .ro, .any⟩]⟩,
    ⟨0x10, 1, 0, 1, 0, 0, [⟨5, 0, .ro, .any⟩, ⟨12, 8, .ro, .any⟩, ⟨23, 16, .ro, .any⟩]⟩,
    ⟨0x20, 1, 0, 1, 0, 0, [⟨14, 0, .ro, .any⟩]⟩,
    ⟨0x24, 1, 0, 1, 0, 0x5FFF, [⟨12, 0, .rw, .any⟩, ⟨14, 14, .rw, .any⟩]⟩,
    ⟨0x28, 1, 0, 1, 0, 0, [⟨0, 0, .w1c, .any⟩, ⟨1, 1, .w1c, .any⟩, ⟨2, 2, .w1c, .any⟩, ⟨3, 3, .w1c, .any⟩]⟩,
    ⟨0x2c, 1, 0, 1, 0, 0, [⟨9, 0, .rw, (.range 0 1000)⟩]⟩,
    ⟨0x10000, 64, 0x20, 1, 0, 0, [⟨31, 12, .rw, .win⟩]⟩,
    ⟨0x10004, 64, 0x20, 1, 0, 0, [⟨31, 0, .rw, .win⟩]⟩,
    ⟨0x10008, 64, 0x20, 1, 0, 0, [⟨31, 12, .rw, .win⟩]⟩,
    ⟨0x1000c, 64, 0x20, 1, 0, 0, [⟨31, 0, .rw, .win⟩]⟩,
    ⟨0x10010, 64, 0x20, 1, 0, 0, [⟨0, 0, .rw, .own⟩, ⟨1, 1, .rw, .win⟩, ⟨2, 2, .rw, .win⟩, ⟨12, 8, .rw, .winPf⟩, ⟨16, 16, .ro, .any⟩]⟩,
    ⟨0x20000, 64, 0x40, 1, 0, 0, [⟨0, 0, .rw, .own⟩, ⟨1, 1, .rw, .any⟩, ⟨13, 8, .rw, .qp⟩, ⟨20, 16, .rw, .qpPf⟩, ⟨27, 24, .rw, .qp⟩, ⟨31, 28, .rw, .qp⟩]⟩,
    ⟨0x20004, 64, 0x40, 1, 0, 0, [⟨10, 0, .rw, .qp⟩, ⟨25, 16, .rw, .qpMod⟩]⟩,
    ⟨0x20008, 64, 0x40, 1, 0, 0, [⟨31, 0, .rw, .qp⟩]⟩,
    ⟨0x2000c, 64, 0x40, 1, 0, 0, [⟨31, 0, .rw, .qp⟩]⟩,
    ⟨0x20010, 64, 0x40, 1, 0, 0, [⟨31, 0, .rw, .qp⟩]⟩,
    ⟨0x20014, 64, 0x40, 1, 0, 0, [⟨31, 0, .rw, .qp⟩]⟩,
    ⟨0x20018, 64, 0x40, 1, 0, 0, [⟨7, 0, .ro, .any⟩, ⟨8, 8, .ro, .any⟩, ⟨9, 9, .ro, .any⟩, ⟨31, 16, .ro, .any⟩]⟩,
    ⟨0x40000, 64, 0x1000, 1, 0, 0, [⟨15, 0, .rw, .own⟩]⟩,
    ⟨0x40004, 64, 0x1000, 1, 0, 0, [⟨15, 0, .rw, .own⟩]⟩,
    ⟨0xa0000, 32, 4, 1, 0, 0, [⟨9, 0, .rw, .pf⟩, ⟨26, 16, .rw, .pf⟩]⟩,
    ⟨0xc0000, 1, 0, 1, 0, 0, [⟨6, 0, .ro, .any⟩, ⟨7, 7, .ro, .any⟩, ⟨8, 8, .ro, .any⟩]⟩ ]

def regs_b18 : List RegInfo := regs_b18_0

/-- The register tables of the 1 MiB block of BAR 0 with this number. -/
def regsOfBlock (b : Nat) : List RegInfo :=
  match b with
  | 0 => regs_b0
  | 1 => regs_b1
  | 2 => regs_b2
  | 3 => regs_b3
  | 4 => regs_b4
  | 16 => regs_b10
  | 17 => regs_b11
  | 18 => regs_b12
  | 19 => regs_b13
  | 20 => regs_b14
  | 21 => regs_b15
  | 22 => regs_b16
  | 24 => regs_b18
  | b => if 8 ≤ b && b < 16 then regs_quire else []

/-- The register at an offset of BAR 0, its table with offsets inside the block; none where no chapter gives one. -/
def regAt (off : Nat) : Option RegInfo :=
  (regsOfBlock (off / 0x100000)).find? fun r => r.covers (off % 0x100000)

/-- What a register that nothing has written holds: the reset value of its table (views hold nothing). -/
def resetOf (off : Nat) : Word :=
  match regAt off with
  | some r => BitVec.ofNat 32 r.reset
  | none => 0

/-- The stored registers of BAR 0, by offset. -/
abbrev RegFile := Sparse Word

/-- The stored value of the register at an offset. -/
def RegFile.rd (m : RegFile) (off : Nat) : Nat := (Sparse.get resetOf m off).toNat

/-- Store a register value. -/
def RegFile.wr (m : RegFile) (off v : Nat) : RegFile := Sparse.set resetOf m off (BitVec.ofNat 32 v)

/-- The value of a field. -/
def RegFile.fld (m : RegFile) (f : Fld) : Nat := bitsOf f.hi f.lo (m.rd f.off)

/-- Set a field, leaving the register's other bits. -/
def RegFile.setFld (m : RegFile) (f : Fld) (v : Nat) : RegFile := m.wr f.off (setBitsOf f.hi f.lo v (m.rd f.off))

end Sys2Proof.Machine
end

