-- ==== Sys2Proof/Machine/Records.lean ====
section
/-!
DEFINITION. The records of the Stream Ledger, the chain, the Spine messages and the binding, as the spec lays
them out (Tables 3.2, 3.7, 11.7, 13.3 to 13.8 and 14.5 to 14.12), held as structured data; the byte layouts
are views of them (`Machine/Layout.lean`).
-/
namespace Sys2Proof.Machine

/-- A direction of work: the input channel or the output channel of admission. -/
inductive Chan where
  | inp | outp
  deriving DecidableEq, Repr

/-- The states of a folio (Table 3.1). -/
inductive FState where
  | free | admitting | screenIn | hold | generating | paused | cancelled | done | orphaned | faulted
  deriving DecidableEq, Repr

/-- The code of Table 3.1. -/
def FState.code : FState → Nat
  | .free => 0 | .admitting => 1 | .screenIn => 2 | .hold => 3 | .generating => 4
  | .paused => 5 | .cancelled => 6 | .done => 7 | .orphaned => 8 | .faulted => 9

/-- The live states of Table 3.1. -/
def FState.live : FState → Bool
  | .admitting | .screenIn | .hold | .generating | .paused => true
  | _ => false

/-- Where a page is (LOC of Table 3.7). -/
inductive PageLoc where
  | held | fwd | far | dropped
  deriving DecidableEq, Repr

/-- One entry of a page list (Table 3.7), with what the device holds of the page. `addr` is the near-tier
address (4 KiB units) while held and the far-tier handle while on the far tier; `data` is the page held. -/
structure Page where
  no : Nat
  loc : PageLoc
  addr : Nat
  data : Bytes
  /-- The hold space is still taken (R318): held, or forwarded and not yet acknowledged. -/
  holds : Bool
  /-- Sent to the DECODE partner. -/
  sent : Bool
  /-- Tick at which an FT_STORE or FT_FETCH of the page was sent, while it is unanswered. -/
  asked : Option Nat
  /-- TAG of that FT_STORE or FT_FETCH. -/
  tag : Nat
  /-- A far copy that must still be freed when the move completes (R324). -/
  farCopy : Option Nat
  deriving DecidableEq, Repr

/-- The fields of a folio (Table 3.2, with FLAGS of Table 3.3 as Bools). `pages` is its page list
(R85): COUNT, PAGES_HELD, PAGES_FWD and PAGES_FAR are counted from it. -/
structure Folio where
  state : FState
  gen : Nat
  promptEnd : Bool
  gateOpen : Bool
  pauseReq : Bool
  resumeReq : Bool
  hasDeadline : Bool
  pfDone : Bool
  tenant : Nat
  priority : Nat
  verdict : Nat
  gatherOpen : Nat
  gatherLast : Nat
  gw : Nat
  pf : Nat
  dec : Nat
  ft : Nat
  gwHandle : Nat
  relSeq : Nat
  admSeq : Nat
  promptLen : Nat
  nextPos : Nat
  maxOut : Nat
  withheld : Nat
  endStatus : Nat
  census : Nat
  censusStep : Nat
  lateItems : Nat
  seed : Nat
  tOpen : Nat
  deadline : Nat
  tLastRel : Nat
  tCack : Nat
  tExpire : Nat
  ttlS : Nat
  dlMisses : Nat
  waitSum : Nat
  lateMax : Nat
  blocksRel : Nat
  prefixHash : Bytes
  screenPtr : Nat
  countPtr : Nat
  selectParams : Bytes
  lastToken : Nat
  outRel : Nat
  tPause : Nat
  tEnd : Nat
  pages : List Page
  /-- Near-tier addresses of the page-list descriptors, in list order (R85). -/
  descAddrs : List Nat
  /-- Acknowledged forwards (Table 12.4 step 6). -/
  pagesFwd : Nat
  pageKib : Nat
  deriving DecidableEq, Repr

/-- A folio that nothing has allocated since the cold reset: FREE, every field 0. -/
def Folio.blank : Folio :=
  { state := .free, gen := 0, promptEnd := false, gateOpen := false, pauseReq := false, resumeReq := false,
    hasDeadline := false, pfDone := false, tenant := 0, priority := 0, verdict := 0, gatherOpen := 0,
    gatherLast := 0, gw := 0, pf := 0, dec := 0, ft := 0, gwHandle := 0, relSeq := 0, admSeq := 0,
    promptLen := 0, nextPos := 0, maxOut := 0, withheld := 0, endStatus := 0, census := 0, censusStep := 0,
    lateItems := 0, seed := 0, tOpen := 0, deadline := 0, tLastRel := 0, tCack := 0, tExpire := 0, ttlS := 0,
    dlMisses := 0, waitSum := 0, lateMax := 0, blocksRel := 0, prefixHash := List.replicate 32 0, screenPtr := 0,
    countPtr := 0, selectParams := List.replicate 16 0, lastToken := 0, outRel := 0, tPause := 0, tEnd := 0,
    pages := [], descAddrs := [], pagesFwd := 0, pageKib := 0 }

/-- "None" as a partner number (Table 11.8). -/
def noPartner : Nat := 0xFF

/-! ### Colophons -/

/-- The item part of Table 13.4 and the header fields that belong to an item. -/
structure ColItem where
  cert : Nat
  rerun : Nat
  tRel : Nat
  wait : Nat
  dlLate : Nat
  verFirst : Nat
  verLast : Nat
  relSeq : Nat
  pos : Nat
  deriving DecidableEq, Repr

/-- The bodies of Tables 13.5 to 13.8. -/
inductive ColBody where
  | inBlock (it : ColItem) (verdict source tokens quire blocker blockers : Nat) (chain : Bytes)
  | inFinal (it : ColItem) (verdict promptLen : Nat) (chain : Bytes) (pagesHeld : Nat)
  | outToken (it : ColItem) (token chosen masked rule r wsum : Nat) (listDigest : Bytes)
  | cancel (tLastRel relSeq admSeq outRel priorState cause partner loss dropped freed : Nat)
  | pause (tExpire ttlS relSeq nextPos pagesFar ft : Nat)
  | resume (tPause relSeq nextPos pages dec ft : Nat)
  | expire (tExpire tPause ttlS relSeq freed ft : Nat)
  | fault (census block quire engine step tRel relSeq admSeq : Nat)
  | gathering (prev result gflags delayIn delayOut provenIn provenOut modelSet fw : Nat) (binding : Bytes)
      (amaVer : Nat) (amaDigest : Bytes)
  | seal0 (firstSeq count trigger keyEpoch amaVer : Nat) (amaDigest : Bytes)
  | seal1 (signedSeq : Nat) (r s : Bytes)
  deriving DecidableEq, Repr

/-- One Colophon but for its SEQ, which is its place in the chain (R336). `handle` and `tenant` are the folio
prefix of Table 13.4 (0 for GATHERING and SEAL); `rank` and `sub` are its place in its tick (R337). -/
structure Col where
  tick : Nat
  rank : Nat
  sub : Nat
  status : Nat
  flags : Nat
  gather : Nat
  handle : Nat
  tenant : Nat
  body : ColBody
  deriving DecidableEq, Repr

/-! ### Spine messages -/

/-- Where a message goes or comes from: a Spine port and an endpoint of it. -/
structure Endp where
  port : Nat
  ep : Nat
  deriving DecidableEq, Repr

/-- The bodies of Table 11.9 that the device sends. -/
inductive MsgBody where
  | hello (kind : Nat) (unitId : Bytes)
  | caps (flags pageKib maxCand maxStreams ftPages maxBody : Nat)
  | heartbeat (seq time : Nat)
  | detach (reason : Nat)
  | roster (entries : List (List Nat × Bytes))
  | reject (refType refTag handle : Nat)
  | openAck (gwHandle handle tOpen : Nat)
  | cancelAck (handle relSeq tCack : Nat)
  | pauseAccept (handle : Nat)
  | pauseDone (handle tPause tExpire : Nat)
  | resumeAccept (handle : Nat)
  | resumeDone (handle tResume : Nat)
  | verdict (handle kind verdict flags blockNo relSeq tRel colSeq : Nat)
  | tokenOut (handle pos token relSeq tRel colSeq : Nat)
  | withheld (handle pos count tRel colSeq : Nat)
  | folioEnd (handle relSeq tEnd : Nat)
  | pfTokens (handle firstPos : Nat) (isEnd : Bool) (tokens : List Nat)
  | kvPage (handle pageNo pageKib : Nat) (data : Bytes)
  | kvEnd (handle pages : Nat)
  | kvEvict (handle : Nat)
  | decBind (handle nextPos pages pageKib : Nat)
  | ftStore (handle pageNo pageKib : Nat) (data : Bytes)
  | ftFetch (ftHandle : Nat)
  | ftFree (ftHandle : Nat)
  deriving DecidableEq, Repr

/-- A message that the device puts in a port's send queue: when, to which endpoint, on which virtual
channel, and what it carries. -/
structure OutMsg where
  tick : Nat
  dst : Endp
  vc : Nat
  tag : Nat
  status : Nat
  body : MsgBody
  deriving DecidableEq, Repr

/-! ### The binding -/

/-- The MANIFEST (Table 14.5). -/
structure Manifest where
  abiMin : Nat
  abiMax : Nat
  steppings : Nat
  profiles : Nat
  declaredIn : Nat
  declaredOut : Nat
  provenIn : Nat
  provenOut : Nat
  cmapId : Nat
  snapBytes : Nat
  stateFormat : Nat
  iddel : Nat
  deriving DecidableEq, Repr

/-- A region record (Table 14.7). KIND: 1 PVC, 2 HOLD, 3 COUNT, 4 SPILL, 5 TENANT_MODEL. -/
structure Region where
  kind : Nat
  index : Nat
  pFirst : Nat
  pCount : Nat
  base : Nat
  size : Nat
  deriving DecidableEq, Repr

/-- A profile record (Table 14.10): costs are TWE, AMT, AMA, Exact Lane C (and TSU). -/
structure Profile where
  num : Nat
  inQuires : Nat
  outQuires : Nat
  inPath : Nat
  outPath : Nat
  inCls : Nat
  outCls : Nat
  inEns : Nat
  outEns : Nat
  inCost : List Nat
  outCost : List Nat
  deriving DecidableEq, Repr

/-- A slot descriptor (Table 14.9), with the 64 bytes it was read from (for SLOT_DIGEST). -/
structure SlotDesc where
  num : Nat
  cls : Nat
  region : Nat
  memOff : Nat
  memBytes : Nat
  env1 : Nat
  env2 : Nat
  aFirst : Nat
  aCount : Nat
  bFirst : Nat
  bCount : Nat
  cFirst : Nat
  cCount : Nat
  dFirst : Nat
  dCount : Nat
  raw : Bytes
  deriving DecidableEq, Repr

/-- A QUIRE_CFG record (Table 14.8). `features` holds the 8-byte feature descriptors by number (an unlisted one
is 0), `witness` the 1,024 int8 values by index (an unlisted one is 0). -/
structure QuireCfg where
  slots : List SlotDesc
  features : Sparse Nat
  witness : Sparse Int
  deriving DecidableEq, Repr

/-- A table record of AMA_TABLES (Table 14.11). -/
structure TableRec where
  defined : Bool
  mask : Bool
  cascade : Bool
  width : Nat
  banks : Nat
  deriving DecidableEq, Repr

/-- A bank record of AMA_TABLES (Table 14.11). -/
structure BankRec where
  table : Nat
  inTable : Bool
  order : Nat
  gutter : Nat
  deriving DecidableEq, Repr

/-- One ternary unit of an entry: VALUE, CARE and TAG (Table 6.1 and the AMA_BANK section). -/
structure Unit3 where
  value : Nat
  care : Nat
  tag : Nat
  deriving DecidableEq, Repr

/-- An entry: its 1, 2 or 4 units in slot order. -/
abbrev Entry := List Unit3

/-- A binding image, read (R352 to R367). Tables and banks that are all zero are not listed. -/
structure Binding where
  digest : Bytes
  manifest : Manifest
  regions : List Region
  profiles : List Profile
  tenantMap : Sparse Nat
  quires : List QuireCfg
  tables : Sparse TableRec
  banks : Sparse BankRec
  /-- The AMA_BANK sections, by bank number 32 × q + m: the entries in rank order. -/
  entries : Sparse (List Entry)
  deriving DecidableEq, Repr

/-- The content of a variant image (Table 14.12): its records in each range and its model memory image. -/
structure VariantBody where
  cls : Nat
  slotDigest : Bytes
  memBytes : Nat
  recsA : List Bytes
  recsB : List Bytes
  recsC : List Bytes
  recsD : List Bytes
  image : Bytes
  deriving DecidableEq, Repr

/-- A variant in the catalogue (R369): number, extent, region and digest. -/
structure Variant where
  num : Nat
  addr : Nat
  len : Nat
  region : Nat
  digest : Bytes
  body : VariantBody
  deriving DecidableEq, Repr

/-- A census entry (Tables 15.4 to 15.6), but for FOLIO, GEN and REL_SEQ, which the folio holds. -/
structure Census where
  state : Nat
  prior : FState
  block : Nat
  quire : Nat
  engine : Nat
  status : Nat
  itemKind : Nat
  unreleased : Nat
  damaged : Bool
  multi : Bool
  settled : Bool
  further : Nat
  step : Nat
  relSeq : Nat
  tFault : Nat
  deriving DecidableEq, Repr

/-- What one model memory slot holds. -/
structure SlotMem where
  digest : Bytes
  body : VariantBody
  deriving DecidableEq, Repr

/-- An undefined table record. -/
def TableRec.none : TableRec := { defined := false, mask := false, cascade := false, width := 0, banks := 0 }

/-- The record of a bank in no table. -/
def BankRec.none : BankRec := { table := 0, inTable := false, order := 0, gutter := 0 }

end Sys2Proof.Machine
end

