-- ==== Sys2Proof/Machine/Ama.lean ====
section
/-!
DEFINITION. The Associative Match Array: its slots, journals and rule versions as data, and the pure operations
on them that chapters 6 and 7 give (R137 to R191). The commands that use them stand in `Machine/AmaCmds.lean`.
-/
namespace Sys2Proof.Machine

/-- One entry position of a bank: the shadow copy (units, VALID), the match cells (VALUE, CARE of each unit), the
quarantine mark (R188), and the tick of the scrub that followed a false hit (R187). -/
structure AmaSlot where
  units : Entry
  cells : List (Nat × Nat)
  valid : Bool
  quar : Bool
  scrubbedAt : Option Nat
  deriving DecidableEq, Repr

/-- A slot that holds no entry. -/
def AmaSlot.blank : AmaSlot := { units := [], cells := [], valid := false, quar := false, scrubbedAt := none }

/-- One micro-step of an update command, in the order in which the sub-steps run (R165, R176). `ver`: the step
changes what a table can match and takes a rule version (R168). -/
inductive AmaMicro where
  | clear (slot : Nat) (ver : Bool)
  | copy (dest src : Nat)
  | put (slot : Nat)
  | validate (slot : Nat) (ver : Bool) (cursor : Option Nat)
  deriving DecidableEq, Repr

/-- A running update command of one quire: what it was, its staged entry, and the sub-steps still to run. -/
structure AmaUpd where
  op : Nat
  bank : Nat
  entry : Entry
  plan : List AmaMicro
  suspended : Bool
  deriving DecidableEq, Repr

/-- The journal of one quire as QUIRE_n_AMA_JOURNAL_0 to _2 show it (R180). -/
structure AmaJournal where
  state : Nat
  bank : Nat
  dir : Bool
  substep : Nat
  good : Bool
  cursor : Nat
  target : Nat
  gutter : Nat
  width : Nat
  deriving DecidableEq, Repr

/-- The journal after a cold reset. -/
def AmaJournal.idle : AmaJournal :=
  { state := 0, bank := 0, dir := false, substep := 0, good := true, cursor := 0, target := 0, gutter := 0, width := 0 }

/-- The results of a quire's last command that are wider than one register (R172). -/
structure AmaUpdRes where
  ver : Nat
  ver0 : Nat
  tick0 : Nat
  tick1 : Nat
  deriving DecidableEq, Repr

/-- A saved bank (R374): shadows, VALID bits, quarantine marks, FAILED mark, and the quire's journal and command
when the journal names the bank. -/
structure AmaSave where
  bank : Nat
  slots : List (Nat × AmaSlot)
  failed : Bool
  journal : Option (AmaJournal × Option AmaUpd)
  deriving DecidableEq, Repr

/-- The AMA of the chip. Slot s of bank m of quire q has the key ((32 × q + m) × 16,384) + s; an entry of width w
stands at the key of its first unit. -/
structure Ama where
  slots : Sparse AmaSlot
  failed : List Nat
  upd : Sparse (Option AmaUpd)
  journal : Sparse AmaJournal
  res : Sparse AmaUpdRes
  ver : Nat
  digest : Bytes
  /-- Next slot of each bank's scrub sweep, and the slots to be scrubbed first (R186, R189), by bank. -/
  scrubNext : Sparse Nat
  scrubDue : List (Nat × Nat)
  saves : List AmaSave
  deriving DecidableEq, Repr

/-- No command has completed since the cold reset. -/
def AmaUpdRes.zero : AmaUpdRes := { ver := 0, ver0 := 0, tick0 := 0, tick1 := 0 }

/-- The AMA after a cold reset: no entry, V = 0 and D zero (R168, Table 7.4). -/
def Ama.cold : Ama :=
  { slots := [], failed := [], upd := [], journal := [], res := [], ver := 0, digest := zeros 48,
    scrubNext := [], scrubDue := [], saves := [] }

/-- Entry width in units of a WIDTH encoding (Table 14.11). -/
def widthUnits (code : Nat) : Nat := if code = 0 then 1 else if code = 1 then 2 else 4

/-- The key of a slot in `Ama.slots`. -/
def slotKey (bank slot : Nat) : Nat := bank * 16384 + slot

/-- The slot of a bank. -/
def Ama.slot (a : Ama) (bank slot : Nat) : AmaSlot := Sparse.get (fun _ => .blank) a.slots (slotKey bank slot)

/-- Replace the slot of a bank. -/
def Ama.setSlot (a : Ama) (bank slot : Nat) (e : AmaSlot) : Ama :=
  { a with slots := Sparse.set (fun _ => .blank) a.slots (slotKey bank slot) e }

/-- The listed slots of a bank, in slot order. -/
def Ama.bankSlots (a : Ama) (bank : Nat) : List (Nat × AmaSlot) :=
  (a.slots.filter fun p => p.1 / 16384 == bank).map fun p => (p.1 % 16384, p.2)

/-- A ternary unit with no reserved pair (Table 6.2): no bit has VALUE 1 with CARE 0. -/
def Unit3.ok (u : Unit3) : Bool := Nat.land u.value (Nat.xor u.care (2 ^ 64 - 1)) == 0

/-- R138: a unit with these VALUE and CARE words matches the 64-bit key word. -/
def ternaryMatch (key value care : Nat) : Bool := Nat.land (Nat.xor key value) care == 0

/-- R138: the (VALUE, CARE) units of an entry match the key, unit j against bits [64j+63:64j]. -/
def unitsMatch : List (Nat × Nat) → Nat → Bool
  | [], _ => true
  | (v, c) :: us, key => ternaryMatch (key % 2 ^ 64) v c && unitsMatch us (key / 2 ^ 64)

/-- The (VALUE, CARE) pairs of an entry. -/
def Entry.cells (e : Entry) : List (Nat × Nat) := e.map fun u => (u.value, u.care)

/-- TAG of the entry (R139). -/
def Entry.tag (e : Entry) : Nat := (e.head?.map (·.tag)).getD 0

/-- Extension words of the entry (R139). -/
def Entry.ext (e : Entry) : List Nat := e.tail.map (·.tag)

/-! ### Rule versions and the digest (R168, R171) -/

/-- The step record of Table 7.2. KIND: 1 VALIDATE, 2 INVALIDATE, 3 CLEAR. -/
def stepRecord (ver tick kind bank width slot table : Nat) (units : Entry) : Bytes :=
  le 8 ver ++ le 8 tick ++ le 1 kind ++ le 1 (bank / 32) ++ le 1 (bank % 32) ++ le 1 width ++ le 2 slot ++ le 2 table ++
    padTo 72 (units.flatMap fun u => le 8 u.value ++ le 8 u.care ++ le 2 u.tag)

/-- A step that changes what a table can match takes the next rule version and extends the digest (R168, R171). -/
def Ama.verStep (a : Ama) (tick kind bank width slot table : Nat) (units : Entry) : Ama :=
  { a with
    ver := a.ver + 1
    digest := sha384 (a.digest ++ stepRecord (a.ver + 1) tick kind bank width slot table units) }

/-! ### Search in one bank (R145, R185 to R188) -/

/-- What a bank answers to a search: its verified lowest match, a miss, or no answer (R146). -/
inductive BankAnswer where
  | hit (slot : Nat) (e : Entry)
  | miss
  | noAnswer
  deriving DecidableEq, Repr

/-- Upsets seen in one slot during a search or a scrub visit, from outside the model: the match cells of a unit
change by XOR masks; the shadow reads with a corrected (`shadow = 1`) or uncorrectable (`shadow = 2`) error; or
noise makes the slot signal a false match (R185). -/
structure AmaUpset where
  bank : Nat
  slot : Nat
  unit : Nat
  vMask : Nat
  cMask : Nat
  shadow : Nat
  noise : Bool
  deriving DecidableEq, Repr

/-- XOR masks applied to unit j of the match cells. -/
def upsetCells : List (Nat × Nat) → Nat → Nat → Nat → List (Nat × Nat)
  | [], _, _, _ => []
  | (v, c) :: us, 0, vm, cm => (Nat.xor v vm, Nat.xor c cm) :: us
  | u :: us, j + 1, vm, cm => u :: upsetCells us j vm cm

/-- Apply the cell upsets to the array. -/
def Ama.upset (a : Ama) (us : List AmaUpset) : Ama :=
  us.foldl (fun a u =>
    let e := a.slot u.bank u.slot
    a.setSlot u.bank u.slot { e with cells := upsetCells e.cells u.unit u.vMask u.cMask }) a

/-- The slots of a bank that signal a match, lowest first: valid entries whose cells match, and noise. -/
def Ama.signals (a : Ama) (us : List AmaUpset) (bank key w : Nat) : List Nat :=
  let real := ((a.bankSlots bank).filter fun p =>
    p.2.valid && p.2.cells.length == w && unitsMatch p.2.cells key).map (·.1)
  let noise := (us.filter fun u => u.noise && u.bank == bank && u.slot % w == 0).map (·.slot)
  sortNat (real ++ noise)

/-- Quarantine a slot (R188): it keeps its cells and its VALID bit. -/
def Ama.quarantine (a : Ama) (bank slot : Nat) : Ama :=
  a.setSlot bank slot { a.slot bank slot with quar := true }

/-- What a search found besides its answer: discarded slots and newly quarantined slots. -/
structure BankReport where
  ans : BankAnswer
  discards : List Nat
  quars : List Nat
  deriving DecidableEq, Repr

/-- Read back the signalling slots in order (R186 to R188): a slot that is quarantined or whose shadow cannot be
corrected leaves the bank without an answer; a slot that fails the compare is discarded, at most two of them. -/
def bankReadBack (a : Ama) (us : List AmaUpset) (bank key : Nat) : List Nat → List Nat → BankReport
  | [], ds => { ans := .miss, discards := ds, quars := [] }
  | s :: ss, ds =>
    let e := a.slot bank s
    if e.quar then { ans := .noAnswer, discards := ds, quars := [] }
    else if us.any (fun u => u.bank == bank && u.slot == s && u.shadow == 2) then
      { ans := .noAnswer, discards := ds, quars := [s] }
    else if e.valid && unitsMatch e.units.cells key then { ans := .hit s e.units, discards := ds, quars := [] }
    else if ds.length = 2 then { ans := .noAnswer, discards := ds, quars := [] }
    else bankReadBack a us bank key ss (ds ++ [s])

/-- A bank's answer to a key of w units; a FAILED bank gives none (R183). -/
def Ama.searchBank (a : Ama) (us : List AmaUpset) (bank key w : Nat) : BankReport :=
  if a.failed.contains bank then { ans := .noAnswer, discards := [], quars := [] }
  else bankReadBack a us bank key (a.signals us bank key w) []

/-- The result of a search of the local part of a table (R144, R146). -/
inductive SearchRes where
  | hit (bank slot tag : Nat) (ext : List Nat)
  | miss
  | incomplete
  deriving DecidableEq, Repr

/-- R146 over the banks of a table in order: the first bank without an answer before any hit makes the search
INCOMPLETE; the first verified hit wins. -/
def combineBanks : List (Nat × BankReport) → SearchRes
  | [] => .miss
  | (bank, r) :: rest =>
    match r.ans with
    | .hit s e => .hit bank s e.tag e.ext
    | .noAnswer => .incomplete
    | .miss => combineBanks rest

/-- Search banks given in table order; all of them search, whatever the winner. -/
def Ama.search (a : Ama) (us : List AmaUpset) (banks : List Nat) (key w : Nat) : SearchRes × List (Nat × BankReport) :=
  let rs := banks.map fun b => (b, a.searchBank us b key w)
  (combineBanks rs, rs)

/-! ### Update commands (R165 to R178) -/

/-- A position that holds no valid entry. -/
def Ama.isFree (a : Ama) (bank slot : Nat) : Bool := !(a.slot bank slot).valid

/-- The first of `n` positions from s upward (step w) below 16,384 that is free. -/
def Ama.freeUp (a : Ama) (bank w : Nat) : Nat → Nat → Option Nat
  | 0, _ => none
  | n + 1, s => if 16384 ≤ s then none else if a.isFree bank s then some s else Ama.freeUp a bank w n (s + w)

/-- The first of `n` positions below s downward (step w) that is free. -/
def Ama.freeDown (a : Ama) (bank w : Nat) : Nat → Nat → Option Nat
  | 0, _ => none
  | n + 1, s => if s < w then none else if a.isFree bank (s - w) then some (s - w) else Ama.freeDown a bank w n (s - w)

/-- The slot after the highest valid entry below s, or 0 when there is none (R174). -/
def Ama.afterLast (a : Ama) (bank w s : Nat) : Nat :=
  ((a.bankSlots bank).filter fun p => p.2.valid && p.1 < s).foldl (fun m p => max m (p.1 + w)) 0

/-- Sub-steps of the copies of a move toward higher slots (R176): n copies left, `dest` next. -/
def moveUp (w fHi : Nat) : Nat → Nat → List AmaMicro
  | 0, _ => []
  | n + 1, dest =>
    (if dest = fHi then [] else [AmaMicro.clear dest false]) ++
      [.copy dest (dest - w), .validate dest false (some (dest - w))] ++ moveUp w fHi n (dest - w)

/-- The same toward lower slots. -/
def moveDown (w fLo : Nat) : Nat → Nat → List AmaMicro
  | 0, _ => []
  | n + 1, dest =>
    (if dest = fLo then [] else [AmaMicro.clear dest false]) ++
      [.copy dest (dest + w), .validate dest false (some (dest + w))] ++ moveDown w fLo n (dest + w)

/-- How TIP_IN places its entry (R174, R175): at a free slot, by a move, or not at all (the status). -/
inductive TipPlan where
  | place (slot : Nat)
  | move (down : Bool) (count gutter target : Nat)
  | refuse (status : Nat)
  deriving DecidableEq, Repr

/-- A quarantined slot stands among n positions from s upward. -/
def Ama.anyQuar (a : Ama) (bank w : Nat) : Nat → Nat → Bool
  | 0, _ => false
  | n + 1, s => (a.slot bank s).quar || Ama.anyQuar a bank w n (s + w)

/-- R174 and R175. -/
def Ama.tipPlan (a : Ama) (bank w s : Nat) : TipPlan :=
  let p := a.afterLast bank w s
  if p < s then .place (p + w * (((s - p) / w - 1) / 2))
  else
    let up := (a.freeUp bank w (16384 / w) s).map fun f => (f, (f - s) / w)
    let dn := (a.freeDown bank w (16384 / w) s).map fun f => (f, (s - w - f) / w)
    let goUp (f n : Nat) : TipPlan :=
      if a.anyQuar bank w n s then .refuse 0x15 else .move false n f s
    let goDown (f n : Nat) : TipPlan :=
      if a.anyQuar bank w n (f + w) then .refuse 0x15 else .move true n f (s - w)
    match up, dn with
    | none, none => .refuse 0x26
    | some (f, n), none => goUp f n
    | none, some (f, n) => goDown f n
    | some (fu, nu), some (fd, nd) => if nd < nu then goDown fd nd else goUp fu nu

/-- The sub-steps of WRITE at slot s (R165). -/
def Ama.writePlan (a : Ama) (bank s : Nat) : List AmaMicro :=
  (if (a.slot bank s).valid then [AmaMicro.clear s true] else []) ++ [.put s, .validate s true none]

/-- The sub-steps of TIP_IN at a free slot, or after a move at the opened slot. -/
def tipSteps (w : Nat) : TipPlan → List AmaMicro
  | .place s => [.put s, .validate s true none]
  | .move false n f t =>
    moveUp w f n f ++ (if n = 0 then [] else [AmaMicro.clear t false]) ++ [.put t, .validate t true none]
  | .move true n f t =>
    moveDown w f n f ++ (if n = 0 then [] else [AmaMicro.clear t false]) ++ [.put t, .validate t true none]
  | .refuse _ => []

/-- Entries of a bank as the binding places them (R173): rank order from slot 0, one free position after every
2^gutter entries, none for gutter 0. -/
def placeEntries (w gutter : Nat) (es : List Entry) : List (Nat × AmaSlot) :=
  es.zipIdx.map fun (e, i) =>
    (w * (i + if gutter = 0 then 0 else i / 2 ^ gutter),
     { units := e, cells := e.cells, valid := true, quar := false, scrubbedAt := none })

/-- Empty a bank: slots, quarantines, FAILED mark. -/
def Ama.clearBank (a : Ama) (bank : Nat) : Ama :=
  { a with
    slots := a.slots.filter fun p => p.1 / 16384 != bank
    failed := a.failed.filter (· != bank) }

/-- Put slots into a bank. -/
def Ama.putSlots (a : Ama) (bank : Nat) (l : List (Nat × AmaSlot)) : Ama :=
  l.foldl (fun a p => a.setSlot bank p.1 p.2) a

end Sys2Proof.Machine
end

