-- ==== Sys2Proof/Machine/Cascade.lean ====
section
/-!
DEFINITION. The match cascade: its frames, the merge of a local result, and the state of the ring (R151 to R160).
-/
namespace Sys2Proof.Machine

/-- A cascade frame (Table 6.4) but for its CRC. TYPE: 0 EMPTY, 1 SEARCH, 2 TRAIN, 3 ERROR. -/
structure CFrame where
  type : Nat
  slot : Nat
  table : Nat
  width : Nat
  incomplete : Bool
  hit : Bool
  mismatch : Bool
  cmap : Nat
  key : Nat
  tag : Nat
  ext : List Nat
  chip : Nat
  quire : Nat
  bank : Nat
  wslot : Nat
  searchId : Nat
  deriving DecidableEq, Repr

/-- An EMPTY frame of a slot. -/
def CFrame.empty (slot : Nat) : CFrame :=
  { type := 0, slot := slot, table := 0, width := 0, incomplete := false, hit := false, mismatch := false, cmap := 0,
    key := 0, tag := 0, ext := [0, 0, 0], chip := 0, quire := 0, bank := 0, wslot := 0, searchId := 0 }

/-- The ERROR frame of a slot: every other field 0 (R158). -/
def CFrame.error (slot : Nat) : CFrame := { CFrame.empty slot with type := 3 }

/-- Bytes 0x00 to 0x3B of a frame (Table 6.4). -/
def CFrame.body (f : CFrame) : Bytes :=
  le 1 f.type ++ le 1 f.slot ++ le 1 f.table ++
    le 1 (f.width + 4 * b2n f.incomplete + 8 * b2n f.hit + 16 * b2n f.mismatch) ++ le 4 f.cmap ++ le 32 f.key ++
    le 2 f.tag ++ padTo 6 (f.ext.flatMap (le 2)) ++
    le 4 (f.chip * 2 ^ 22 + f.quire * 2 ^ 19 + f.bank * 2 ^ 14 + f.wslot) ++ le 4 f.searchId ++ le 4 0

/-- The 64 bytes of a frame with its CRC. -/
def CFrame.bytes (f : CFrame) : Bytes := f.body ++ le 4 (crc32 f.body)

/-- The CRC of 64 received bytes is good. -/
def frameCrcOk (bs : Bytes) : Bool := crc32 (bs.take 60) == fieldAt 60 4 bs

/-- A reserved bit of a received frame is set (Table 6.4, R10). -/
def frameRsvd (bs : Bytes) : Bool :=
  fieldAt 0 1 bs / 4 != 0 || fieldAt 1 1 bs / 128 != 0 || fieldAt 2 1 bs / 64 != 0 || fieldAt 3 1 bs / 32 != 0 ||
    fieldAt 3 1 bs % 4 == 3 || fieldAt 0x30 4 bs / 2 ^ 25 != 0 || fieldAt 0x38 4 bs != 0

/-- Read the fields of 64 received bytes. -/
def parseFrame (bs : Bytes) : CFrame :=
  let fl := fieldAt 3 1 bs
  let wa := fieldAt 0x30 4 bs
  { type := fieldAt 0 1 bs % 4, slot := fieldAt 1 1 bs % 128, table := fieldAt 2 1 bs % 64, width := fl % 4,
    incomplete := bitOf 2 fl, hit := bitOf 3 fl, mismatch := bitOf 4 fl, cmap := fieldAt 4 4 bs,
    key := fieldAt 8 32 bs, tag := fieldAt 0x28 2 bs,
    ext := [fieldAt 0x2A 2 bs, fieldAt 0x2C 2 bs, fieldAt 0x2E 2 bs],
    chip := bitsOf 24 22 wa, quire := bitsOf 21 19 wa, bank := bitsOf 18 14 wa, wslot := bitsOf 13 0 wa,
    searchId := fieldAt 0x34 4 bs }

/-- R156: merge the local result of a chip at position `pos` with cascade map `cmap` into a SEARCH frame. `part` is
false for a chip with no part of the table. -/
def CFrame.merge (f : CFrame) (cmap pos : Nat) (part : Bool) (r : SearchRes) : CFrame :=
  if f.cmap ≠ cmap then { f with mismatch := true, incomplete := true }
  else if !part then f
  else match r with
    | .incomplete => { f with incomplete := true }
    | .hit bank slot tag ext =>
      if !f.hit || pos < f.chip then
        { f with hit := true, tag := tag, ext := (ext ++ [0, 0, 0]).take 3, chip := pos, quire := bank / 32,
                 bank := bank % 32, wslot := slot }
      else f
    | .miss => f

/-- A search of a cascaded table that is on the ring, by the item that issued it. -/
structure CSearch where
  searchId : Nat
  item : Nat
  slot : Nat
  frame : CFrame
  deriving DecidableEq, Repr

/-- The state of the ring beside SHL_CASCADE_STATUS: whether this chip joined at the last seal with its N and
position, when training began, the closed frame seen, the frames without a good CRC so far, the last DOWN, the
searches on the ring and the frames sent (newest first). -/
structure Casc where
  joined : Bool
  n : Nat
  pos : Nat
  trainAt : Nat
  closedAt : Option Nat
  lockedOk : Bool
  noGood : Nat
  crcRun : Nat
  downAt : Option Nat
  lastReason : Nat
  nextId : Nat
  flying : List CSearch
  sent : List (Nat × CFrame)
  deriving DecidableEq, Repr

/-- No ring. -/
def Casc.off : Casc :=
  { joined := false, n := 0, pos := 0, trainAt := 0, closedAt := none, lockedOk := false, noGood := 0, crcRun := 0,
    downAt := none, lastReason := 0, nextId := 0, flying := [], sent := [] }

end Sys2Proof.Machine
end

