-- ==== Sys2Proof/Machine/Model.lean ====
section
/-!
DEFINITION. Model memory and the model structures in it: reads bounded by the slot's extent (R380), tree, ensemble and
feature descriptors (R192 to R197), classifier and layer descriptors (R220), declared thresholds (R236).
-/
namespace Sys2Proof.Machine

/-- What one quire computes with: its QUIRE_CFG record and the content of its slots, by slot number. -/
structure QModel where
  cfg : QuireCfg
  mem : List (Option SlotMem)
  deriving DecidableEq, Repr

/-- The content of slot s. -/
def QModel.slotMem (q : QModel) (s : Nat) : Option SlotMem := (q.mem[s]?).join

/-- The slots in use, with their content. -/
def QModel.used (q : QModel) : List (SlotDesc × SlotMem) :=
  q.cfg.slots.filterMap fun d => (q.slotMem d.num).map fun m => (d, m)

/-- Record n of a range in the slots of one class: `first` and `recs` name the range (Tables 14.9, 14.12). -/
def QModel.recAt (q : QModel) (cls : Nat) (first : SlotDesc → Nat) (recs : VariantBody → List Bytes) (n : Nat) :
    Option (SlotDesc × Bytes) :=
  (q.used.filter fun p => p.1.cls == cls).findSome? fun p =>
    if first p.1 ≤ n then ((recs p.2.body)[n - first p.1]?).map fun r => (p.1, r) else none

/-- Result of a model memory read: bytes, or refused whole because it passes the slot's end (R380). -/
inductive MemRead where
  | ok (bs : Bytes)
  | boundary (addr : Nat)
  deriving DecidableEq, Repr

/-- Read n bytes of model memory at addr for a structure held in slot d (R380). -/
def QModel.read (q : QModel) (d : SlotDesc) (addr n : Nat) : MemRead :=
  if d.memOff ≤ addr && addr + n ≤ d.memOff + d.memBytes then
    match q.slotMem d.num with
    | some m => .ok (slice (addr - d.memOff) n m.body.image)
    | none => .ok (zeros n)
  else .boundary (if addr < d.memOff then addr else max addr (d.memOff + d.memBytes))

/-! ### Trees (chapter 8) -/

/-- A tree descriptor (R196) and the slot that holds the tree. -/
structure TreeDesc where
  slot : SlotDesc
  root : Nat
  depth : Nat
  ens : Nat
  rsvd : Bool
  deriving DecidableEq, Repr

/-- Read a tree descriptor. -/
def parseTree (d : SlotDesc) (b : Bytes) : TreeDesc :=
  let v := unle b
  { slot := d, root := bitsOf 31 0 v, depth := bitsOf 36 32 v, ens := bitsOf 47 40 v,
    rsvd := bitsOf 39 37 v != 0 || bitsOf 63 48 v != 0 }

/-- Tree n of the quire. -/
def QModel.tree (q : QModel) (n : Nat) : Option TreeDesc :=
  (q.recAt 1 (·.aFirst) (·.recsA) n).map fun p => parseTree p.1 p.2

/-- An ensemble descriptor (Table 8.4). -/
structure EnsDesc where
  base : Int
  threshold : Int
  firstTree : Nat
  trees : Nat
  leafShift : Nat
  output : Bool
  decides : Bool
  rsvd : Bool
  deriving DecidableEq, Repr

/-- Read an ensemble descriptor. -/
def parseEns (b : Bytes) : EnsDesc :=
  { base := sext 64 (fieldAt 0 8 b), threshold := sext 64 (fieldAt 8 8 b), firstTree := fieldAt 0x10 2 b,
    trees := fieldAt 0x12 2 b, leafShift := fieldAt 0x14 1 b, output := bitOf 0 (fieldAt 0x15 1 b),
    decides := bitOf 1 (fieldAt 0x15 1 b),
    rsvd := fieldAt 0x15 1 b / 4 != 0 || fieldAt 0x16 10 b != 0 }

/-- Ensemble n of the quire. -/
def QModel.ens (q : QModel) (n : Nat) : Option EnsDesc :=
  (q.recAt 1 (·.bFirst) (·.recsB) n).map fun p => parseEns p.2

/-- Word n of the split store (R194); a word that no slot holds reads 0. -/
def QModel.split (q : QModel) (n : Nat) : Nat := ((q.recAt 1 (·.cFirst) (·.recsC) n).map fun p => unle p.2).getD 0

/-- A node (Table 8.2). -/
structure Node where
  feature : Nat
  split : Nat
  defaultLeft : Bool
  categorical : Bool
  leaf : Bool
  rsvd : Bool
  low : Nat
  deriving DecidableEq, Repr

/-- Read a node. -/
def parseNode (v : Nat) : Node :=
  { feature := bitsOf 63 52 v, split := bitsOf 51 36 v, defaultLeft := bitOf 35 v, categorical := bitOf 34 v,
    leaf := bitOf 33 v, rsvd := bitOf 32 v, low := bitsOf 31 0 v }

/-- A feature descriptor (Table 8.3). -/
structure FeatDesc where
  source : Nat
  categorical : Bool
  index : Nat
  cats : Nat
  rsvd : Bool
  deriving DecidableEq, Repr

/-- Read a feature descriptor. -/
def parseFeat (v : Nat) : FeatDesc :=
  { source := bitsOf 2 0 v, categorical := bitOf 3 v, index := bitsOf 15 4 v, cats := bitsOf 28 16 v,
    rsvd := bitsOf 31 29 v != 0 }

/-- Feature f of the quire. -/
def QModel.feat (q : QModel) (f : Nat) : FeatDesc := parseFeat (Sparse.get (fun _ => 0) q.cfg.features f)

/-- What a node met: which way, and whether the value was missing or an unseen category (R203 to R205). -/
structure Turn where
  left : Bool
  missing : Bool
  unseen : Bool
  deriving DecidableEq, Repr

/-- The direction of an internal node for a feature value (none: missing). -/
def goLeft (q : QModel) (n : Node) (v : Option Int) : Turn :=
  match v with
  | none => { left := n.defaultLeft, missing := true, unseen := false }
  | some x =>
    if n.categorical then
      let c := (q.feat n.feature).cats
      if 0 ≤ x && x < c then
        let k := x.toNat
        { left := bitOf (k % 64) (q.split (n.split + k / 64)), missing := false, unseen := false }
      else { left := n.defaultLeft, missing := false, unseen := true }
    else { left := x < sext 32 (q.split n.split), missing := false, unseen := false }

/-- The addend of a leaf in Q32.32 (R207). -/
def leafAddend (value shift : Nat) : Int := sext 32 value * (2 ^ shift : Nat)

/-- x mod 7 of a signed value (R216). -/
def mod7 (x : Int) : Nat := (x % 7).toNat

/-- The sum lies outside the signed 64-bit range (R209). -/
def overflow64 (x : Int) : Bool := x < -(2 ^ 63) || (2 ^ 63 - 1) < x

/-! ### Classifiers (chapter 9) -/

/-- A classifier descriptor (Table 9.2) and the slot that holds it. -/
structure ClsDesc where
  slot : SlotDesc
  firstLayer : Nat
  layers : Nat
  output : Bool
  k0 : Nat
  eb : Nat
  decay : Nat
  embPtr : Nat
  firstSlot : Nat
  rsvd : Bool
  deriving DecidableEq, Repr

/-- Read a classifier descriptor. -/
def parseCls (d : SlotDesc) (b : Bytes) : ClsDesc :=
  { slot := d, firstLayer := fieldAt 0 2 b, layers := fieldAt 2 1 b, output := bitOf 0 (fieldAt 3 1 b),
    k0 := fieldAt 4 2 b, eb := fieldAt 6 1 b, decay := fieldAt 7 1 b, embPtr := fieldAt 8 4 b,
    firstSlot := fieldAt 0xC 2 b, rsvd := fieldAt 3 1 b / 2 != 0 || fieldAt 0xE 2 b != 0 }

/-- Classifier c of the quire. -/
def QModel.cls (q : QModel) (c : Nat) : Option ClsDesc :=
  (q.recAt 2 (·.aFirst) (·.recsA) c).map fun p => parseCls p.1 p.2

/-- A layer descriptor (Table 9.3) and the slot that holds it. -/
structure LayerDesc where
  slot : SlotDesc
  wPtr : Nat
  bPtr : Nat
  witPtr : Nat
  k : Nat
  n : Nat
  w1 : Nat
  rshift : Nat
  s : Nat
  m : Nat
  lo : Int
  hi : Int
  rsvd : Bool
  deriving DecidableEq, Repr

/-- Read a layer descriptor. -/
def parseLayer (d : SlotDesc) (b : Bytes) : LayerDesc :=
  { slot := d, wPtr := fieldAt 0 4 b, bPtr := fieldAt 4 4 b, witPtr := fieldAt 8 4 b, k := fieldAt 0xC 2 b,
    n := fieldAt 0xE 2 b, w1 := fieldAt 0x10 4 b, rshift := fieldAt 0x14 1 b, s := fieldAt 0x15 1 b,
    m := fieldAt 0x16 2 b, lo := sext 8 (fieldAt 0x18 1 b), hi := sext 8 (fieldAt 0x19 1 b),
    rsvd := fieldAt 0x1A 6 b != 0 }

/-- Layer l of the quire. -/
def QModel.layer (q : QModel) (l : Nat) : Option LayerDesc :=
  (q.recAt 2 (·.bFirst) (·.recsB) l).map fun p => parseLayer p.1 p.2

/-- The layers of a classifier in order. -/
def QModel.layersOf (q : QModel) (c : ClsDesc) : List LayerDesc :=
  (List.range c.layers).filterMap fun i => q.layer (c.firstLayer + i)

/-- The declared thresholds of a score slot (R236). -/
def QModel.thresholds (q : QModel) (slot : Nat) : List Int :=
  (q.used.filter fun p => p.1.cls == 2).flatMap fun p =>
    (p.2.body.recsD.filter fun r => fieldAt 0 2 r == slot).map fun r => sext 32 (fieldAt 4 4 r)

/-- The int8 values of a byte string. -/
def int8s (bs : Bytes) : List Int := bs.map fun b => sext 8 b.toNat

/-- The int32 values of a byte string, n of them. -/
def int32s : Nat → Bytes → List Int
  | 0, _ => []
  | n + 1, bs => sext 32 (unle (bs.take 4)) :: int32s n (bs.drop 4)

/-- Rounding shift right (R222). -/
def rsr (v : Int) (s : Nat) : Int := if s = 0 then v else (v + (2 ^ (s - 1) : Nat)) / (2 ^ s : Nat)

/-- The dot product of two vectors. -/
def dot : List Int → List Int → Int
  | x :: xs, y :: ys => x * y + dot xs ys
  | _, _ => 0

/-- A value wrapped to a signed width (R7). -/
def wrapInt (w : Nat) (x : Int) : Int := sext w (ofInt w x)

/-- One weight column of a layer, or the address of a refused read. -/
def QModel.column (q : QModel) (l : LayerDesc) (j : Nat) : MemRead := q.read l.slot (l.wPtr + j * l.k) l.k

/-- Bytes of a read that was not refused; a refused read gives none of them. -/
def MemRead.bytes : MemRead → Bytes
  | .ok bs => bs
  | .boundary _ => []

/-- The address of a refused read. -/
def MemRead.bad? : MemRead → Option Nat
  | .ok _ => none
  | .boundary a => some a

/-- Bias of column j. -/
def QModel.bias (q : QModel) (l : LayerDesc) (j : Nat) : Int := sext 32 (unle (q.read l.slot (l.bPtr + 4 * j) 4).bytes)

/-- Witness sum of column j. -/
def QModel.witSum (q : QModel) (l : LayerDesc) (j : Nat) : Int :=
  sext 32 (unle (q.read l.slot (l.witPtr + 4 * j) 4).bytes)

/-- acc_j of R222, in int32. -/
def QModel.acc (q : QModel) (l : LayerDesc) (x : List Int) (j : Nat) : Int :=
  wrapInt 32 (dot x (int8s (q.column l j).bytes) + q.bias l j)

/-- Requantisation of a hidden layer (R222), on a 48-bit product. -/
def requant (l : LayerDesc) (a : Int) : Int := clampInt l.lo l.hi (rsr (wrapInt 48 (a * l.m)) l.s)

/-- The exact scores of a classifier: its layers run over x (R222). -/
def QModel.exact (q : QModel) : List LayerDesc → List Int → List Int
  | [], x => x
  | [l], x => (List.range l.n).map (q.acc l x)
  | l :: ls, x => QModel.exact q ls ((List.range l.n).map fun j => requant l (q.acc l x j))

/-- A first refused read among those a classifier makes (R380). -/
def QModel.clsBoundary (q : QModel) (c : ClsDesc) : Option Nat :=
  (q.layersOf c).findSome? fun l =>
    (List.range l.n).findSome? fun j =>
      ((q.column l j).bad?.orElse fun _ => (q.read l.slot (l.bPtr + 4 * j) 4).bad?).orElse fun _ =>
        (q.read l.slot (l.witPtr + 4 * j) 4).bad?

/-- The embedding row of a token. -/
def QModel.emb (q : QModel) (c : ClsDesc) (tok : Nat) : List Int :=
  int8s (q.read c.slot (c.embPtr + tok % 2 ^ c.eb * c.k0) c.k0).bytes

/-- One token folded into a running activation (R223); an activation that is still all 0 may be listed short. -/
def foldToken (c : ClsDesc) : List Int → List Int → List Int
  | _, [] => []
  | [], e :: es => clampInt (-128) 127 (rsr (e * (256 - c.decay)) 8) :: foldToken c [] es
  | r :: rs, e :: es => clampInt (-128) 127 (rsr (r * c.decay + e * (256 - c.decay)) 8) :: foldToken c rs es

/-- Fold tokens in position order (R223). -/
def QModel.fold (q : QModel) (c : ClsDesc) (r : List Int) (toks : List Nat) : List Int :=
  toks.foldl (fun r t => foldToken c r (q.emb c t)) r

/-! ### The tile pass (R227, R233 to R236) -/

/-- The calibration of one row: gain Q2.14, offset and EPS16 in 1/16 LSB (R227, Table 9.4). -/
structure RowCal where
  gain : Nat
  offset : Int
  eps16 : Nat
  deriving DecidableEq, Repr

/-- The estimate of R227 without the bias. -/
def estimate (cal : RowCal) (l : LayerDesc) (code : Nat) : Int :=
  rsr ((rsr (code * cal.gain : Nat) 10 - cal.offset - 8192) * (2 ^ (l.rshift - 9) : Nat)) 4

/-- A saturated ADC code (R227). -/
def saturated (code : Nat) : Bool := code == 0 || code == 1023

/-- E_l of R233. -/
def convError (cal : RowCal) (l : LayerDesc) : Nat := ceilDiv ((cal.eps16 + 16) * 2 ^ (l.rshift - 9)) 16

/-- T_l of R233. -/
def totalError (cal : RowCal) (l : LayerDesc) (aPrev : Nat) : Nat := convError cal l + l.w1 * aPrev

/-- A_l of a hidden layer (R233). -/
def hiddenError (cal : RowCal) (l : LayerDesc) (aPrev : Nat) (sat : Bool) : Nat :=
  let full := (l.hi - l.lo).toNat
  if sat then full else min full (ceilDiv (totalError cal l aPrev * l.m) (2 ^ l.s) + 1)

/-- The estimates and bounds of one row through the layers of a classifier. `codes` are the row's ADC codes, layer
by layer, column by column; the result is (s_a, B) per score, B absent when unbounded. -/
def QModel.rowScores (q : QModel) (cal : RowCal) : List LayerDesc → List (List Nat) → Nat → List (Int × Option Nat)
  | [], _, _ => []
  | [l], codes, a =>
    (List.range l.n).map fun j =>
      let c := (codes.headD [])[j]?.getD 0
      (estimate cal l c + q.bias l j, if saturated c then none else some (totalError cal l a))
  | l :: ls, codes, a =>
    QModel.rowScores q cal ls codes.tail (hiddenError cal l a ((codes.headD []).any saturated))

/-- The vector last written to a row: x of the last layer's input under the estimates (R226). -/
def QModel.rowVector (q : QModel) (cal : RowCal) : List LayerDesc → List (List Nat) → List Int → List Int
  | [], _, x => x
  | [_], _, x => x
  | l :: ls, codes, _ =>
    QModel.rowVector q cal ls codes.tail ((List.range l.n).map fun j =>
      requant l (estimate cal l ((codes.headD [])[j]?.getD 0) + q.bias l j))

/-- The witness row fails on some column (R234): `codes` are its ADC codes. -/
def QModel.witnessFails (q : QModel) (cal : RowCal) : List LayerDesc → List (List Nat) → Bool
  | [], _ => false
  | l :: ls, codes =>
    (List.range l.n).any (fun j =>
      convError cal l < (estimate cal l ((codes.headD [])[j]?.getD 0) - q.witSum l j).natAbs) ||
      QModel.witnessFails q cal ls codes.tail

/-- R236: the score clears every declared threshold of its slot by more than its bound. A slot with no declared
threshold is certified whatever its estimate. -/
def certified (ths : List Int) (sa : Int) (b : Option Nat) : Bool :=
  match ths, b with
  | [], _ => true
  | _, none => false
  | ths, some b => ths.all fun th => b < (sa - th).natAbs

end Sys2Proof.Machine
end

