-- ==== Sys2Proof/Machine/Pvc.lean ====
section
/-!
DEFINITION. The Prefix Verdict Cache: its entries and epochs as data, and the pure operations of chapter 5
(R115 to R136).
-/
namespace Sys2Proof.Machine

/-- The running screening state of a folio that its blocks compute (R148, R223): feature counters by number, and
per classifier the running activation and how many positions of the stream it has received. -/
structure Running where
  counters : Sparse Nat
  acts : Sparse (List Int)
  folded : Sparse Nat
  deriving DecidableEq, Repr

/-- The running state at REQ_OPEN: counters 0, activations 0 (R148, R223). -/
def Running.zero : Running := { counters := [], acts := [], folded := [] }

/-- An entry of the cache (Table 5.2), with what stands at STATE_PTR and TOKENS_PTR in the near tier. -/
structure PvcEnt where
  tag : Bytes
  gather : Nat
  tenant : Nat
  epoch : Nat
  valid : Bool
  blocked : Bool
  tokensStored : Bool
  blockNo : Nat
  modelSet : Nat
  statePtr : Nat
  tokensPtr : Nat
  prevHash : Bytes
  hits : Nat
  lastUse : Nat
  tFill : Nat
  snap : Running
  tokens : Bytes
  deriving DecidableEq, Repr

/-- An entry that nothing has filled. -/
def PvcEnt.blank : PvcEnt :=
  { tag := zeros 16, gather := 0, tenant := 0, epoch := 0, valid := false, blocked := false, tokensStored := false,
    blockNo := 0, modelSet := 0, statePtr := 0, tokensPtr := 0, prevHash := zeros 32, hits := 0, lastUse := 0,
    tFill := 0, snap := .zero, tokens := [] }

/-- The cache. Entry w of set i has the key 8 × i + w. `epochPend` are the invalidations by tick that epochs do
not show yet: they take effect at the end of their tick (R133); none as tenant means every tenant. `pins` are
the entries being copied from, with the item that copies (R125). `sweep` is the running sweep's tenant. -/
structure Pvc where
  ents : Sparse PvcEnt
  epochs : Sparse Nat
  epochPend : List (Nat × Option Nat)
  pins : List (Nat × Nat)
  sweep : Option (Option Nat)
  deriving DecidableEq, Repr

/-- The cache after a cold or warm reset: empty, epochs 0 (R135). -/
def Pvc.empty : Pvc := { ents := [], epochs := [], epochPend := [], pins := [], sweep := none }

/-- The entry with this key. -/
def Pvc.ent (p : Pvc) (k : Nat) : PvcEnt := Sparse.get (fun _ => .blank) p.ents k

/-- Replace an entry. -/
def Pvc.setEnt (p : Pvc) (k : Nat) (e : PvcEnt) : Pvc := { p with ents := Sparse.set (fun _ => .blank) p.ents k e }

/-- The epoch of a tenant as it stands in a tick: invalidations of earlier ticks count (R133). -/
def Pvc.epochAt (p : Pvc) (tick tenant : Nat) : Nat :=
  (Sparse.get (fun _ => 0) p.epochs tenant +
    (p.epochPend.filter fun e => e.1 < tick && (e.2 == none || e.2 == some tenant)).length) % 256

/-- The 256-byte block string of R115. -/
def blockString (tokens : List Nat) : Bytes := tokens.flatMap fun t => le 4 (t % 2 ^ 20)

/-- H_k = SHA-256(H_{k−1} ‖ tokens) (R115; for a short block the CHAIN of Table 13.5). -/
def chainHash (prev : Bytes) (tokens : List Nat) : Bytes := sha256 (prev ++ blockString tokens)

/-- The key K of R117. -/
def pvcKey (tenant epoch gather modelSet k : Nat) (h : Bytes) : Bytes :=
  sha256 (le 2 tenant ++ le 1 epoch ++ le 4 gather ++ le 4 modelSet ++ le 4 k ++ h)

/-- The set index of a key (R118). -/
def pvcSet (key : Bytes) : Nat := fieldAt 0 3 key % 2 ^ 17

/-- The tag of a key (R118). -/
def pvcTag (key : Bytes) : Bytes := slice 16 16 key

/-- The usable entries for a region of R bytes and snapshots of S bytes (R129). -/
def pvcCap (r s : Nat) : Nat := min 1048576 (8 * (r / (s + 256) / 8))

/-- A probe: what an entry must equal to hit (R118). -/
structure PvcProbe where
  tag : Bytes
  gather : Nat
  tenant : Nat
  epoch : Nat
  modelSet : Nat
  blockNo : Nat
  deriving DecidableEq, Repr

/-- The entry hits the probe in this tick: valid since before the tick (R118, R121). -/
def PvcEnt.hits? (e : PvcEnt) (q : PvcProbe) (tick : Nat) : Bool :=
  e.valid && e.tFill < tick && e.tag == q.tag && e.gather == q.gather && e.tenant == q.tenant &&
    e.epoch == q.epoch && e.modelSet == q.modelSet && e.blockNo == q.blockNo

/-- The keys of the eight ways of a set. -/
def waysOf (set : Nat) : List Nat := (List.range 8).map (8 * set + ·)

/-- The way that hits a probe, the first by way number. -/
def Pvc.probe (p : Pvc) (set : Nat) (q : PvcProbe) (tick : Nat) : Option Nat :=
  (waysOf set).find? fun k => (p.ent k).hits? q tick

/-- R120: the entry is dead under this gathering and its tenant's epoch. -/
def Pvc.dead (p : Pvc) (gather tick : Nat) (e : PvcEnt) : Bool :=
  e.gather != gather || e.epoch != p.epochAt tick e.tenant

/-- The way a fill takes (R128): the first invalid or dead way, else the unpinned way of oldest LAST_USE (lower
way on a tie); none when all ways are pinned. -/
def Pvc.victim (p : Pvc) (set gather tick : Nat) : Option Nat :=
  let ways := waysOf set
  let unpinned := ways.filter fun k => !(p.pins.any fun q => q.1 == k)
  match unpinned.find? fun k => !(p.ent k).valid || p.dead gather tick (p.ent k) with
  | some k => some k
  | none => minBy (fun a b => (p.ent a).lastUse < (p.ent b).lastUse) unpinned

/-- LAST_USE of a tick: timebase bits [41:10] (Table 5.2). -/
def lastUseOf (tick : Nat) : Nat := bitsOf 41 10 tick

/-- Invalidate an entry. -/
def Pvc.invalidate (p : Pvc) (k : Nat) : Pvc := p.setEnt k { p.ent k with valid := false }

/-- The sweep of R133 over every entry: VALID clears where the entry's tenant is affected and its epoch is not the
tenant's epoch. -/
def Pvc.sweepAll (p : Pvc) (tick : Nat) (tenant : Option Nat) : Pvc :=
  (p.ents.map (·.1)).foldl (fun q k =>
    let e := q.ent k
    if (tenant == none || tenant == some e.tenant) && e.epoch != q.epochAt tick e.tenant then q.invalidate k else q) p

end Sys2Proof.Machine
end

