-- ==== Sys2Proof/Machine/Fp32.lean ====
section
/-!
DEFINITION. IEEE 754 binary32 as chapter 10 uses it (R251): values are 32-bit patterns, every step is rounded
once to nearest, ties to even, subnormals kept. A finite value is an integer multiple of 2^−149.
-/
namespace Sys2Proof.Machine

/-- A bf16 widened to binary32 by appending 16 zero bits (R251). -/
def bf16Widen (v : Nat) : Nat := v % 2 ^ 16 * 2 ^ 16

def f32Neg (b : Nat) : Bool := bitOf 31 b
def f32Exp (b : Nat) : Nat := bitsOf 30 23 b
def f32Frac (b : Nat) : Nat := bitsOf 22 0 b
/-- ±∞. -/
def f32IsInf (b : Nat) : Bool := f32Exp b == 255 && f32Frac b == 0
/-- A NaN. -/
def f32IsNaN (b : Nat) : Bool := f32Exp b == 255 && f32Frac b != 0
/-- +∞ and −∞. -/
def f32PInf : Nat := 0x7F800000
def f32NInf : Nat := 0xFF800000

/-- A finite value in units of 2^−149. -/
def f32Int (b : Nat) : Int :=
  let m := if f32Exp b = 0 then f32Frac b else (f32Frac b + 2 ^ 23) * 2 ^ (f32Exp b - 1)
  if f32Neg b then -(m : Int) else m

/-- n / 2^s rounded to the nearest integer, ties to even. -/
def roundShift (n s : Nat) : Nat :=
  let q := n / 2 ^ s
  let r := n % 2 ^ s
  if 2 * r < 2 ^ s then q else if 2 ^ s < 2 * r then q + 1 else if q % 2 = 0 then q else q + 1

/-- The pattern of a sign and magnitude: n × 2^−k with 149 ≤ k, rounded once. -/
def f32Round (neg : Bool) (n k : Nat) : Nat :=
  let len := if n = 0 then 0 else Nat.log2 n + 1
  let shift := max (len - 24) (k - 149)
  let q := roundShift n shift
  let sg := b2n neg * 2 ^ 31
  if q < 2 ^ 23 then sg + q
  else
    let ex := shift + 150 - k
    let (q, ex) := if q = 2 ^ 24 then (2 ^ 23, ex + 1) else (q, ex)
    if 255 ≤ ex then sg + f32PInf else sg + ex * 2 ^ 23 + (q - 2 ^ 23)

/-- The pattern of an integer multiple of 2^−k, 149 ≤ k; an exact zero is +0. -/
def f32OfInt (x : Int) (k : Nat) : Nat := f32Round (x < 0) x.natAbs k

/-- The integer c as binary32. -/
def f32OfNat (c : Nat) : Nat := f32Round false (c * 2 ^ 149) 149

/-- One subtraction. The operands here are never NaN, and never equal infinities. -/
def f32Sub (a b : Nat) : Nat :=
  if f32IsInf a then a
  else if f32IsInf b then (if f32Neg b then f32PInf else f32NInf)
  else f32OfInt (f32Int a - f32Int b) 149

/-- One multiplication. The operands here are never NaN, and never 0 × ∞. -/
def f32Mul (a b : Nat) : Nat :=
  let neg := f32Neg a != f32Neg b
  if f32IsInf a || f32IsInf b then (if neg then f32NInf else f32PInf)
  else f32Round neg ((f32Int a).natAbs * (f32Int b).natAbs) 298

/-- An integer that orders finite and infinite values as they compare; −0 and +0 are equal. -/
def f32Key (b : Nat) : Int :=
  if f32IsInf b then (if f32Neg b then -(2 ^ 400) else 2 ^ 400) else f32Int b

end Sys2Proof.Machine
end

