-- ==== Sys2Proof/Machine/Select.lean ====
section
/-!
DEFINITION. The choice of an output token (chapter 10): penalties, scale, trim, weights and the Philox draw, bit for
bit (R250 to R262).
-/
namespace Sys2Proof.Machine

/-- A candidate (Table 10.3): token ID, END, and the bf16 logit. -/
structure Cand where
  token : Nat
  isEnd : Bool
  logit : Nat
  deriving DecidableEq, Repr

/-- The selection parameters (Table 10.4), as patterns. -/
structure SelParams where
  scale : Nat
  pres : Nat
  freq : Nat
  topK : Nat
  countPrompt : Bool
  deriving DecidableEq, Repr

/-- Read the parameter block of a folio; a −0 is taken as 0 (R250). -/
def parseSel (bs : Bytes) : SelParams :=
  let nz (v : Nat) : Nat := if v = 2 ^ 31 then 0 else v
  { scale := nz (fieldAt 0 4 bs), pres := nz (bf16Widen (fieldAt 4 2 bs)), freq := nz (bf16Widen (fieldAt 6 2 bs)),
    topK := fieldAt 8 1 bs, countPrompt := bitOf 0 (fieldAt 9 1 bs) }

/-- A penalty or scale that R250 refuses: negative, a NaN or infinite; −0 is taken as 0. -/
def badParam (v : Nat) : Bool := (f32Neg v && v != 2 ^ 31) || f32Exp v == 255

/-- The refusals of R250. -/
def selRefused (bs : Bytes) : Bool :=
  badParam (fieldAt 0 4 bs) || badParam (bf16Widen (fieldAt 4 2 bs)) || badParam (bf16Widen (fieldAt 6 2 bs)) ||
    64 < fieldAt 8 1 bs || fieldAt 9 1 bs / 2 != 0 || fieldAt 0xA 6 bs != 0

/-- The penalised logit l' of R255. -/
def penalise (p : SelParams) (logit c : Nat) : Nat :=
  let l1 := f32Sub (bf16Widen logit) (f32Mul p.freq (f32OfNat c))
  if 0 < c then f32Sub l1 p.pres else l1

/-- EXP2[k] = round(2^31 × 2^(k/1024)), the nearest integer (R259), found by bisection on
(2e − 1)^1024 ≤ 2^(32 × 1024 + k), which says e − 1/2 ≤ 2^(31 + k/1024). -/
def exp2Search (k : Nat) : Nat → Nat → Nat → Nat
  | 0, lo, _ => lo
  | n + 1, lo, hi =>
    let mid := (lo + hi + 1) / 2
    if (2 * mid - 1) ^ 1024 ≤ 2 ^ (32 * 1024 + k) then exp2Search k n mid hi else exp2Search k n lo (mid - 1)

/-- The table of R259. -/
def exp2 (k : Nat) : Nat := exp2Search k 34 (2 ^ 31) (2 ^ 32)

/-- The weight of a kept candidate with d = z − m (R259). -/
def weightOf (d : Nat) : Nat :=
  if f32Key d < -(32 * 2 ^ 149) then 0
  else
    let x := f32Int d * 65536
    let q : Int := if x < 0 then -((roundShift x.natAbs 149 : Nat) : Int) else (roundShift x.natAbs 149 : Nat)
    let n := q / 65536
    let k := (q % 65536).toNat / 64
    exp2 k / 2 ^ (-n).toNat

/-- One round of Philox4x32: (counter, key) to the next counter. -/
def philoxRound (c : Nat × Nat × Nat × Nat) (k0 k1 : Nat) : Nat × Nat × Nat × Nat :=
  let (c0, c1, c2, c3) := c
  let p0 := 0xD2511F53 * c0
  let p1 := 0xCD9E8D57 * c2
  (Nat.xor (Nat.xor (p1 / 2 ^ 32) c1) k0, p1 % 2 ^ 32, Nat.xor (Nat.xor (p0 / 2 ^ 32) c3) k1, p0 % 2 ^ 32)

/-- Philox4x32 rounds, the key bumped by the Weyl constants between them. -/
def philox : Nat → Nat × Nat × Nat × Nat → Nat → Nat → Nat × Nat × Nat × Nat
  | 0, c, _, _ => c
  | n + 1, c, k0, k1 =>
    philox n (philoxRound c k0 k1) ((k0 + 0x9E3779B9) % 2 ^ 32) ((k1 + 0xBB67AE85) % 2 ^ 32)

/-- r of R260 for a seed and a position. -/
def drawR (seed p : Nat) : Nat :=
  let (x0, x1, _, _) := philox 10 (p % 2 ^ 32, 0, 0, 0x54535530) (seed % 2 ^ 32) (seed / 2 ^ 32 % 2 ^ 32)
  x1 * 2 ^ 32 + x0

/-- What selection gives for an item (R257 to R262, R264). -/
inductive Choice where
  | allMasked
  | chosen (idx : Nat) (r w : Nat)
  deriving DecidableEq, Repr

/-- The first candidate whose cumulative weight exceeds h (R261). -/
def pickCum (h : Nat) : List (Nat × Nat) → Nat → Option Nat
  | [], _ => none
  | (i, w) :: rest, acc => if h < acc + w then some i else pickCum h rest (acc + w)

/-- The choice among the unmasked candidates, given as (index, l') in index order. -/
def chooseFrom (p : SelParams) (seed pos : Nat) (ls : List (Nat × Nat)) : Choice :=
  if p.scale = 0 then
    match minBy (fun a b => f32Key b.2 < f32Key a.2) ls with
    | some (i, l) => if l = f32NInf then .allMasked else .chosen i 0 0
    | none => .allMasked
  else
    let zs := ls.map fun (i, l) => (i, f32Mul l p.scale)
    let ranked := sortBy (fun a b => f32Key b.2 < f32Key a.2) zs
    let kept := if p.topK = 0 || zs.length ≤ p.topK then zs
      else zs.filter fun x => (ranked.take p.topK).any fun y => y.1 == x.1
    match minBy (fun a b => f32Key b.2 < f32Key a.2) kept with
    | none => .allMasked
    | some (_, m) =>
      if m = f32NInf then .allMasked
      else
        let ws := kept.map fun (i, z) =>
          (i, if m = f32PInf then (if z = f32PInf then 2 ^ 31 else 0) else weightOf (f32Sub z m))
        let w := sumOf (·.2) ws
        let r := drawR seed pos
        match pickCum (r * w / 2 ^ 64) ws 0 with
        | some i => .chosen i r w
        | none => .allMasked

end Sys2Proof.Machine
end

