-- ==== Sys2Proof/Machine/Work.lean ====
section
/-!
DEFINITION. The items of work and the engines that hold them, as data: an item from its ingress slot to its release,
the samples of the Tree Walk Engines, the rows of the tiles, the Exact Lane's queue (chapters 2, 4, 8, 9, 10).
-/
namespace Sys2Proof.Machine

/-- What an item is: block k of a prompt, the end item of R40, or a candidate list. -/
inductive ItemKind where
  | block (k : Nat)
  | endItem
  | cand
  deriving DecidableEq, Repr

/-- The resources of R45. -/
inductive Res where
  | twe | amt | ama | xl | tsu
  deriving DecidableEq, Repr

/-- A classifier's run for one item: waiting for a row, on a tile, certified (`scores` are the estimates), sent to the
Exact Lane, or recomputed (`scores` are exact). -/
inductive ClsStatus where
  | waiting | onTile | certified | toXl | recomputed
  deriving DecidableEq, Repr

/-- One classifier run of an item: its number, its input x, where it stands, its scores from its first slot on, and
the estimates with their bounds for the check of R242. -/
structure ClsRun where
  num : Nat
  x : List Int
  status : ClsStatus
  scores : List Int
  est : List (Int × Option Nat)
  deriving DecidableEq, Repr

/-- The accumulator of one ensemble for one item (R208, R216): the running sum and residue, the next tree to add, the
leaves that wait, and the decision once the last tree is added. -/
structure Acc where
  ens : Nat
  sum : Int
  residue : Nat
  next : Nat
  waiting : List (Nat × Nat)
  decided : Option Bool
  deriving DecidableEq, Repr

/-- How an item's verdict or token came out. `pass`/`block` for a block; the choice for a candidate list. -/
inductive Outcome1 where
  | pass | block
  | token (c : Choice)
  deriving DecidableEq, Repr

/-- Where an item stands: filling its slot, queued, admitted, held by a fault (R387), past the gate. -/
inductive Phase where
  | filling | queued | admitted | held
  deriving DecidableEq, Repr

/-- The source of a block's verdict (SOURCE of Table 13.5). -/
inductive Source where
  | computed | hit | verified
  deriving DecidableEq, Repr

/-- One item (chapters 2, 4 to 10). Times are timebase values in ns. -/
structure Item where
  /-- Serial number of the item, in the order in which items take slots. -/
  id : Nat
  folio : Nat
  gen : Nat
  tenant : Nat
  chan : Chan
  kind : ItemKind
  phase : Phase
  /-- It holds an ingress slot (R96). -/
  slot : Bool
  /-- Tokens of a block, in position order. -/
  tokens : List Nat
  /-- Candidates of a list, and its body as received. -/
  cands : List Cand
  body : Bytes
  tArr : Nat
  bypass : Nat
  /-- Put back under R398. -/
  retried : Bool
  -- fixed at commit
  admNo : Nat
  tAdm : Nat
  tRel : Nat
  gather : Nat
  quire : Nat
  profile : Nat
  openPosture : Bool
  /-- Booked costs still in the backlogs. -/
  costs : List (Res × Nat)
  -- prefix cache
  prevHash : Bytes
  hash : Bytes
  probe : Option PvcProbe
  hitEnt : Option Nat
  source : Source
  copying : Bool
  -- work
  fetched : Bool
  work : Running
  cls : List ClsRun
  srchPos : Nat
  srchTab : Nat
  srchDone : Bool
  incomplete : Bool
  verFirst : Option Nat
  verLast : Nat
  casc : Option SearchRes
  /-- Masks of a candidate list: candidate index and rule number. -/
  masks : List (Nat × Nat)
  fv : Option (Sparse (Option Int))
  accs : List Acc
  ensLeft : Bool
  countFull : Bool
  /-- Result once it is computed, the blocker and the number of blocking ensembles (Table 13.5). -/
  result : Option Outcome1
  blocker : Nat
  blockers : Nat
  doneAt : Option Nat
  snap : Option Running
  /-- T_rel has passed and the item is late under MARKED_OPEN (R54, R56). -/
  late : Bool
  deriving DecidableEq, Repr

/-- A sample: one tree of one ensemble of one item, on one engine (R202, R212). -/
structure Sample where
  item : Nat
  quire : Nat
  twe : Nat
  ens : Nat
  tree : Nat
  started : Bool
  node : Nat
  level : Nat
  deriving DecidableEq, Repr

/-- A data row of a tile: the item, the classifier, x, and when it was loaded (R225). -/
structure TRow where
  item : Nat
  cls : Nat
  x : List Int
  at_ : Nat
  deriving DecidableEq, Repr

/-- An analogue tile (R225 to R235): rows and pass, calibration, and what QUIRE_n_AMT_t_STATE shows. -/
structure Tile where
  rows : List TRow
  chan : Chan
  running : Bool
  passStale : Bool
  cal : List RowCal
  eps16 : Nat
  tCal : Nat
  temp : Nat
  valid : Bool
  disabled : Bool
  calibrating : Bool
  stale : Bool
  calAt : Nat
  dueAt : Option Nat
  calStart : Nat
  failRun : Nat
  firstPass : Bool
  deriving DecidableEq, Repr

/-- A tile after reset: no calibration. -/
def Tile.blank : Tile :=
  { rows := [], chan := .inp, running := false, passStale := false, cal := [], eps16 := 0, tCal := 0, temp := 0,
    valid := false, disabled := false, calibrating := false, stale := false, calAt := 0, dueAt := none, calStart := 0,
    failRun := 0, firstPass := false }

/-- A fairness tag set of one tenant in one channel (R105). -/
structure Tag where
  s : Nat
  fLast : Nat
  active : Bool
  deriving DecidableEq, Repr

/-- No tag. -/
def Tag.zero : Tag := { s := 0, fLast := 0, active := false }

end Sys2Proof.Machine
end

