-- ==== Sys2Proof/Machine/Blocks.lean ====
section
/-!
DEFINITION. The blocks of the shell as data: binding and model residency (chapter 14), the non-volatile store and the
loader (chapter 16), power and security (chapter 17), the host interface (chapter 18) and the pins (chapter 19).
-/
namespace Sys2Proof.Machine

/-! ### Binding and model residency (chapter 14) -/

/-- A binding held in a stage buffer, or one that LOAD has written, with its model set. -/
structure Loaded where
  binding : Binding
  /-- The model set: slot 16 × q + s names this variant when in use. -/
  mset : Sparse (Option Nat)
  msetDigest : Bytes
  models : List QModel
  /-- The loaded binding is the staged one (else the one in force). -/
  fromStage : Bool
  deriving DecidableEq, Repr

/-- A command of SHL_BIND_CMD that runs. -/
inductive BindOp where
  | stage (win src : Nat)
  | load (mset : Sparse (Option Nat)) (fromStage : Bool)
  | catAdd (variant win src len dest : Nat)
  deriving DecidableEq, Repr

/-- What a read of host memory brings: the bytes, or an error completion or poisoned data (R465). -/
inductive DmaIn where
  | ok (data : Bytes)
  | error
  deriving DecidableEq, Repr

/-- Binding and model residency. -/
structure Bnd where
  /-- The binding in force, the model set in force (16 × q + s), its digest and ID, and what each quire computes with. -/
  cur : Option Binding
  mset : Sparse (Option Nat)
  msetDigest : Bytes
  msetId : Nat
  models : List QModel
  /-- The binding in the free stage buffer that passed its staging check. -/
  staged : Option Binding
  /-- What a LOAD that ended with 0x00 OK wrote in the present open window (LOADED). -/
  loaded : Option Loaded
  /-- STALE, and that a LOAD of this window failed with none succeeding after it (R375). -/
  stale : Bool
  loadFailed : Bool
  /-- Variants named by a model set that a LOAD of this window loaded (R370). -/
  loadedVars : List Nat
  /-- Quires whose model memory or banks a LOAD of this window has written (R378, R379). -/
  dirty : List Nat
  /-- Quires still to be restored, while RESTORING is 1 (R378). -/
  restoring : List Nat
  op : Option BindOp
  /-- The catalogue by variant number (R369). -/
  cat : Sparse (Option Variant)
  /-- Words of model memory, by quire and address, with an uncorrectable error under repair (R394). -/
  badWords : List (Nat × Nat)
  /-- Quires that take no work: RESTORE_NEEDED of R379. -/
  quireOut : List Nat
  /-- Quires in a quire reset, with the time at which it ends (R434). -/
  resetting : List (Nat × Nat)
  /-- SHL_BIND_FAULT_ADDR (R369). -/
  faultAddr : Nat
  deriving DecidableEq, Repr

/-- No binding. -/
def Bnd.cold : Bnd :=
  { cur := none, mset := [], msetDigest := zeros 48, msetId := 0, models := [], staged := none, loaded := none, stale := false,
    loadFailed := false, loadedVars := [], faultAddr := 0, dirty := [], restoring := [], op := none, cat := [], badWords := [], quireOut := [], resetting := [] }

/-! ### The non-volatile store and the loader (chapter 16) -/

/-- A command of NVM_CMD that runs, as its registers stood when it was taken. -/
structure NvmOp where
  op : Nat
  addr : Nat
  len : Nat
  win : Nat
  host : Nat
  deriving DecidableEq, Repr

/-- The non-volatile store: programmed pages of 256 bytes by page number (an unlisted page is blank), erases of the
physical block mapped at each logical block, spares left with their counts, retired blocks, read-only (R404 to R409). -/
structure Nvm where
  pages : Sparse Bytes
  erases : Sparse Nat
  spares : Nat
  retired : Nat
  readOnly : Bool
  op : Option NvmOp
  deriving DecidableEq, Repr

/-- A blank page. -/
def blankPage (_ : Nat) : Bytes := List.replicate 256 0xFF

/-- The store of a new part: 32 spares, nothing programmed. -/
def Nvm.new : Nvm := { pages := [], erases := [], spares := 32, retired := 0, readOnly := false, op := none }

/-- A copy of the update journal (R415): sequence number, phase, digest of the manifest up to the end of its signature,
cursor. -/
structure EpdJournal where
  seq : Nat
  phase : Nat
  digest : Bytes
  cursor : Nat
  deriving DecidableEq, Repr

/-- A settings record (R428). -/
structure SetRec where
  key : Nat
  format : Nat
  seq : Nat
  len : Nat
  data : Bytes
  deriving DecidableEq, Repr

/-- What the device knows of a firmware image whose code a bank holds (Table 16.3). -/
structure FwImage where
  version : Nat
  secVersion : Nat
  bindingAbi : Nat
  settingsFormat : Nat
  steppings : Nat
  bundleTag : Nat
  qsvTag : Nat
  digest : Bytes
  deriving DecidableEq, Repr

/-- No image. -/
def FwImage.none : FwImage :=
  { version := 0, secVersion := 0, bindingAbi := 0, settingsFormat := 0, steppings := 0, bundleTag := 0, qsvTag := 0, digest := zeros 48 }

/-- A command of EPD_CMD that runs. -/
inductive EpdOp where
  | write (win src : Nat) (chunk0 : Bytes)
  deriving DecidableEq, Repr

/-- Endpaper and the loader beside their registers. Journal copies: the newer first. `conf` and `confFormat` are the
confirmed version and settings format, `fuses` the fuse counter, `fuseRetry` a value still to be blown (R416, R417). -/
structure Epd where
  journal : EpdJournal
  older : EpdJournal
  conf : Nat
  confFormat : Nat
  fuses : Nat
  terminal : Bool
  fuseRetry : Option Nat
  settings : List SetRec
  setSeq : Nat
  /-- The images in code banks 0 and 1. -/
  bank0 : FwImage
  bank1 : FwImage
  op : Option EpdOp
  /-- A handover under way, since when (Table 16.4). -/
  handover : Option Nat
  /-- A seal that waits for the handover's end: by DKL_OPEN_LIMIT or written (R419). -/
  sealWait : Option Bool
  deriving DecidableEq, Repr

/-- A loader with no image and no journal. -/
def Epd.new : Epd :=
  let j : EpdJournal := { seq := 0, phase := 0, digest := zeros 48, cursor := 0 }
  { journal := j, older := j, conf := 0, confFormat := 0, fuses := 0, terminal := false, fuseRetry := none, settings := [],
    setSeq := 0, bank0 := .none, bank1 := .none, op := none, handover := none, sealWait := none }

/-! ### Power and security (chapter 17) -/

/-- Power states beside PWR_STATE: where a request leads, and a thermal stop that begins (its domains go off when the
last admitted item has passed). -/
structure Pwr where
  /-- First tick in which admission is stopped: by a request to leave PS0 (R440), by a thermal stop (R445). -/
  stopFrom : Option Nat
  thermFrom : Option Nat
  /-- Since when every sensor reads at or below RESUME (R445). -/
  coolFrom : Option Nat
  /-- The near-tier stacks read at start-up: 1 for 24 GiB, 2 for 48 GiB, 0 before (SHL_CONFIG, R18). -/
  stack0 : Nat
  stack1 : Nat
  target : Nat
  /-- The exit from PS3 runs: what was off is written again before PS0 (R443). -/
  waking : Bool
  deriving DecidableEq, Repr

/-- PS0. -/
def Pwr.cold : Pwr := { stopFrom := none, thermFrom := none, coolFrom := none, stack0 := 0, stack1 := 0, target := 0, waking := false }

/-- The tamper block and the key store beside their registers: a tamper event in operation and the tick from which its
lockdown begins (R448), the volatile key store, a new key of re-provisioning with its public key and KEY_EPOCH, and
SEC_TAMPER_TICK (R446). -/
structure Sec where
  tamper : Bool
  lockAt : Nat
  key : Option Nat
  newKey : Option (Nat × Bytes × Nat)
  tick : Nat
  deriving DecidableEq, Repr

/-- No tamper event, no key. -/
def Sec.cold : Sec := { tamper := false, lockAt := 0, key := none, newKey := none, tick := 0 }

/-! ### The host interface (chapter 18) -/

/-- An MSI-X table entry: address, data, mask bit, and its pending bit. -/
structure MsixEnt where
  addr : Nat
  data : Nat
  masked : Bool
  pending : Bool
  deriving DecidableEq, Repr

/-- An entry after reset: masked, as PCI Express gives it. -/
def MsixEnt.reset : MsixEnt := { addr := 0, data := 0, masked := true, pending := false }

/-- An MSI-X message sent: when, function, vector, address, data. -/
structure MsiMsg where
  tick : Nat
  func : Nat
  vec : Nat
  addr : Nat
  data : Nat
  deriving DecidableEq, Repr

/-- An in-band interrupt of the I3C target. -/
structure Ibi where
  tick : Nat
  cause : Nat
  value : Nat
  deriving DecidableEq, Repr

/-- A queue pair beside its registers: heads and tails, phase, the cancel that runs, completions that wait for room. -/
structure Qp where
  sqHead : Nat
  sqTail : Nat
  cqHead : Nat
  cqTail : Nat
  phase : Bool
  running : Option Nat
  posts : List Bytes
  deriving DecidableEq, Repr

/-- A queue pair that is just enabled (R466). -/
def Qp.zero : Qp := { sqHead := 0, sqTail := 0, cqHead := 0, cqTail := 0, phase := true, running := none, posts := [] }

/-- The host interface beside its registers. MSI-X entries, moderation intervals and held causes are by
1024 × function + vector; `modHeld` pairs a vector with the MOD_US that its next interval takes. -/
structure Hif where
  msix : Sparse MsixEnt
  modUntil : Sparse Nat
  modHeld : List (Nat × Nat)
  sent : List MsiMsg
  qps : Sparse Qp
  /-- Functions in D3hot. -/
  d3 : List Nat
  i3cIndex : Nat
  i3cLatch : Nat
  ibiPend : List (Nat × Nat)
  ibis : List Ibi
  /-- Bits [63:32] of the recorded fault address, which a read of HIF_DMA_FAULT_ADDR_LO latches (R464). -/
  faultHi : Nat
  deriving DecidableEq, Repr

/-- The host interface after a cold reset. -/
def Hif.cold : Hif :=
  { msix := [], modUntil := [], modHeld := [], sent := [], qps := [], d3 := [], i3cIndex := 0, i3cLatch := 0, ibiPend := [],
    ibis := [], faultHi := 0 }

/-! ### Pins (chapter 19) -/

/-- The instructions of the boundary scan TAP (R498). -/
inductive JtagInstr where
  | extest | sample | bypass
  deriving DecidableEq, Repr

/-- The control pins: power, RESET_N and PERST_N held low, the VID code, THERM_TRIP_N driven low, and the TAP with the
13 boundary cells as last captured and as last shifted in. -/
structure Pins where
  powered : Bool
  resetLow : Bool
  perstLow : Bool
  vid : Nat
  tripLow : Bool
  jtag : JtagInstr
  captured : List Bool
  shifted : List Bool
  deriving DecidableEq, Repr

/-- The pins right after a cold reset with power applied: RESET_N low, VID at 30 (R487). -/
def Pins.cold : Pins :=
  { powered := true, resetLow := true, perstLow := true, vid := 30, tripLow := false, jtag := .bypass,
    captured := List.replicate 13 false, shifted := List.replicate 13 false }

end Sys2Proof.Machine
end

