-- ==== Sys2Proof/Machine/Link.lean ====
section
/-!
DEFINITION. The Spine link of one port as data: training, flits, acknowledgement and replay, credits, and the packing
of messages into flits (R266 to R283). The commands stand in `Machine/SpineCmds.lean`.
-/
namespace Sys2Proof.Machine

/-! ### Message bytes (R282, Table 11.9) -/

/-- A page message body: HANDLE, PAGE_NO, PAGE_KIB and the data. -/
def pageBody (handle no kib : Nat) (data : Bytes) : Bytes :=
  le 4 handle ++ le 4 no ++ le 2 kib ++ zeros 6 ++ padTo (1024 * kib) data

/-- TYPE of Table 11.7. -/
def MsgBody.type : MsgBody → Nat
  | .hello .. => 0x01 | .caps .. => 0x02 | .heartbeat .. => 0x03 | .detach .. => 0x04 | .roster .. => 0x05
  | .reject .. => 0x0F | .openAck .. => 0x11 | .cancelAck .. => 0x16 | .pauseAccept .. => 0x18 | .pauseDone .. => 0x19
  | .resumeAccept .. => 0x1B | .resumeDone .. => 0x1C | .verdict .. => 0x20 | .tokenOut .. => 0x21
  | .withheld .. => 0x22 | .folioEnd .. => 0x23 | .pfTokens .. => 0x38 | .kvPage .. => 0x40 | .kvEnd .. => 0x41
  | .kvEvict .. => 0x43 | .decBind .. => 0x44 | .ftStore .. => 0x50 | .ftFetch .. => 0x52 | .ftFree .. => 0x54

/-- The body bytes of Table 11.9. -/
def MsgBody.bytes : MsgBody → Bytes
  | .hello k u => le 1 k ++ le 1 1 ++ zeros 6 ++ padTo 16 u
  | .caps f p mc ms fp mb => le 4 f ++ le 2 p ++ le 1 mc ++ zeros 1 ++ le 4 ms ++ le 4 fp ++ le 4 mb ++ zeros 12
  | .heartbeat q t => le 4 q ++ zeros 4 ++ le 8 t
  | .detach r => le 1 r ++ zeros 7
  | .roster es => le 1 es.length ++ zeros 3 ++ es.flatMap fun e => e.1.flatMap (le 1) ++ padTo 16 e.2
  | .reject ty tag h => le 1 ty ++ zeros 3 ++ le 4 tag ++ le 4 h
  | .openAck g h t => le 4 g ++ le 4 h ++ le 8 t
  | .cancelAck h r t => le 4 h ++ le 4 r ++ le 8 t
  | .pauseAccept h => le 4 h
  | .pauseDone h t e => le 4 h ++ zeros 4 ++ le 8 t ++ le 8 e
  | .resumeAccept h => le 4 h
  | .resumeDone h t => le 4 h ++ zeros 4 ++ le 8 t
  | .verdict h k v f b r t c => le 4 h ++ le 1 k ++ le 1 v ++ le 1 f ++ zeros 1 ++ le 4 b ++ le 4 r ++ le 8 t ++ le 8 c
  | .tokenOut h p tk r t c => le 4 h ++ le 4 p ++ le 4 tk ++ le 4 r ++ le 8 t ++ le 8 c
  | .withheld h p n t c => le 4 h ++ le 4 p ++ le 1 n ++ zeros 7 ++ le 8 t ++ le 8 c
  | .folioEnd h r t => le 4 h ++ le 4 r ++ le 8 t
  | .pfTokens h p e tks => le 4 h ++ le 4 p ++ le 2 tks.length ++ le 2 (b2n e) ++ tks.flatMap (le 4)
  | .kvPage h n k d => pageBody h n k d
  | .kvEnd h n => le 4 h ++ le 4 n
  | .kvEvict h => le 4 h
  | .decBind h p n k => le 4 h ++ le 4 p ++ le 4 n ++ le 2 k ++ zeros 2
  | .ftStore h n k d => pageBody h n k d
  | .ftFetch h => le 8 h
  | .ftFree h => le 8 h

/-- A whole message: the 12-byte header of R282 and the body. -/
def OutMsg.bytes (m : OutMsg) : Bytes :=
  let b := m.body.bytes
  le 1 m.body.type ++ le 1 m.dst.ep ++ le 1 m.status ++ zeros 1 ++ le 4 b.length ++ le 4 m.tag ++ b

/-! ### Flits -/

/-- A DATA flit of the sender: its place in the sequence, its channel and endpoint, the endpoint its message is for,
the number of the message and of the flit in it, and the payload. `seq` is 0 until it is sent. -/
structure TxFlit where
  seq : Nat
  vc : Nat
  ep : Nat
  msg : Nat
  idx : Nat
  /-- Folio handle plus 1 for a KV_PAGE toward a DECODE partner, else 0 (R83). -/
  page : Nat
  payload : Bytes
  deriving DecidableEq, Repr

/-- The number of a message stream: VC0 to VC2, then VC3 of each endpoint (R278). -/
def streamOf (vc ep : Nat) : Nat := if vc < 3 then vc else 3 + ep % 4

/-- Cut a message into payloads of 240 bytes; the rest of the last one is padding. -/
def cutFlits (vc ep msg page : Nat) : Nat → Nat → Bytes → List TxFlit
  | 0, _, _ => []
  | fuel + 1, idx, bs =>
    if bs.isEmpty then []
    else { seq := 0, vc := vc, ep := ep, msg := msg, idx := idx, page := page, payload := padTo 240 bs } ::
      cutFlits vc ep msg page fuel (idx + 1) (bs.drop 240)

/-- The flits of a message (R282). -/
def OutMsg.flits (m : OutMsg) (msg : Nat) : List TxFlit :=
  let bs := m.bytes
  let page := match m.body with | .kvPage h .. => h + 1 | _ => 0
  cutFlits m.vc m.dst.ep msg page (bs.length / 240 + 1) 0 bs

/-- A received flit, read from 256 bytes (Table 11.4). -/
structure RxFlit where
  kind : Nat
  vc : Nat
  credEp : Nat
  dataEp : Nat
  seq : Nat
  ackSeq : Nat
  ackValid : Bool
  nak : Bool
  credits : List Nat
  payload : Bytes
  deriving DecidableEq, Repr

/-- Read a flit. -/
def parseFlit (bs : Bytes) : RxFlit :=
  let ch := fieldAt 1 1 bs
  let ack := fieldAt 4 2 bs
  let cr := fieldAt 6 6 bs
  { kind := fieldAt 0 1 bs, vc := ch % 4, credEp := ch / 4 % 4, dataEp := ch / 16 % 4, seq := fieldAt 2 2 bs % 4096,
    ackSeq := ack % 4096, ackValid := bitOf 12 ack, nak := bitOf 13 ack,
    credits := [cr % 4096, cr / 2 ^ 12 % 4096, cr / 2 ^ 24 % 4096, cr / 2 ^ 36 % 4096], payload := slice 12 240 bs }

/-- The CRC of a flit is good (R273). -/
def flitCrcOk (bs : Bytes) : Bool := crc32 (slice 0 252 bs) == fieldAt 252 4 bs

/-- A message taken from a stream: its virtual channel and its bytes. -/
structure InMsg where
  vc : Nat
  ep : Nat
  data : Bytes
  deriving DecidableEq, Repr

/-! ### The port -/

/-- One Spine port beside its registers. Streams are numbered as `streamOf` numbers them. -/
structure Port where
  /-- Step 1 of the present full training, and whether it is the restart at 64 Gb/s (R267). -/
  t0 : Nat
  rate : Nat
  fell : Bool
  /-- WIDTH_4 as it stood when the full training began. -/
  limit4 : Bool
  /-- When the link entered DOWN, and when the present fast retrain began. -/
  downAt : Nat
  retrainAt : Nat
  /-- Receive lanes: locked, equalised, failed; LANE_ID seen on each; what the remote reports. -/
  locked : Nat
  eqOk : Nat
  failed : Nat
  laneIds : List Nat
  remWidth : Nat
  remReady : Nat
  /-- Settings of each transmit lane (pre, main, post) as the remote's requests moved them (Table 11.2). -/
  taps : List (Int × Int × Int)
  /-- Data blocks have begun (step 5); a CREDIT_INIT has come, and one with SEEN. -/
  dataOn : Bool
  initRx : Bool
  initSeen : Bool
  /-- Sender: next SEQ, unacknowledged flits oldest first, queued flits, credits and last counts seen by stream. -/
  txSeq : Nat
  unacked : List TxFlit
  queue : List TxFlit
  credit : Sparse Nat
  lastCount : Sparse Nat
  ackAt : Nat
  replayFrom : Option Nat
  replayRun : Nat
  nextMsg : Nat
  /-- Receiver: next SEQ expected, one accepted since the last full training, NAK, flits taken and freed by stream,
  partly received messages by stream, whole messages newest first. -/
  rxSeq : Nat
  rxAny : Bool
  nak : Bool
  taken : Sparse Nat
  freed : Sparse Nat
  partials : Sparse Bytes
  inbox : List InMsg
  /-- DATA flits sent and accepted since cold reset. -/
  txCount : Nat
  rxCount : Nat
  deriving DecidableEq, Repr

/-- A port that has never trained. -/
def Port.blank : Port :=
  { t0 := 0, rate := 0, fell := false, limit4 := false, downAt := 0, retrainAt := 0, locked := 0, eqOk := 0, failed := 0, laneIds := [],
    remWidth := 0, remReady := 0, taps := [], dataOn := false, initRx := false, initSeen := false, txSeq := 0,
    unacked := [], queue := [], credit := [], lastCount := [], ackAt := 0, replayFrom := none, replayRun := 0,
    nextMsg := 0, rxSeq := 0, rxAny := false, nak := false, taken := [], freed := [], partials := [], inbox := [],
    txCount := 0, rxCount := 0 }

/-- A count of a stream. -/
def cnt (m : Sparse Nat) (k : Nat) : Nat := Sparse.get (fun _ => 0) m k

/-- Set a count of a stream. -/
def setCnt (m : Sparse Nat) (k v : Nat) : Sparse Nat := Sparse.set (fun _ => 0) m k v

/-- What a full training discards (R268): replay buffer, partly sent and received messages, credits, counts. -/
def Port.clearLink (p : Port) : Port :=
  { p with
    locked := 0, eqOk := 0, laneIds := [], remWidth := 0, remReady := 0, dataOn := false, initRx := false,
    initSeen := false, txSeq := 0, unacked := [], queue := [], credit := [], lastCount := [], replayFrom := none,
    replayRun := 0, rxSeq := 0, rxAny := false, nak := false, taken := [], freed := [], partials := [] }

/-- Send queued flits in order as far as credits and the limit of 1,024 unacknowledged flits allow (R275, R278); a
stream without credit holds back only itself. -/
def Port.pumpList (p : Port) : List TxFlit → List Nat → Port
  | [], _ => p
  | f :: fs, blocked =>
    let st := streamOf f.vc f.ep
    if blocked.contains st || cnt p.credit st = 0 || 1024 ≤ p.unacked.length then
      let q := Port.pumpList p fs (st :: blocked)
      { q with queue := f :: q.queue }
    else
      Port.pumpList
        { p with
          unacked := p.unacked ++ [{ f with seq := p.txSeq }]
          txSeq := (p.txSeq + 1) % 4096
          credit := setCnt p.credit st (cnt p.credit st - 1)
          txCount := (p.txCount + 1) % 2 ^ 64 } fs blocked

/-- Send what can be sent; when the replay buffer was empty the 4 µs of R277 count from now. -/
def Port.pump (now : Nat) (p : Port) : Port :=
  let q := Port.pumpList { p with queue := [] } p.queue []
  if p.unacked.isEmpty then { q with ackAt := now } else q

/-- Put a message in the port's send queue and send what can be sent. -/
def Port.push (now : Nat) (m : OutMsg) (p : Port) : Port :=
  Port.pump now { p with queue := p.queue ++ m.flits p.nextMsg, nextMsg := p.nextMsg + 1 }

/-- Discard the queued messages for an endpoint whose sending has not begun (R310). -/
def Port.dropFor (ep : Nat) (p : Port) : Port :=
  let unbegun := (p.queue.filter fun f => f.ep == ep && f.idx == 0).map (·.msg)
  { p with queue := p.queue.filter fun f => !(unbegun.contains f.msg) }

/-- Discard the queued pages of a stream whose sending has not begun (R83). -/
def Port.dropPages (handle : Nat) (p : Port) : Port :=
  let unbegun := (p.queue.filter fun f => f.page == handle + 1 && f.idx == 0).map (·.msg)
  { p with queue := p.queue.filter fun f => !(unbegun.contains f.msg) }

/-- Flits acknowledged by ACK_SEQ leave the replay buffer; one that names none of them changes nothing (R276). -/
def dropAcked (ack : Nat) (fs : List TxFlit) : List TxFlit :=
  match findIdx? (fun f : TxFlit => f.seq == ack) fs with
  | some (i, _) => fs.drop (i + 1)
  | none => fs

/-- Take new credits from the running counts of a flit (R279). -/
def Port.takeCredits (f : RxFlit) (p : Port) : Port :=
  let step (p : Port) (st c : Nat) : Port :=
    { p with credit := setCnt p.credit st (cnt p.credit st + (c + 4096 - cnt p.lastCount st) % 4096)
             lastCount := setCnt p.lastCount st c }
  let p := step p 0 (f.credits[0]?.getD 0)
  let p := step p 1 (f.credits[1]?.getD 0)
  let p := step p 2 (f.credits[2]?.getD 0)
  step p (3 + f.credEp) (f.credits[3]?.getD 0)

/-- Receive buffer of a stream in flits (Table 11.5). -/
def rxBuffer (st : Nat) : Nat := if st = 0 then 64 else if st = 1 then 1024 else if st = 2 then 256 else 512

/-- Messages in a payload of one stream: `part` is the message begun in an earlier flit. The result is the messages
completed and the part left (R282). `fuel` bounds the messages of one payload. -/
def takeMsgs (vc ep : Nat) : Nat → Bytes → Bytes → List InMsg × Bytes
  | 0, part, _ => ([], part)
  | fuel + 1, part, bs =>
    if part.isEmpty && (bs.length < 12 || fieldAt 0 1 bs == 0) then ([], [])
    else
      let whole := part ++ bs
      let len := 12 + fieldAt 4 3 whole
      if whole.length < len then ([], whole)
      else
        let used := len - part.length
        let r := takeMsgs vc ep fuel [] (bs.drop ((used + 3) / 4 * 4))
        ({ vc := vc, ep := if vc < 3 then fieldAt 1 1 whole % 4 else ep, data := whole.take len } :: r.1, r.2)

/-- A DATA flit that may be accepted joins its stream. -/
def Port.accept (f : RxFlit) (p : Port) : Port :=
  let st := streamOf f.vc f.dataEp
  let r := takeMsgs f.vc f.dataEp 21 (Sparse.get (fun _ => []) p.partials st) f.payload
  { p with
    rxSeq := (p.rxSeq + 1) % 4096, rxAny := true, nak := false, taken := setCnt p.taken st (cnt p.taken st + 1)
    partials := Sparse.set (fun _ => []) p.partials st r.2
    inbox := r.1.reverse ++ p.inbox, rxCount := (p.rxCount + 1) % 2 ^ 64 }

/-- The receive buffers are freed, but for the VC3 streams of endpoints whose pages wait for space (R87). -/
def Port.free (stalled : List Nat) (p : Port) : Port :=
  let keep (k : Nat) : Bool := 3 ≤ k && stalled.contains (k - 3)
  { p with freed := p.taken.foldl (fun m e => if keep e.1 then m else setCnt m e.1 e.2) p.freed }

/-- Lanes of a mask mirrored, for a remote whose lane order is reversed. -/
def mirror8 (m : Nat) : Nat := (List.range 8).foldl (fun a i => a + if bitOf i m then 2 ^ (7 - i) else 0) 0

/-- The width of step 4 of Table 11.3 from the lanes usable at both ends: 0 x8, 1 x4 on lanes 0 to 3, 2 x4 on lanes 4
to 7; none when no width is usable. -/
def chooseWidth (usable : Nat) (limit4 : Bool) : Option Nat :=
  if usable % 256 = 255 && !limit4 then some 0
  else if usable % 16 = 15 then some 1
  else if usable / 16 % 16 = 15 then some 2
  else none

/-- The lanes in use of a width. -/
def widthMask (w : Nat) : Nat := if w = 0 then 255 else if w = 1 then 15 else 240

end Sys2Proof.Machine
end

