-- ==== Sys2Proof/Machine/Partner.lean ====
section
/-!
DEFINITION. The partners as data: numbers, states, capabilities and what a move of pages has under way (chapter 12).
-/
namespace Sys2Proof.Machine

/-- The partner kinds of Table 12.1. -/
inductive PKind where
  | gateway | prefill | decode | farTier | peer
  deriving DecidableEq, Repr

/-- HELLO KIND. -/
def PKind.code : PKind → Nat
  | .gateway => 1 | .prefill => 2 | .decode => 3 | .farTier => 4 | .peer => 5

/-- The kind of a HELLO, none outside 1 to 5. -/
def PKind.ofCode (n : Nat) : Option PKind :=
  if n = 1 then some .gateway else if n = 2 then some .prefill else if n = 3 then some .decode
  else if n = 4 then some .farTier else if n = 5 then some .peer else none

/-- The states of a partner number (R308). -/
inductive PState where
  | none | attached | closing | cooling
  deriving DecidableEq, Repr

/-- STATE of SPN_PARTNER_n_INFO. -/
def PState.code : PState → Nat
  | .none => 0 | .attached => 1 | .closing => 2 | .cooling => 3

/-- The device exchanges messages with a partner in this state. -/
def PState.on : PState → Bool
  | .attached | .closing => true
  | _ => false

/-- The fields of a CAPS body (Table 11.9). -/
structure Caps where
  flags : Nat
  pageKib : Nat
  maxCand : Nat
  maxStreams : Nat
  ftPages : Nat
  maxBody : Nat
  deriving DecidableEq, Repr

/-- A partner number: its last attachment (the registers of chapter 12), the next HB_SEQ each way, whether a
HEARTBEAT came in the present window, the windows and heartbeats passed, and the loss tick. -/
structure Partner where
  state : PState
  kind : PKind
  at_ : Endp
  unitId : Bytes
  caps : Caps
  tAttach : Nat
  missed : Nat
  loss : Nat
  gaps : Nat
  hbSent : Nat
  hbNext : Nat
  hbSeen : Bool
  windows : Nat
  lostAt : Nat
  deriving DecidableEq, Repr

/-- A number that nothing has been given. -/
def Partner.blank : Partner :=
  { state := .none, kind := .peer, at_ := { port := 0, ep := 0 }, unitId := zeros 16,
    caps := { flags := 0, pageKib := 0, maxCand := 0, maxStreams := 0, ftPages := 0, maxBody := 0 }, tAttach := 0,
    missed := 0, loss := 0, gaps := 0, hbSent := 0, hbNext := 0, hbSeen := false, windows := 0, lostAt := 0 }

/-- An attach under way: the endpoint, its HELLO and when it came (R299). -/
structure Attach where
  at_ : Endp
  kind : PKind
  unitId : Bytes
  since : Nat
  deriving DecidableEq, Repr

/-- An FT_FREE without its FT_FREE_ACK: partner, TAG, handle, when sent (R293). -/
structure FreeReq where
  partner : Nat
  tag : Nat
  handle : Nat
  since : Nat
  deriving DecidableEq, Repr

/-- An FT_STORE whose page no longer waits for it (the move failed or the folio ended): a late good FT_STORE_ACK is
answered by FT_FREE. -/
structure Stray where
  partner : Nat
  tag : Nat
  deriving DecidableEq, Repr

/-- The eviction of a pausing folio: when KV_EVICT was sent, pages returned, KV_END seen (R320 to R323). -/
structure Evict where
  folio : Nat
  since : Nat
  returned : Nat
  ended : Bool
  deriving DecidableEq, Repr

/-- A KV_PAGE or KV_END that has arrived and is not yet processed: a page waits while the hold area or the SPILL
region is full, and the stream behind it waits with it (R85, R87). `pages` is the count of a KV_END. -/
structure PageMsg where
  src : Endp
  tag : Nat
  handle : Nat
  isEnd : Bool
  no : Nat
  kib : Nat
  data : Bytes
  deriving DecidableEq, Repr

/-- The partner block. -/
structure Parts where
  table : Sparse Partner
  attaches : List Attach
  /-- Ticks, rising; in the tick after each of them a ROSTER is due (R302). -/
  rosterAfter : List Nat
  frees : List FreeReq
  strays : List Stray
  evicts : List Evict
  /-- Page messages in the VC3 receive buffers, oldest first. -/
  waiting : List PageMsg
  /-- Orphanings due under R312: tick and folio, with its GEN. -/
  orphanAt : List (Nat × Nat × Nat)
  deriving DecidableEq, Repr

/-- No partner. -/
def Parts.cold : Parts :=
  { table := [], attaches := [], rosterAfter := [], frees := [], strays := [], evicts := [], waiting := [],
    orphanAt := [] }

/-- Partner n. -/
def Parts.get (p : Parts) (n : Nat) : Partner := Sparse.get (fun _ => .blank) p.table n

/-- Replace partner n. -/
def Parts.put (p : Parts) (n : Nat) (x : Partner) : Parts := { p with table := Sparse.set (fun _ => .blank) p.table n x }

/-- The number of the partner attached (or closing) at an endpoint. -/
def Parts.at? (p : Parts) (e : Endp) : Option Nat :=
  (p.table.find? fun x => x.2.state.on && x.2.at_ == e).map (·.1)

/-- The lowest number in NONE, of 48 (R301). -/
def Parts.lowestFree (p : Parts) : Option Nat := (List.range 48).find? fun n => (p.get n).state == .none

/-- Numbers of the partners in a state that exchange messages, in order. -/
def Parts.onNumbers (p : Parts) : List Nat := (p.table.filter fun x => x.2.state.on).map (·.1)

/-- Table 12.3. -/
def capsMeet (k : PKind) (c : Caps) : Bool :=
  match k with
  | .gateway => c.pageKib == 0 && 1024 ≤ c.maxBody
  | .prefill => bitOf 1 c.flags && c.pageKib != 0 && 65552 ≤ c.maxBody
  | .decode => bitOf 1 c.flags && bitOf 2 c.flags && c.pageKib == 0 && 65552 ≤ c.maxBody
  | .farTier => bitOf 3 c.flags && c.pageKib == 0 && 1 ≤ c.ftPages && 65552 ≤ c.maxBody
  | .peer => c.pageKib == 0 && 32 ≤ c.maxBody

/-- PAGE_KIB is an allowed page size (R284). -/
def pageKibOk (k : Nat) : Bool := k == 4 || k == 8 || k == 16 || k == 32 || k == 64

/-- The values of Table 12.2. -/
def deviceCaps : MsgBody := .caps 6 0 64 65536 0 65552

end Sys2Proof.Machine
end

