-- ==== Sys2Proof/Machine/Operands.lean ====
section
/-!
DEFINITION. The operands of commands that are more than a number: message headers and bodies, and what a command takes from
outside the part (analogue results, upsets, signatures, host data).
-/
namespace Sys2Proof.Machine

/-- The header of an arriving message: its endpoint and its TAG (R282). -/
structure Hdr where
  port : Fin 16
  ep : Fin 4
  tag : BitVec 32
  deriving DecidableEq, Repr

/-- A handle as messages carry it (Table 11.8). -/
structure Handle where
  folio : BitVec 16
  gen : BitVec 8
  deriving DecidableEq, Repr

/-- The fields of REQ_OPEN (Table 11.9). -/
structure OpenReq where
  gwHandle : BitVec 32
  tenant : BitVec 16
  priority : Fin 8
  pf : BitVec 8
  dec : BitVec 8
  maxOut : BitVec 32
  deadlineRel : BitVec 64
  seed : BitVec 64
  select : BitVec 128
  deriving DecidableEq, Repr

/-- What a training block of one lane says (Table 11.2); `serOk` is the receiver's own measure of the lane: its
pre-FEC symbol error ratio is below 10^−5 (step 3 of Table 11.3). -/
structure TrainBlock where
  laneId : Fin 8
  rate : Fin 2
  widthOk : BitVec 8
  phase : Fin 3
  eqReq : BitVec 8
  eqAck : BitVec 8
  serOk : Bool
  deriving DecidableEq, Repr

/-- An error that a check finds in a sample's step, from outside the model. -/
inductive TweErr where
  | compare | residue | memory
  deriving DecidableEq, Repr

/-- What can be wrong with an item's state or inputs as they arrive (Table 15.2). -/
inductive FetchErr where
  | fold
  | embedding (addr : Nat)
  | runningState (addr : Nat)
  | folioWord (addr : Nat)
  | inputs (addr : Nat)
  | packet
  deriving DecidableEq, Repr

/-- Upsets of the store during an operation: logical blocks whose erase, and pages whose program, fails its verify. -/
structure NvmBad where
  blocks : List Nat
  pages : List Nat
  deriving DecidableEq, Repr

/-- What a calibration of a tile gives: its sensor's reading and the nine fits (Table 9.4). `age`: how long before the end of
the start, reset or transition that calibrates every tile this tile's calibration ended, in ns. -/
structure CalIn where
  temp : Nat
  age : Nat
  rows : List RowCal
  deriving DecidableEq, Repr

/-- What the part finds at a cold start: Endpaper's digest holds; tamper sensors active; the self-test; the stacks (0 missing, 1
24 GiB, 2 48 GiB) and their training; the newer journal copy fails its CRC; a chunk read wrong in the audit; the fuses' value when one
does not blow; the CHAIN_ID drawn; calibrations; the host link. -/
structure ColdIn where
  endpaperOk : Bool
  sensors : BitVec 8
  selfTestOk : Bool
  stack0 : Fin 3
  stack1 : Fin 3
  trainOk : Bool
  journalTorn : Bool
  auditUpset : Bool
  fuseTo : Option (BitVec 8)
  chainId : BitVec 128
  cals : List CalIn
  speed : Fin 8
  width : Fin 32
  deriving DecidableEq, Repr

/-- What a warm start takes from outside: when every Quire Supervisor is reloaded, when it ends, a signature for a part 0 that waits for its part 1 with the time at which
it is done, quires whose journal fails its check, whether a cut handover had switched banks, and calibrations. -/
structure WarmIn where
  tLoad : Nat
  tEnd : Nat
  tSign : Nat
  r : BitVec 384
  sg : BitVec 384
  badJournals : List (Fin 8)
  switched : Bool
  cals : List CalIn
  deriving DecidableEq, Repr

/-- What a transition takes from outside: calibrations, and the host link as it trains again. -/
structure PwrIn where
  cals : List CalIn
  speed : Fin 8
  width : Fin 32
  deriving DecidableEq, Repr

end Sys2Proof.Machine
end

