-- ==== Sys2Proof/Syntax.lean ====
section
/-!
DEFINITION. The commands of the part: one constructor per row of the table of operations and events. Every command
carries `t`, the timebase value in ns at which it happens (R34, R502), and the row's operands; what comes from
outside the model (analogue codes, upsets, partner and host data) is an operand.
-/
namespace Sys2Proof

open Machine

/-- The operations and events of the part. -/
inductive Instr where
  /-- REGISTER_WRITE (R11). -/
  | registerWrite (t : Nat) (fn : Fin 32) (off : BitVec 25) (v : BitVec 32)
  /-- READ_LO_LATCH_HI (R35). -/
  | readLoLatchHi (t : Nat) (fn : Fin 32) (off : BitVec 25)
  /-- BAR0_BAD_ACCESS_WRITE (R458). -/
  | bar0BadAccessWrite (t : Nat) (fn : Fin 32)
  /-- REF_CLOCK_LOST (R36). -/
  | refClockLost (t : Nat)
  /-- REF_CLOCK_RELOCK (R36). -/
  | refClockRelock (t : Nat)
  /-- REF_LOST_SEEN_CLEAR (R36). -/
  | refLostSeenClear (t : Nat)
  /-- MARGIN_EVAL (R50). -/
  | marginEval (t : Nat) (margin : Int) (domain : Fin 196)
  /-- ADMISSION_SCHEDULE (R102). -/
  | admissionSchedule (t : Nat) (badWays : List Nat)
  /-- GATE_RELEASE (R38). -/
  | gateRelease (t : Nat) (snapLate : Bool)
  /-- ITEM_COMPUTE_DONE (R97). -/
  | itemComputeDone (t : Nat) (item : Nat) (snapLate : Bool)
  /-- GATHER_BEGIN (R60). -/
  | gatherBegin (t : Nat)
  /-- DRAIN_START (R62). -/
  | drainStart (t : Nat)
  /-- DRAIN_END (R62). -/
  | drainEnd (t : Nat) (snapLate : Bool)
  /-- QUIESCENCE_DONE (R62). -/
  | quiescenceDone (t : Nat)
  /-- GATHER_SEAL (R63). -/
  | gatherSeal (t : Nat)
  /-- OPEN_LIMIT_EXPIRY (R63). -/
  | openLimitExpiry (t : Nat)
  /-- OPEN_LIMIT_WRITE (R63). -/
  | openLimitWrite (t : Nat) (v : BitVec 32)
  /-- GATHER_SWITCH_DONE (R63). -/
  | gatherSwitchDone (t : Nat)
  /-- REQ_OPEN (R73). -/
  | reqOpen (t : Nat) (hd : Hdr) (req : OpenReq)
  /-- REQ_TOKENS (R77). -/
  | reqTokens (t : Nat) (hd : Hdr) (h : Handle) (firstPos : BitVec 22) (toks : List (BitVec 20))
  /-- REQ_END (R77). -/
  | reqEnd (t : Nat) (hd : Hdr) (h : Handle)
  /-- REQ_ATTR (R291). -/
  | reqAttr (t : Nat) (hd : Hdr) (h : Handle) (es : List (BitVec 8 × BitVec 32))
  /-- REQ_CANCEL (R80). -/
  | reqCancel (t : Nat) (hd : Hdr) (h : Handle)
  /-- CANCEL_COMMIT (R81). -/
  | cancelCommit (t : Nat)
  /-- REQ_PAUSE (R90). -/
  | reqPause (t : Nat) (hd : Hdr) (h : Handle) (ft : BitVec 8) (ttl : BitVec 32)
  /-- REQ_RESUME (R92). -/
  | reqResume (t : Nat) (hd : Hdr) (h : Handle) (dec : BitVec 8)
  /-- LDG_CANCEL (R80). -/
  | ldgCancel (t : Nat) (h : Handle)
  /-- LDG_RELEASE (R78). -/
  | ldgRelease (t : Nat) (h : Handle)
  /-- LDG_SNAPSHOT (R69). -/
  | ldgSnapshot (t : Nat) (n : BitVec 16)
  /-- SCANNER_VISIT (R93). -/
  | scannerVisit (t : Nat) (n : BitVec 16)
  /-- KV_PAGE (R315). -/
  | kvPage (t : Nat) (hd : Hdr) (h : Handle) (no : BitVec 22) (kib : Fin 65) (data : Bytes)
  /-- KV_END (R316). -/
  | kvEnd (t : Nat) (hd : Hdr) (h : Handle) (pages : BitVec 32)
  /-- KV_ACK (R318). -/
  | kvAck (t : Nat) (hd : Hdr) (h : Handle) (no : BitVec 22)
  /-- KV_PAGE_EVICT (R320). -/
  | kvPageEvict (t : Nat) (hd : Hdr) (h : Handle) (no : BitVec 22) (kib : Fin 65) (data : Bytes)
  /-- KV_END_EVICT (R320). -/
  | kvEndEvict (t : Nat) (hd : Hdr) (h : Handle) (pages : BitVec 32)
  /-- FT_STORE_ACK (R321). -/
  | ftStoreAck (t : Nat) (hd : Hdr) (status : BitVec 8) (handle : BitVec 40)
  /-- FT_STORE_ACK_TIMEOUT (R293). -/
  | ftStoreAckTimeout (t : Nat) (n : BitVec 16) (no : BitVec 22)
  /-- EVICT_KV_END_TIMEOUT (R323). -/
  | evictKvEndTimeout (t : Nat) (n : BitVec 16)
  /-- FT_DATA (R324). -/
  | ftData (t : Nat) (hd : Hdr) (status : BitVec 8) (kib : Fin 65) (data : Bytes)
  /-- FT_FETCH_TIMEOUT (R293). -/
  | ftFetchTimeout (t : Nat) (n : BitVec 16) (no : BitVec 22)
  /-- FT_FREE_ACK (R94). -/
  | ftFreeAck (t : Nat) (hd : Hdr)
  /-- FT_FREE_TIMEOUT (R293). -/
  | ftFreeTimeout (t : Nat)
  /-- CAND_LIST (R248). -/
  | candList (t : Nat) (hd : Hdr) (body : Bytes)
  /-- BUDGET_REFILL (R107). -/
  | budgetRefill (t : Nat)
  /-- BALANCER_EVAL (R112). -/
  | balancerEval (t : Nat)
  /-- GROUP_MOVE_DONE (R113). -/
  | groupMoveDone (t : Nat)
  /-- PVC_INVALIDATE_TENANT (R133). -/
  | pvcInvalidateTenant (t : Nat) (tenant : Fin 1024)
  /-- PVC_INVALIDATE_ALL (R133). -/
  | pvcInvalidateAll (t : Nat)
  /-- PVC_SWEEP_DONE (R133). -/
  | pvcSweepDone (t : Nat)
  /-- PVC_HIT_COPY_DONE (R124). -/
  | pvcHitCopyDone (t : Nat) (item : Nat) (unreadable : Bool)
  /-- AMA_SEARCH_DONE (R144). -/
  | amaSearchDone (t : Nat) (item : Nat) (us : List AmaUpset) (countEcc : Bool)
  /-- CASCADE_SLOT_SEND (R155). -/
  | cascadeSlotSend (t : Nat) (slot : Nat) (item : Nat)
  /-- CASCADE_FRAME_RX (R156). -/
  | cascadeFrameRx (t : Nat) (slot : Nat) (frame : Bytes) (us : List AmaUpset)
  /-- CASCADE_RING_DOWN (R159). -/
  | cascadeRingDown (t : Nat)
  /-- CASCADE_RING_UP (R154). -/
  | cascadeRingUp (t : Nat)
  /-- CASCADE_TRAIN_TIMEOUT (R154). -/
  | cascadeTrainTimeout (t : Nat)
  /-- CASCADE_RETRAIN_TIMER (R154). -/
  | cascadeRetrainTimer (t : Nat)
  /-- AMA_UPD_WRITE (R165). -/
  | amaUpdWrite (t : Nat) (q : Fin 8) (m : Fin 32) (slot : Fin 32768)
  /-- AMA_UPD_INVALIDATE (R167). -/
  | amaUpdInvalidate (t : Nat) (q : Fin 8) (m : Fin 32) (slot : Fin 32768)
  /-- AMA_UPD_TIP_IN (R174). -/
  | amaUpdTipIn (t : Nat) (q : Fin 8) (m : Fin 32) (slot : Fin 32768)
  /-- AMA_UPD_CLEAR_BANK (R167). -/
  | amaUpdClearBank (t : Nat) (q : Fin 8) (m : Fin 32)
  /-- AMA_UPD_SUBSTEP (R176). -/
  | amaUpdSubstep (t : Nat) (q : Fin 8) (srcBad : Bool)
  /-- AMA_SCRUB_VISIT (R189). -/
  | amaScrubVisit (t : Nat) (bank : Fin 256) (us : List AmaUpset) (shadowBad : Bool)
  /-- TWE_STEP (R202). -/
  | tweStep (t : Nat) (q : Fin 8) (m : Fin 8) (errs : List (Nat × Nat × TweErr)) (countEcc : Bool)
  /-- STATE_FETCH_DONE (R224). -/
  | stateFetchDone (t : Nat) (item : Nat) (rejects : List Nat) (err : Option FetchErr) (countEcc : Bool)
  /-- AMT_GATHER_TIMEOUT (R225). -/
  | amtGatherTimeout (t : Nat) (q : Fin 8) (tile : Fin 32)
  /-- AMT_PASS_DONE (R226). -/
  | amtPassDone (t : Nat) (q : Fin 8) (tile : Fin 32) (codes : List (List (List Nat))) (wit : List (List Nat)) (fails : List Nat) (ecc : Option Nat) (countEcc : Bool)
  /-- XL_RERUN_DONE (R239). -/
  | xlRerunDone (t : Nat) (item : Nat) (cls : Fin 64) (used : Nat) (residue : Bool) (ecc : Option Nat) (countEcc : Bool)
  /-- AMT_CAL_DUE (R229). -/
  | amtCalDue (t : Nat) (q : Fin 8) (tile : Fin 32) (temp : BitVec 7)
  /-- AMT_CAL_START (R229). -/
  | amtCalStart (t : Nat) (q : Fin 8) (tile : Fin 32)
  /-- AMT_CAL_DONE (R229). -/
  | amtCalDone (t : Nat) (q : Fin 8) (tile : Fin 32) (fits : List RowCal)
  /-- AMT_CAL_ALL (R229). -/
  | amtCalAll (t : Nat) (q : Fin 8)
  /-- XL_DEMAND_WINDOW (R241). -/
  | xlDemandWindow (t : Nat) (q : Fin 8)
  /-- SPN_PORT_ENABLE (R267). -/
  | spnPortEnable (t : Nat) (p : Fin 16) (v : BitVec 32)
  /-- SPN_PORT_DISABLE (R268). -/
  | spnPortDisable (t : Nat) (p : Fin 16) (v : BitVec 32)
  /-- SPN_FULL_TRAIN (R267). -/
  | spnFullTrain (t : Nat) (p : Fin 16) (v : BitVec 32)
  /-- SPN_RETRAIN (R269). -/
  | spnRetrain (t : Nat) (p : Fin 16) (v : BitVec 32)
  /-- SPN_TRAINING_BLOCK_RX (R267). -/
  | spnTrainingBlockRx (t : Nat) (p : Fin 16) (lane : Fin 8) (blk : TrainBlock)
  /-- SPN_TRAIN_TIMEOUT (R267). -/
  | spnTrainTimeout (t : Nat) (p : Fin 16)
  /-- SPN_DOWN_RESTART (R267). -/
  | spnDownRestart (t : Nat) (p : Fin 16)
  /-- SPN_FEC_BLOCK_RX (R271). -/
  | spnFecBlockRx (t : Nat) (p : Fin 16) (blk : Option (Nat × Nat × List Bytes))
  /-- SPN_REPLAY_TIMEOUT (R277). -/
  | spnReplayTimeout (t : Nat) (p : Fin 16)
  /-- SPN_BLOCK_LOCK_LOST (R269). -/
  | spnBlockLockLost (t : Nat) (p : Fin 16) (lane : Fin 8)
  /-- SPN_FAST_RETRAIN_TIMEOUT (R269). -/
  | spnFastRetrainTimeout (t : Nat) (p : Fin 16)
  /-- UNSUPPORTED_MESSAGE (R285). -/
  | unsupportedMessage (t : Nat) (hd : Hdr) (type : BitVec 8) (body : Bytes)
  /-- HELLO (R299). -/
  | hello (t : Nat) (hd : Hdr) (kind : BitVec 8) (proto : BitVec 8) (unitId : Bytes)
  /-- CAPS (R300). -/
  | caps (t : Nat) (hd : Hdr) (cp : Caps)
  /-- CAPS_TIMEOUT (R299). -/
  | capsTimeout (t : Nat) (p : Fin 16) (ep : Fin 4)
  /-- HEARTBEAT (R305). -/
  | heartbeat (t : Nat) (hd : Hdr) (hbSeq : BitVec 32)
  /-- HEARTBEAT_SEND (R304). -/
  | heartbeatSend (t : Nat) (n : Fin 48)
  /-- HEARTBEAT_WINDOW_END (R305). -/
  | heartbeatWindowEnd (t : Nat) (n : Fin 48)
  /-- DETACH (R308). -/
  | detach (t : Nat) (hd : Hdr)
  /-- PARTNER_CLOSE (R309). -/
  | partnerClose (t : Nat) (n : Fin 48)
  /-- PARTNER_OPEN (R309). -/
  | partnerOpen (t : Nat) (n : Fin 48)
  /-- PARTNER_DETACH (R308). -/
  | partnerDetach (t : Nat) (n : Fin 48)
  /-- ROSTER_SEND (R302). -/
  | rosterSend (t : Nat)
  /-- PARTNER_COOL_END (R311). -/
  | partnerCoolEnd (t : Nat) (n : Fin 48)
  /-- ORPHAN_AT_HOLD (R312). -/
  | orphanAtHold (t : Nat) (n : BitVec 16)
  /-- SEAL_COUNT_TRIGGER (R339). -/
  | sealCountTrigger (t : Nat)
  /-- SEAL_TIMER_TRIGGER (R339). -/
  | sealTimerTrigger (t : Nat)
  /-- COL_SEAL_NOW (R339). -/
  | colSealNow (t : Nat) (v : BitVec 32)
  /-- SEAL_SIGNATURE_DONE (R340). -/
  | sealSignatureDone (t : Nat) (r : BitVec 384) (sg : BitVec 384)
  /-- COL_TAIL_COMMIT (R346). -/
  | colTailCommit (t : Nat) (v : BitVec 32)
  /-- COL_PUSH_ENABLE (R347). -/
  | colPushEnable (t : Nat) (v : BitVec 32)
  /-- COL_PUSH_WRITE (R347). -/
  | colPushWrite (t : Nat) (ecc : Bool) (fails : Bool)
  /-- COL_APERTURE_READ (R390). -/
  | colApertureRead (t : Nat) (off : Fin 0x4000000) (ecc : Bool)
  /-- BIND_STAGE (R354). -/
  | bindStage (t : Nat) (win : Fin 64)
  /-- BIND_STAGE_DONE (R354). -/
  | bindStageDone (t : Nat) (data : DmaIn)
  /-- BIND_DISCARD (R354). -/
  | bindDiscard (t : Nat)
  /-- BIND_LOAD (R372). -/
  | bindLoad (t : Nat)
  /-- BIND_LOAD_DONE (R373). -/
  | bindLoadDone (t : Nat)
  /-- CONFIG_RESTORE_DONE (R378). -/
  | configRestoreDone (t : Nat) (q : Fin 8)
  /-- CAT_ADD (R369). -/
  | catAdd (t : Nat) (win : Fin 64) (variant : Fin 4096)
  /-- CAT_ADD_DONE (R369). -/
  | catAddDone (t : Nat) (data : DmaIn)
  /-- CAT_REMOVE (R370). -/
  | catRemove (t : Nat) (variant : Fin 4096)
  /-- CAT_SIZE_WRITE (R368). -/
  | catSizeWrite (t : Nat) (v : BitVec 32)
  /-- MSET_WRITE (R375). -/
  | msetWrite (t : Nat) (q : Fin 8) (slot : Fin 16) (v : BitVec 32)
  /-- CENSUS_SETTLED (R392). -/
  | censusSettled (t : Nat) (n : BitVec 16)
  /-- FLT_CENSUS_READ (R391). -/
  | fltCensusRead (t : Nat) (n : BitVec 16)
  /-- FLT_CENSUS_RETRY (R398). -/
  | fltCensusRetry (t : Nat) (h : Handle)
  /-- MODEL_SCRUB_VISIT (R393). -/
  | modelScrubVisit (t : Nat) (q : Fin 8) (addr : BitVec 28) (uncorr : Bool)
  /-- MODEL_REPAIR_DONE (R394). -/
  | modelRepairDone (t : Nat) (q : Fin 8) (addr : BitVec 28) (again : Bool)
  /-- NVM_READ (R405). -/
  | nvmRead (t : Nat) (win : Fin 64)
  /-- NVM_PROGRAM (R405). -/
  | nvmProgram (t : Nat) (win : Fin 64)
  /-- NVM_ERASE (R405). -/
  | nvmErase (t : Nat)
  /-- NVM_OP_DONE (R407). -/
  | nvmOpDone (t : Nat) (data : DmaIn) (bad : NvmBad)
  /-- EPD_CHECK (R411). -/
  | epdCheck (t : Nat) (win : Fin 64) (data : DmaIn)
  /-- EPD_WRITE (R412). -/
  | epdWrite (t : Nat) (win : Fin 64) (data : DmaIn) (bad : NvmBad)
  /-- EPD_WRITE_DONE (R412). -/
  | epdWriteDone (t : Nat) (chunks : List DmaIn) (bad : NvmBad)
  /-- EPD_RESUME (R413). -/
  | epdResume (t : Nat) (win : Fin 64) (data : DmaIn)
  /-- EPD_ARM (R418). -/
  | epdArm (t : Nat)
  /-- EPD_PRELOAD_DONE (R418). -/
  | epdPreloadDone (t : Nat) (upset : Bool)
  /-- EPD_DISARM (R418). -/
  | epdDisarm (t : Nat)
  /-- EPD_SET (R428). -/
  | epdSet (t : Nat) (key : BitVec 16)
  /-- EPD_GET (R428). -/
  | epdGet (t : Nat) (key : BitVec 16)
  /-- HANDOVER_DONE (R419). -/
  | handoverDone (t : Nat) (recordOk : Bool)
  /-- POWER_ON (R489). -/
  | powerOn (t : Nat)
  /-- RESET_N_LOW (R430). -/
  | resetNLow (t : Nat) (ns : Nat)
  /-- PERST_N_LOW (R479). -/
  | perstNLow (t : Nat) (ns : Nat)
  /-- BROWN_OUT (R430). -/
  | brownOut (t : Nat) (ns : Nat)
  /-- COLD_START (R435). -/
  | coldStart (t : Nat) (c : ColdIn)
  /-- SHL_RESET_COLD (R431). -/
  | shlResetCold (t : Nat) (guard : BitVec 16)
  /-- SHL_RESET_WARM (R434). -/
  | shlResetWarm (t : Nat) (guard : BitVec 16) (w : WarmIn)
  /-- SHL_RESET_QUIRE (R434). -/
  | shlResetQuire (t : Nat) (guard : BitVec 16) (quires : BitVec 8) (tEnd : Nat) (badJournals : List (Fin 8)) (cals : List CalIn)
  /-- SCP_WATCHDOG_EXPIRY (R430). -/
  | scpWatchdogExpiry (t : Nat) (w : WarmIn)
  /-- QSV_WATCHDOG_EXPIRY (R430). -/
  | qsvWatchdogExpiry (t : Nat) (q : Fin 8) (tEnd : Nat) (badJournals : List (Fin 8)) (cals : List CalIn)
  /-- QSV_MEMORY_ERROR (R430). -/
  | qsvMemoryError (t : Nat) (q : Fin 8) (tEnd : Nat) (badJournals : List (Fin 8)) (cals : List CalIn)
  /-- PCIE_HOT_RESET (R479). -/
  | pcieHotReset (t : Nat) (speed : Fin 8) (width : Fin 32) (w : WarmIn)
  /-- PCIE_LINK_DOWN (R479). -/
  | pcieLinkDown (t : Nat) (speed : Fin 8) (width : Fin 32) (w : WarmIn)
  /-- PF_FLR (R479). -/
  | pfFlr (t : Nat) (w : WarmIn)
  /-- VF_FLR (R480). -/
  | vfFlr (t : Nat) (vf : Fin 32) (busy : List Nat)
  /-- PWR_STATE_REQUEST (R440). -/
  | pwrStateRequest (t : Nat) (target : Fin 4)
  /-- PWR_TRANSITION_DONE (R439). -/
  | pwrTransitionDone (t : Nat) (env : PwrIn)
  /-- WAKE_N_LOW (R443). -/
  | wakeNLow (t : Nat) (ns : Nat)
  /-- THERMAL_READING (R445). -/
  | thermalReading (t : Nat) (tj : BitVec 8) (sensor : Fin 40)
  /-- THERMAL_RESUME (R445). -/
  | thermalResume (t : Nat) (cals : List CalIn)
  /-- CRITICAL_TEMP (R445). -/
  | criticalTemp (t : Nat)
  /-- TAMPER_EVENT (R447). -/
  | tamperEvent (t : Nat) (code : BitVec 8) (active : Bool)
  /-- LOCKDOWN_ENTRY (R448). -/
  | lockdownEntry (t : Nat)
  /-- SEC_PROV_BEGIN (R453). -/
  | secProvBegin (t : Nat) (draw : BitVec 512) (attest : Bytes)
  /-- SEC_PROV_COMMIT (R453). -/
  | secProvCommit (t : Nat) (nonce : Bytes) (bad : NvmBad)
  /-- SEC_PROV_ABORT (R453). -/
  | secProvAbort (t : Nat)
  /-- WIN_ENABLE (R463). -/
  | winEnable (t : Nat) (fn : Fin 32) (w : Fin 64) (v : BitVec 32)
  /-- WIN_DISABLE (R463). -/
  | winDisable (t : Nat) (fn : Fin 32) (w : Fin 64) (v : BitVec 32) (busy : Bool)
  /-- WIN_DRAINED (R463). -/
  | winDrained (t : Nat) (w : Fin 64)
  /-- QP_ENABLE (R466). -/
  | qpEnable (t : Nat) (fn : Fin 32) (q : Fin 64) (v : BitVec 32)
  /-- QP_DISABLE (R471). -/
  | qpDisable (t : Nat) (fn : Fin 32) (q : Fin 64) (v : BitVec 32)
  /-- QP_SQ_TAIL_WRITE (R467). -/
  | qpSqTailWrite (t : Nat) (fn : Fin 32) (q : Fin 64) (v : BitVec 32)
  /-- QP_CQ_HEAD_WRITE (R470). -/
  | qpCqHeadWrite (t : Nat) (fn : Fin 32) (q : Fin 64) (v : BitVec 32)
  /-- QP_NOP (R469). -/
  | qpNop (t : Nat) (q : Fin 64) (inp : DmaIn)
  /-- QP_FOLIO_CANCEL (R469). -/
  | qpFolioCancel (t : Nat) (q : Fin 64) (inp : DmaIn)
  /-- QP_FOLIO_RELEASE (R469). -/
  | qpFolioRelease (t : Nat) (q : Fin 64) (inp : DmaIn)
  /-- QP_FOLIO_READ (R468). -/
  | qpFolioRead (t : Nat) (q : Fin 64) (inp : DmaIn)
  /-- QP_CENSUS_READ (R469). -/
  | qpCensusRead (t : Nat) (q : Fin 64) (inp : DmaIn)
  /-- QP_CENSUS_RETRY (R469). -/
  | qpCensusRetry (t : Nat) (q : Fin 64) (inp : DmaIn)
  /-- MSIX_MOD_INTERVAL_END (R474). -/
  | msixModIntervalEnd (t : Nat) (fn : Fin 32) (vec : Fin 1024)
  /-- I3C_ADDRESS_ASSIGN (R475). -/
  | i3cAddressAssign (t : Nat) (addr : BitVec 7)
  /-- I3C_SET_INDEX (R476). -/
  | i3cSetIndex (t : Nat) (index : BitVec 8)
  /-- I3C_READ (R476). -/
  | i3cRead (t : Nat) (count : Fin 257)
  /-- I3C_WAKE (R477). -/
  | i3cWake (t : Nat) (b1 : BitVec 8) (b2 : BitVec 8)
  /-- I3C_ENEC (R478). -/
  | i3cEnec (t : Nat)
  /-- JTAG_TAP_RESET (R498). -/
  | jtagTapReset (t : Nat)
  /-- JTAG_EXTEST (R498). -/
  | jtagExtest (t : Nat) (inputs : List Bool) (cells : List Bool)
  /-- JTAG_SAMPLE_PRELOAD (R498). -/
  | jtagSamplePreload (t : Nat) (inputs : List Bool) (cells : List Bool)
  /-- JTAG_BYPASS (R498). -/
  | jtagBypass (t : Nat) (code : Fin 16)
  /-- POWER_DOWN (R490). -/
  | powerDown (t : Nat)
  /-- THERM_TRIP_RELEASE (R493). -/
  | thermTripRelease (t : Nat) (ns : Nat) (hottest : BitVec 8)
  /-- FUNCTION_D_STATE_CHANGE (R456). -/
  | functionDStateChange (t : Nat) (fn : Fin 32) (toD3 : Bool)
  /-- MSIX_VECTOR_UNMASK (R472). -/
  | msixVectorUnmask (t : Nat) (fn : Fin 32) (vec : Fin 1024)
  deriving DecidableEq, Repr

end Sys2Proof
end

