-- ==== Sys2Proof/Machine/Ecdsa.lean ====
section
/-!
DEFINITION. ECDSA P-384 verification with SHA-384 (FIPS 186-5), which the device runs on its own seals (R341), on
firmware images (R411) and on endorsements (R453). Points are affine; none is the point at infinity.
-/
namespace Sys2Proof.Machine

def p384p : Nat := 2 ^ 384 - 2 ^ 128 - 2 ^ 96 + 2 ^ 32 - 1
def p384n : Nat := 0xffffffffffffffffffffffffffffffffffffffffffffffffc7634d81f4372ddf581a0db248b0a77aecec196accc52973
def p384b : Nat := 0xb3312fa7e23ee7e4988e056be3f82d19181d9c6efe8141120314088f5013875ac656398d8a2ed19d2a85c8edd3ec2aef
def p384gx : Nat := 0xaa87ca22be8b05378eb1c71ef320ad746e1d3b628ba79b9859f741e082542a385502f25dbf55296c3a545e3872760ab7
def p384gy : Nat := 0x3617de4a96262c6f5d9e98bf9292dc29f8f41dbd289a147ce9da3113b5f0b8c00a60b1ce1d7e819d7a431d7c90ea0e5f

/-- A point of the curve; none is the point at infinity. -/
abbrev EcPoint := Option (Nat × Nat)

/-- b^e mod m, e below 2^k: square and multiply over the k bits of e. -/
def powMod (m b : Nat) : Nat → Nat → Nat
  | 0, _ => 1 % m
  | k + 1, e =>
    let h := powMod m b k (e / 2)
    let h2 := h * h % m
    if e % 2 = 1 then h2 * b % m else h2

/-- The inverse of a mod a prime m of at most 384 bits. -/
def invMod (m a : Nat) : Nat := powMod m (a % m) 384 (m - 2)

/-- a − b mod m. -/
def subMod (m a b : Nat) : Nat := (a % m + m - b % m) % m

/-- The sum of two points. -/
def ecAdd : EcPoint → EcPoint → EcPoint
  | none, q => q
  | p, none => p
  | some (x1, y1), some (x2, y2) =>
    if x1 = x2 && (y1 + y2) % p384p = 0 then none
    else
      let l := if x1 = x2
        then (3 * x1 * x1 + p384p - 3) * invMod p384p (2 * y1) % p384p
        else subMod p384p y2 y1 * invMod p384p (subMod p384p x2 x1) % p384p
      let x3 := subMod p384p (l * l) (x1 + x2)
      some (x3, subMod p384p (l * subMod p384p x1 x3) y1)

/-- k times a point, k below 2^n. -/
def ecMul (p : EcPoint) : Nat → Nat → EcPoint
  | 0, _ => none
  | n + 1, k =>
    let h := ecMul p n (k / 2)
    let h2 := ecAdd h h
    if k % 2 = 1 then ecAdd h2 p else h2

/-- (x, y) is a point of the curve. -/
def onCurve (x y : Nat) : Bool :=
  x < p384p && y < p384p && y * y % p384p == (x * x * x + (p384p - 3) * x + p384b) % p384p

/-- The signature (r, s) over a message verifies under the public key PUB_X ‖ PUB_Y (96 bytes). -/
def ecdsaVerify (pub msg : Bytes) (r s : Nat) : Bool :=
  let x := unbe (slice 0 48 pub)
  let y := unbe (slice 48 48 pub)
  if r = 0 || p384n ≤ r || s = 0 || p384n ≤ s || !onCurve x y then false
  else
    let w := invMod p384n s
    let u1 := unbe (sha384 msg) * w % p384n
    let u2 := r * w % p384n
    match ecAdd (ecMul (some (p384gx, p384gy)) 384 u1) (ecMul (some (x, y)) 384 u2) with
    | none => false
    | some (vx, _) => vx % p384n == r

end Sys2Proof.Machine
end

