-- ==== Sys2Proof/Config.lean ====
section
/-!
DEFINITION. What one part or one implementation fixes and the spec leaves open: constants without a body, so that
nothing can be proved of their values.
-/
namespace Sys2Proof.Config

/-- The part's unit identity, 16 bytes (R295): fused at manufacture. -/
opaque unitId : BitVec 128

/-- METAL_FIX of SHL_ID, the part's own fix level. -/
opaque metalFix : BitVec 4

/-- The part is an A0 part rather than a B0 part (R1). -/
opaque steppingA0 : Bool

/-- What near-tier addresses the device chooses within a region (page-list descriptors, count tables, held pages, cache
contents): the n-th choice. -/
opaque nearAddr : Nat → BitVec 40

/-- The TAG that the device gives its n-th request (R282: the sender's number for the message). -/
opaque tagNo : Nat → BitVec 32

/-- The firmware key digest fused in the security block: SHA-384 of PUB_X ‖ PUB_Y (R411). -/
opaque fwKeyDigest : BitVec 384

/-- The Endpaper ABI of EPD_ABI (R423). -/
opaque epdAbi : BitVec 16

/-- Byte k of the n-th page that a failed program left partly programmed (the hazard of R409). -/
opaque tornByte : Nat → Nat → BitVec 8

/-- The key-encryption key derived from the fused device secret (R452). -/
opaque keyEncKey : BitVec 256

/-- The endorsement key held in fuses: PUB_X ‖ PUB_Y (R452). -/
opaque endorsePub : BitVec 768

end Sys2Proof.Config
end

