-- ==== Sys2Proof/Machine/State.lean ====
section
/-!
DEFINITION. The state of the part: every register, queue, buffer, counter and mode the spec gives it, as plain data,
and the state right after a cold reset with power applied (`State.reset`).
-/
namespace Sys2Proof.Machine

/-- The gathering states (R59). -/
inductive GState where
  | openW | sealed | pending | draining | sealing
  deriving DecidableEq, Repr

/-- STATE of DKL_GATHER_STATUS. -/
def GState.code : GState → Nat
  | .openW => 0 | .sealed => 1 | .pending => 2 | .draining => 3 | .sealing => 4

/-- The Deckle block beside its registers (chapter 2). -/
structure Dkl where
  gather : GState
  /-- First tick of the open window, from which DKL_OPEN_LIMIT counts (R63). -/
  openFrom : Nat
  /-- The window follows a cold or exhausted reset: no limit, nothing to revert to (R61, R64). -/
  noLimit : Bool
  /-- Tick of the last seal (R60); none before the first. -/
  lastSeal : Option Nat
  /-- A BEGIN waits for the end of the 10 ms spacing or for its first tick: the drain's first tick T_b. -/
  beginAt : Option Nat
  /-- The seal under way was made by DKL_OPEN_LIMIT. -/
  sealTimer : Bool
  /-- When the seal under way began (step 1 of Table 2.5). -/
  sealAt : Nat
  /-- The register file when the window opened: its LK fields are the previous gathering's (R63). -/
  saved : RegFile
  /-- Releases booked per tick (R37). -/
  booked : Sparse Nat
  /-- Admission is stopped by a lost reference until software clears REF_LOST_SEEN after lock (R36). -/
  refStop : Bool
  /-- Time of the last margin evaluation, and from when the rail's 1 ms above 20 % counts (R50, R51). -/
  lastEval : Option Nat
  above20 : Option Nat
  deriving DecidableEq, Repr

/-- Who asked for a cancel (R80): the GATEWAY partner's message, or the host. -/
inductive CancelBy where
  | gateway (dst : Endp) (tag : Nat)
  | host
  | queue (qp : Nat) (cid : Nat)
  deriving DecidableEq, Repr

/-- A cancel request that has arrived and is not yet committed. -/
structure CancelReq where
  folio : Nat
  gen : Nat
  at_ : Nat
  by_ : CancelBy
  deriving DecidableEq, Repr

/-- What the device holds for a stream beside its folio: the durable running state, the attributes of REQ_ATTR
(R291), the tokens received and released, the counts of R254 with the entries they hold (R256), the chain hash of
the last complete block received (R116), and from which tick its next item may compete (R100). -/
structure FRun where
  run : Running
  attrs : Sparse (Option Int)
  prompt : List Nat
  outs : List Nat
  counts : Sparse Nat
  entries : Nat
  promptCounted : Bool
  spare : Nat
  hash : Bytes
  blocks : Nat
  endBlock : Option Nat
  elIn : Nat
  elOut : Nat
  nearTier : Bool
  /-- Pages sent in the present page stream, and whether its KV_END has gone (R317). -/
  fwdN : Nat
  endSent : Bool
  /-- The census entry of a FAULTED folio, kept until the folio is allocated again. -/
  cens : Option Census
  /-- Output items done (released or withheld) and the folio opened for a recovery count (R398). -/
  outDone : Nat
  deriving DecidableEq, Repr

/-- A stream that has just been opened. -/
def FRun.zero : FRun :=
  { run := .zero, attrs := [], prompt := [], outs := [], counts := [], entries := 0, promptCounted := false, spare := 0,
    hash := zeros 32, blocks := 0, endBlock := none, elIn := 0, elOut := 0, nearTier := false,
    fwdN := 0, endSent := false, cens := none, outDone := 0 }

/-- The Stream Ledger (chapter 3). The free list is the folios from `fresh` on that nothing has used since the
cold start, then `returned`, oldest first (R70). -/
structure Ledger where
  folios : Sparse Folio
  runs : Sparse FRun
  fresh : Nat
  returned : List Nat
  cancels : List CancelReq
  /-- Sweep period in force in ms, and a written one with the first tick from which sweeps use it (R93). -/
  scanP : Nat
  scanPend : Option (Nat × Nat)
  deriving DecidableEq, Repr

/-- Admission (chapter 4): items that wait, items admitted and not past the gate in admission order, the fairness
tags and budget levels of each channel, backlogs and the group split. -/
structure Adm where
  queue : List Item
  live : List Item
  nextId : Nat
  nextAdm : Nat
  vIn : Nat
  vOut : Nat
  tagsIn : Sparse Tag
  tagsOut : Sparse Tag
  levIn : Sparse Nat
  levOut : Sparse Nat
  /-- BURST cuts that take effect at the end of their tick: tick, channel, tenant, new cap (R107). -/
  cuts : List (Nat × Chan × Nat × Nat)
  /-- Items whose bypass count reached 64, in the order of reaching it (R103). -/
  holders : List (Chan × Nat)
  /-- Ticks of the last scheduler run and of the last refill. -/
  lastRun : Option Nat
  lastRefill : Option Nat
  /-- Booked backlogs B_r in ns, by quire, channel and resource (R45). -/
  backlog : Sparse Nat
  nOut : List Nat
  /-- The fenced group: quire, group, toward output (R113). -/
  fence : Option (Nat × Nat × Bool)
  lastWant : Option Bool
  streak : Nat
  moveQuire : Nat
  moveToOut : Bool
  lastBal : Option Nat
  waitIn : Nat
  waitOut : Nat
  deriving DecidableEq, Repr

/-- The engines: samples in dispatch order, tiles by 32 × quire + tile, rows that wait for a tile, and the time used
and booked on each quire's Exact Lane in the present window (R241). -/
structure Eng where
  samples : List Sample
  tiles : Sparse Tile
  waitRows : List (Nat × Nat)
  xlUsed : Sparse Nat
  xlBooked : Sparse Nat
  visits : Sparse Nat
  deriving DecidableEq, Repr

/-- The chain beside its Colophons (chapter 13). -/
structure Cols where
  /-- CHAIN_ID, drawn at the cold reset (R336), and when the chain started (R339). -/
  chainId : Bytes
  startAt : Nat
  /-- TAIL (R345), and the value that COL_TAIL_SEQ_HI was last written with (R346). -/
  tail : Nat
  tailHi : Nat
  /-- A part 0 waits for its part 1, with the signatures that failed their check so far (R340, R341). -/
  pendingSig : Option Nat
  /-- SEQ of the last part 0 with a valid part 1 (COL_LAST_SEAL). -/
  lastSeal : Nat
  /-- SEAL_NOW is held (R339); a warm reset's seal waits (R349). -/
  hostReq : Bool
  warmReq : Bool
  /-- COL_UNSEALED_FIRST (R344); 0 when none. -/
  unsealedFirst : Nat
  /-- The present key: PUB_X ‖ PUB_Y, KEY_EPOCH and the endorsement record (R342, R343). -/
  pubKey : Bytes
  keyEpoch : Nat
  endorse : Bytes
  /-- Entries pushed so far: the SEQ of the last entry written to the push ring (R347). -/
  pushed : Nat
  /-- Entries found unreadable and logged, by SEQ (R390). -/
  badSeqs : List Nat
  deriving DecidableEq, Repr

/-- One DMA write of the device into host memory: tick, window, byte offset in it, data. -/
structure DmaWrite where
  tick : Nat
  win : Nat
  off : Nat
  data : Bytes
  deriving DecidableEq, Repr

/-- What a host or sideband read returned: tick, where (BAR number, or 0x13 for the I3C sideband), offset, data. -/
structure ReadOut where
  tick : Nat
  space : Nat
  off : Nat
  data : Bytes
  deriving DecidableEq, Repr

/-- The part. -/
structure State where
  /-- Commands that wait, first in, first out. -/
  pending : List Instr
  /-- The deckle timebase at the last event (R34). -/
  now : Nat
  /-- The model's own counter, not the spec's: the argument of the next free value. -/
  free : Nat
  regs : RegFile
  dkl : Dkl
  ldg : Ledger
  adm : Adm
  pvc : Pvc
  ama : Ama
  casc : Casc
  eng : Eng
  /-- Spine ports by number, and the partner block. -/
  ports : Sparse Port
  parts : Parts
  bnd : Bnd
  nvm : Nvm
  epd : Epd
  pwr : Pwr
  sec : Sec
  hif : Hif
  pins : Pins
  /-- The Colophons of this power-on, newest first (R336). -/
  chain : List Col
  col : Cols
  /-- Messages put in send queues, newest first. -/
  out : List OutMsg
  /-- Writes into host memory, newest first. -/
  dma : List DmaWrite
  /-- What reads returned, newest first. -/
  reads : List ReadOut
  deriving DecidableEq, Repr

/-- Why a step stops. No command of this part stops the machine: the type is empty of causes the spec gives, and
its one constructor is never raised (safe). -/
inductive Fault where
  | none
  deriving DecidableEq, Repr

/-- Why a command has no meaning. `notModelled`: raised only by an arm of the dispatch that has no meaning yet,
under the command's mnemonic (safe). -/
inductive Refusal where
  | notModelled (mnemonic : String)
  deriving DecidableEq, Repr

/-- The Deckle block after a cold reset (R59, R64). -/
def Dkl.cold : Dkl :=
  { gather := .openW, openFrom := 0, noLimit := true, lastSeal := none, beginAt := none, sealTimer := false, sealAt := 0,
    saved := [], booked := [], refStop := false, lastEval := none, above20 := none }

/-- The ledger after a cold reset: every folio free, in index order. -/
def Ledger.cold : Ledger :=
  { folios := [], runs := [], fresh := 0, returned := [], cancels := [], scanP := 10, scanPend := none }

/-- Admission after a cold reset: levels full (R107), two output groups per quire (ADM_SPLIT). -/
def Adm.cold : Adm :=
  { queue := [], live := [], nextId := 0, nextAdm := 1, vIn := 0, vOut := 0, tagsIn := [], tagsOut := [], levIn := [],
    levOut := [], cuts := [], holders := [], lastRun := none, lastRefill := none, backlog := [],
    nOut := List.replicate 8 2, fence := none, lastWant := none, streak := 0, moveQuire := 0, moveToOut := false, lastBal := none, waitIn := 0, waitOut := 0 }

/-- No chain yet: it starts in the cold start (R336, R350). -/
def Cols.cold : Cols :=
  { chainId := zeros 16, startAt := 0, tail := 0, tailHi := 0, pendingSig := none, lastSeal := 0, hostReq := false, warmReq := false,
    unsealedFirst := 0, pubKey := zeros 96, keyEpoch := 0, endorse := zeros 256, pushed := 0, badSeqs := [] }

/-- Empty engines. -/
def Eng.cold : Eng := { samples := [], tiles := [], waitRows := [], xlUsed := [], xlBooked := [], visits := [] }

/-- The state right after a cold reset with power applied, at timebase 0. -/
def State.reset : State :=
  { pending := [], now := 0, free := 0, regs := [], dkl := .cold, ldg := .cold, adm := .cold, pvc := .empty, ama := .cold,
    casc := .off, eng := .cold, ports := [], parts := .cold, bnd := .cold, nvm := .new, epd := .new, pwr := .cold, sec := .cold,
    hif := .cold, pins := .cold, chain := [], col := .cold, out := [], dma := [], reads := [] }

end Sys2Proof.Machine
end

