-- ==== Sys2Proof/Machine/Ops.lean ====
section
/-!
DEFINITION. The named operations over the state that every chapter shares: time, registers, folios, the chain, the
send queues, items and backlogs.
-/
namespace Sys2Proof.Machine

/-! ### Time and registers -/

/-- Time moves to t; it never runs backwards (R14, R34). -/
def State.advance (t : Nat) (s : State) : State := { s with now := max s.now t }

/-- The tick of the present event (R502). -/
def State.tick (s : State) : Nat := tickOf s.now

/-- What a read answers goes to the reader: the space read, the offset, the bytes. -/
def State.answer (space off : Nat) (data : Bytes) (s : State) : State :=
  { s with reads := { tick := s.tick, space := space, off := off, data := data } :: s.reads }

/-- A field of a stored register. -/
def State.fld (s : State) (f : Fld) : Nat := s.regs.fld f

/-- A one-bit field of a stored register. -/
def State.flag (s : State) (f : Fld) : Bool := s.regs.fld f == 1

/-- Set a field of a stored register. -/
def State.setFld (f : Fld) (v : Nat) (s : State) : State := { s with regs := s.regs.setFld f v }

/-- Set a status bit: the hardware set wins over a clear (corners of chapter 0). -/
def State.see (f : Fld) (s : State) : State := s.setFld f 1

/-- A stored register. -/
def State.rd (s : State) (off : Nat) : Nat := s.regs.rd off

/-- Store a register. -/
def State.wr (off v : Nat) (s : State) : State := { s with regs := s.regs.wr off v }

/-- Count an event in a register that wraps at 2^32. -/
def State.inc (off : Nat) (s : State) : State := s.wr off ((s.rd off + 1) % 2 ^ 32)

/-- Count n events. -/
def State.incBy (off n : Nat) (s : State) : State := s.wr off ((s.rd off + n) % 2 ^ 32)

/-- Raise a register to a value, saturating at 2^32 − 1. -/
def State.raise (off v : Nat) (s : State) : State := s.wr off (max (s.rd off) (sat32 v))

/-- A 64-bit register pair. -/
def State.rd64 (s : State) (lo hi : Nat) : Nat := s.rd lo + 2 ^ 32 * s.rd hi

/-- Set several status bits. -/
def State.seeAll (fs : List Fld) (s : State) : State := fs.foldl (fun s f => s.see f) s

/-- The next free value's index, and the state that has used it. -/
def State.draw (s : State) : Nat × State := (s.free, { s with free := s.free + 1 })

/-! ### Folios -/

/-- Folio n. -/
def State.folio (s : State) (n : Nat) : Folio := Sparse.get (fun _ => .blank) s.ldg.folios n

/-- Replace folio n. -/
def State.setFolio (n : Nat) (f : Folio) (s : State) : State :=
  { s with ldg := { s.ldg with folios := Sparse.set (fun _ => .blank) s.ldg.folios n f } }

/-- Change folio n. -/
def State.updFolio (n : Nat) (g : Folio → Folio) (s : State) : State := s.setFolio n (g (s.folio n))

/-- What the device holds for stream n beside its folio. -/
def State.frun (s : State) (n : Nat) : FRun := Sparse.get (fun _ => .zero) s.ldg.runs n

/-- Replace it. -/
def State.setRun (n : Nat) (r : FRun) (s : State) : State :=
  { s with ldg := { s.ldg with runs := Sparse.set (fun _ => .zero) s.ldg.runs n r } }

/-- Change it. -/
def State.updRun (n : Nat) (g : FRun → FRun) (s : State) : State := s.setRun n (g (s.frun n))

/-- The handle of a stream (Table 11.8). -/
def handleOf (folio gen : Nat) : Nat := gen * 2 ^ 16 + folio

/-- The folio index of a handle. -/
def hFolio (h : Nat) : Nat := h % 2 ^ 16

/-- The generation of a handle. -/
def hGen (h : Nat) : Nat := h / 2 ^ 16 % 256

/-- Every folio that anything has written, with its index. -/
def State.folios (s : State) : List (Nat × Folio) := s.ldg.folios

/-- Folios on the free list (LDG_FREE). -/
def Ledger.freeCount (l : Ledger) : Nat := 65536 - l.fresh + l.returned.length

/-- The head of the free list, and the list without it (R70). -/
def Ledger.pop (l : Ledger) : Option (Nat × Ledger) :=
  if l.fresh < 65536 then some (l.fresh, { l with fresh := l.fresh + 1 })
  else match l.returned with
    | n :: ns => some (n, { l with returned := ns })
    | [] => none

/-- Folio n joins the tail of the free list (R70). -/
def Ledger.push (n : Nat) (l : Ledger) : Ledger := { l with returned := l.returned ++ [n] }

/-- Live folios (LDG_LIVE). -/
def State.liveCount (s : State) : Nat := (s.ldg.folios.filter fun p => p.2.state.live).length

/-! ### The chain (R336, R337) -/

/-- c comes before d in the chain: earlier tick, then lower rank of R337, then lower place within the rank. -/
def Col.before (c d : Col) : Bool := lexLt [c.tick, c.rank, c.sub] [d.tick, d.rank, d.sub]

/-- A Colophon put into a chain held newest first, after every one that is not to follow it (R337). -/
def insertCol (c : Col) : List Col → List Col
  | [] => [c]
  | d :: ds => if c.before d then d :: insertCol c ds else c :: d :: ds

/-- The SEQ that a Colophon put in now takes: one more than the Colophons before it. -/
def colSeqOf (c : Col) : List Col → Nat
  | [] => 1
  | d :: ds => if c.before d then colSeqOf c ds else ds.length + 2

/-- HEAD: the SEQ of the newest Colophon, 0 for an empty chain. -/
def State.headSeq (s : State) : Nat := s.chain.length

/-- A Colophon enters the chain (R336). -/
def State.enter (c : Col) (s : State) : State := { s with chain := insertCol c s.chain }

/-! ### Ports and the send queues -/

/-- Port p. -/
def State.port (s : State) (p : Nat) : Port := Sparse.get (fun _ => .blank) s.ports p

/-- Change port p. -/
def State.updPort (p : Nat) (f : Port → Port) (s : State) : State :=
  { s with ports := Sparse.upd (fun _ => .blank) s.ports p f }

/-- STATE of SPN_PORT_p_STATUS: 0 DISABLED, 1 DOWN, 2 TRAINING, 3 UP, 4 RETRAINING. -/
def State.portState (s : State) (p : Nat) : Nat := s.fld (F.SPN_PORT_STATUS_STATE p)

/-- Put a message in a port's send queue in the present tick (R288, R289). It is sent as flits while the port is UP,
waits for a fast retrain to end, and goes nowhere on a port that is down. -/
def State.send (dst : Endp) (vc tag status : Nat) (body : MsgBody) (s : State) : State :=
  let m : OutMsg := { tick := s.tick, dst := dst, vc := vc, tag := tag, status := status, body := body }
  let s := { s with out := m :: s.out }
  if s.portState dst.port = 3 then s.updPort dst.port (Port.push s.now m)
  else if s.portState dst.port = 4 then
    s.updPort dst.port fun p => { p with queue := p.queue ++ m.flits p.nextMsg, nextMsg := p.nextMsg + 1 }
  else s

/-- The virtual channel of a message (Table 11.7); FOLIO_END is given where it is sent. -/
def MsgBody.vc : MsgBody → Nat
  | .hello .. | .caps .. | .heartbeat .. | .detach .. | .roster .. => 0
  | .pfTokens .. | .kvEvict .. | .ftFetch .. | .ftFree .. => 1
  | .kvPage .. | .kvEnd .. | .decBind .. | .ftStore .. => 3
  | _ => 2

/-- Partner n. -/
def State.partner (s : State) (n : Nat) : Partner := s.parts.get n

/-- Change partner n. -/
def State.updPartner (n : Nat) (f : Partner → Partner) (s : State) : State :=
  { s with parts := s.parts.put n (f (s.parts.get n)) }

/-- Send to a partner, when it is in ATTACHED or CLOSING. -/
def State.sendTo (n tag status : Nat) (body : MsgBody) (s : State) : State :=
  if (s.partner n).state.on then s.send (s.partner n).at_ body.vc tag status body else s

/-- The TAG of the device's next request, and the state that has used it. -/
def State.nextTag (s : State) : Nat × State := ((Config.tagNo s.free).toNat, { s with free := s.free + 1 })

/-- The number and record of the partner attached (or closing) at an endpoint. -/
def State.sender (s : State) (e : Endp) : Option (Nat × Partner) := (s.parts.at? e).map fun n => (n, s.partner n)

/-! ### Items and backlogs -/

/-- The queue position of a resource in `Adm.backlog`: quire, channel, resource; the chip has one TSU (R45). -/
def backlogKey (quire : Nat) (c : Chan) (r : Res) : Nat :=
  let rn := match r with | .twe => 0 | .amt => 1 | .ama => 2 | .xl => 3 | .tsu => 4
  if rn = 4 then 1000 else quire * 16 + (match c with | .inp => 0 | .outp => 8) + rn

/-- B_r of a quire and channel. -/
def Adm.b (a : Adm) (quire : Nat) (c : Chan) (r : Res) : Nat := Sparse.get (fun _ => 0) a.backlog (backlogKey quire c r)

/-- Set it. -/
def Adm.setB (quire : Nat) (c : Chan) (r : Res) (v : Nat) (a : Adm) : Adm :=
  { a with backlog := Sparse.set (fun _ => 0) a.backlog (backlogKey quire c r) v }

/-- The booked cost of an item on a resource. -/
def Item.cost (i : Item) (r : Res) : Nat := sumOf (·.2) (i.costs.filter fun p => p.1 == r)

/-- Lower a backlog by an item's remaining cost on r (R45, R81). -/
def Adm.unbook (i : Item) (r : Res) (a : Adm) : Adm :=
  a.setB i.quire i.chan r (a.b i.quire i.chan r - i.cost r)

/-- Take back all of an item's remaining costs (R81). -/
def Adm.unbookAll (i : Item) (a : Adm) : Adm := i.costs.foldl (fun a p => a.setB i.quire i.chan p.1 (a.b i.quire i.chan p.1 - p.2)) a

/-- The admitted item with this serial number. -/
def State.item? (s : State) (id : Nat) : Option Item := s.adm.live.find? fun i => i.id == id

/-- Change an admitted item. -/
def State.updItem (id : Nat) (g : Item → Item) (s : State) : State :=
  { s with adm := { s.adm with live := updateWhere (fun i => i.id == id) g s.adm.live } }

/-- An item's work on r is done: its booked cost leaves the backlog (R45). -/
def State.finishRes (id : Nat) (r : Res) (s : State) : State :=
  match s.item? id with
  | none => s
  | some i =>
    { s with adm := { s.adm.unbook i r with
        live := updateWhere (fun j => j.id == id) (fun j => { j with costs := j.costs.filter fun p => p.1 != r })
          s.adm.live } }

/-- The items of a folio among those admitted, in admission order. -/
def State.liveOf (s : State) (n : Nat) : List Item := s.adm.live.filter fun i => i.folio == n

/-- Whether the tag of an item still names its live stream (R81, R150, R214, R245). -/
def State.current (s : State) (i : Item) : Bool :=
  (s.folio i.folio).gen == i.gen && (s.folio i.folio).state.live

end Sys2Proof.Machine
end

