-- ==== Sys2Proof/Machine/Colophon.lean ====
section
/-!
DEFINITION. Colophons: the bytes of each kind (Tables 13.2 to 13.8), how one enters the chain (R336 to R338, R348), and
the seals (R339 to R344).
-/
namespace Sys2Proof.Machine

/-! ### Bytes -/

/-- KIND of Table 13.3. -/
def ColBody.kind : ColBody → Nat
  | .inBlock .. => 1 | .inFinal .. => 2 | .outToken .. => 3 | .cancel .. => 4 | .pause .. => 5 | .resume .. => 6
  | .expire .. => 7 | .fault .. => 8 | .gathering .. => 9 | .seal0 .. => 10 | .seal1 .. => 10

/-- A SEAL Colophon, either part. -/
def Col.isSeal (c : Col) : Bool := c.body.kind == 10

/-- The item part of Table 13.4 from 0x20, after the folio prefix. -/
def ColItem.bytes (it : ColItem) : Bytes :=
  le 8 it.tRel ++ le 4 it.wait ++ le 4 it.dlLate ++ le 8 it.verFirst ++ le 8 it.verLast ++ le 4 it.relSeq ++ le 4 it.pos

/-- The bytes from 0x18 (Tables 13.4 to 13.8). -/
def Col.bodyBytes (c : Col) : Bytes :=
  let pre (cert rerun : Nat) : Bytes := le 4 c.handle ++ le 2 c.tenant ++ le 1 cert ++ le 1 rerun
  match c.body with
  | .inBlock it v src n q bl bls chain =>
    pre it.cert it.rerun ++ it.bytes ++ le 1 v ++ le 1 src ++ le 1 n ++ le 1 q ++ le 2 bl ++ le 2 bls ++ padTo 32 chain
  | .inFinal it v pl chain held =>
    pre it.cert it.rerun ++ it.bytes ++ le 1 v ++ zeros 3 ++ le 4 pl ++ padTo 32 chain ++ le 4 held
  | .outToken it tok ch m rule r w dig =>
    pre it.cert it.rerun ++ it.bytes ++ le 4 tok ++ le 1 ch ++ le 1 m ++ le 2 rule ++ le 8 r ++ le 8 w ++ padTo 32 dig
  | .cancel tl rs as_ orl ps ca p lo dr fr =>
    pre 0 0 ++ le 8 tl ++ le 4 rs ++ le 4 as_ ++ le 4 orl ++ le 1 ps ++ le 1 ca ++ le 1 p ++ le 1 lo ++ le 4 dr ++ le 4 fr
  | .pause te ttl rs np pf ft => pre 0 0 ++ le 8 te ++ le 4 ttl ++ le 4 rs ++ le 4 np ++ le 4 pf ++ le 1 ft
  | .resume tp rs np pg d ft => pre 0 0 ++ le 8 tp ++ le 4 rs ++ le 4 np ++ le 4 pg ++ le 1 d ++ le 1 ft
  | .expire te tp ttl rs fr ft => pre 0 0 ++ le 8 te ++ le 8 tp ++ le 4 ttl ++ le 4 rs ++ le 4 fr ++ le 1 ft
  | .fault ce bl q e st tr rs as_ =>
    pre 0 0 ++ le 1 ce ++ le 1 bl ++ le 1 q ++ le 1 e ++ le 4 st ++ le 8 tr ++ le 4 rs ++ le 4 as_
  | .gathering pg r gf di do_ pi po ms fw b v d =>
    le 4 pg ++ le 1 r ++ le 1 gf ++ zeros 2 ++ le 2 di ++ le 2 do_ ++ le 2 pi ++ le 2 po ++ le 4 ms ++ le 4 fw ++
      padTo 16 b ++ le 8 v ++ padTo 48 d
  | .seal0 fs n tr ke v d => le 8 fs ++ le 4 n ++ le 1 tr ++ zeros 3 ++ le 4 ke ++ zeros 4 ++ le 8 v ++ padTo 48 d
  | .seal1 ss r sg => le 8 ss ++ padTo 48 r ++ padTo 48 sg

/-- The 128 bytes of a Colophon with its SEQ (Table 13.2). -/
def Col.bytes (seq : Nat) (c : Col) : Bytes :=
  padTo 128 (le 8 seq ++ le 8 c.tick ++ le 1 c.body.kind ++ le 1 c.status ++ le 2 c.flags ++ le 4 c.gather ++ c.bodyBytes)

/-- H_n of a chain held newest first, from H_0 (R336). -/
def headOf (h0 : Bytes) : List Col → Bytes
  | [] => h0
  | c :: cs => sha384 (headOf h0 cs ++ c.bytes (cs.length + 1))

/-- UNIT_ID as a byte string. -/
def unitIdBytes : Bytes := be 16 Config.unitId.toNat

/-- H_0 = SHA-384(UNIT_ID ‖ CHAIN_ID) (R336). -/
def State.h0 (s : State) : Bytes := sha384 (unitIdBytes ++ s.col.chainId)

/-- The chain head H_n after entry n; n = HEAD gives the present head. -/
def State.headAt (s : State) (n : Nat) : Bytes := headOf s.h0 (s.chain.drop (s.chain.length - n))

/-- Entry n of the chain, n from 1. -/
def State.entry? (s : State) (n : Nat) : Option Col :=
  if n = 0 || s.chain.length < n then none else s.chain[s.chain.length - n]?

/-! ### Entering the chain -/

/-- Ranks of R337 within a tick. -/
def rankGather : Nat := 1
def rankItem : Nat := 2
def rankFault : Nat := 3
def rankCancel : Nat := 4
def rankPause : Nat := 5
def rankResume : Nat := 6
def rankExpire : Nat := 7
def rankSeal1 : Nat := 8
def rankSeal0 : Nat := 9

/-- STOP begins when HEAD − TAIL exceeds 786,432 (R348). -/
def State.checkStop (s : State) : State :=
  if 786432 < s.headSeq - s.col.tail && !s.flag F.COL_STATUS_STOP then
    ((s.see F.COL_STATUS_STOP).see F.COL_STATUS_STOP_SEEN).inc R.COL_STOP_COUNT
  else s

/-- A Colophon of this tick, rank and place enters the chain; after the loss of the seal key it carries NO_KEY
(R344), and it can begin STOP. -/
def State.colophon (tick rank sub status flags gather handle tenant : Nat) (body : ColBody) (s : State) : State :=
  let fl := flags + (if s.flag F.COL_STATUS_KEY_OK then 0 else 32)
  (s.enter { tick := tick, rank := rank, sub := sub, status := status, flags := fl, gather := gather, handle := handle,
             tenant := tenant, body := body }).checkStop

/-- The SEQ that a Colophon of this tick, rank and place takes now. -/
def State.nextSeq (s : State) (tick rank sub : Nat) : Nat :=
  colSeqOf { tick := tick, rank := rank, sub := sub, status := 0, flags := 0, gather := 0, handle := 0, tenant := 0,
             body := .seal1 0 [] [] } s.chain

/-- The newest Colophon that names a folio: LAST_COL_SEQ of Table 3.2. -/
def lastColSeq (folio : Nat) : List Col → Nat
  | [] => 0
  | c :: cs =>
    if c.body.kind ≤ 8 && 1 ≤ c.handle + 1 && hFolio c.handle == folio && !c.isSeal then cs.length + 1
    else lastColSeq folio cs

/-! ### Seals -/

/-- SEQ of the last part 0 of the chain, and the number of Colophons newer than it that are not SEAL; 0 as SEQ
when there is none. -/
def lastPart0 : List Col → Nat × Nat
  | [] => (0, 0)
  | c :: cs =>
    match c.body with
    | .seal0 .. => (cs.length + 1, 0)
    | _ => let r := lastPart0 cs; (r.1, r.2 + if c.isSeal then 0 else 1)

/-- Tick of the last part 0, or when the chain started (R339). -/
def lastPart0Tick (start : Nat) : List Col → Nat
  | [] => start
  | c :: cs =>
    match c.body with
    | .seal0 .. => c.tick
    | _ => lastPart0Tick start cs

/-- Part 0 of a seal enters with this TRIGGER: 0 count, 1 timer, 2 host, 3 warm reset (R332, R339). -/
def State.sealPart0 (trigger : Nat) (s : State) : State :=
  let p := lastPart0 s.chain
  let s := s.colophon s.tick rankSeal0 0 0 0 (s.fld F.DKL_GATHER_ID_ID) 0 0
    (.seal0 (p.1 + 1) p.2 trigger s.col.keyEpoch s.ama.ver s.ama.digest)
  ({ s with col := { s.col with pendingSig := some 0, hostReq := false, warmReq := false } }).see F.COL_STATUS_SEAL_PENDING

/-- The count trigger holds (R339). -/
def State.sealCount (s : State) : Bool := 4096 ≤ (lastPart0 s.chain).2

/-- The timer trigger holds (R339). -/
def State.sealTimer (s : State) : Bool :=
  1 ≤ (lastPart0 s.chain).2 && 1000000 ≤ s.now - lastPart0Tick s.col.startAt s.chain

/-- A host request triggers a seal: something new, or the last part 0 has no valid part 1 (R339). -/
def State.sealHost (s : State) : Bool :=
  s.col.hostReq && (1 ≤ (lastPart0 s.chain).2 || ((lastPart0 s.chain).1 != 0 && s.col.lastSeal != (lastPart0 s.chain).1))

/-- Seals can be made: the key is there and no part 1 is pending (R339, R344). -/
def State.canSeal (s : State) : Bool := s.flag F.COL_STATUS_KEY_OK && s.col.pendingSig.isNone

/-- The seal triggers at the end of a tick with no part 1 pending: warm reset, count, timer, host in this order; a
host request that finds nothing to cover is dropped (R339, R349). -/
def State.sealIfDue (s : State) : State :=
  if !s.canSeal then s
  else if s.col.warmReq && 1 ≤ (lastPart0 s.chain).2 then s.sealPart0 3
  else if s.sealCount then s.sealPart0 0
  else if s.sealTimer then s.sealPart0 1
  else if s.sealHost then s.sealPart0 2
  else { s with col := { s.col with hostReq := false, warmReq := false } }

/-- The 96-byte message that a seal signs (R340): part 0 at SEQ q with tick t. -/
def State.sealMessage (s : State) (q t : Nat) : Bytes :=
  unitIdBytes ++ s.col.chainId ++ le 8 q ++ le 8 t ++ s.headAt q

/-- Part 1 enters: signed, or UNSEALED with zero signature fields (R340, R341). -/
def State.sealPart1 (q : Nat) (ok : Bool) (r sg : Bytes) (s : State) : State :=
  let s := s.colophon s.tick rankSeal1 0 (if ok then 0 else 0x31) 64 (s.fld F.DKL_GATHER_ID_ID) 0 0
    (.seal1 q (if ok then r else zeros 48) (if ok then sg else zeros 48))
  let s := (s.setFld F.COL_STATUS_SEAL_PENDING 0)
  let s := { s with col := { s.col with pendingSig := none, lastSeal := if ok then q else s.col.lastSeal } }
  if ok then s.inc R.COL_SEAL_COUNT else s.see F.COL_STATUS_UNSEALED_SEEN

end Sys2Proof.Machine
end

