-- ==== Sys2Proof/Machine/Streams.lean ====
section
/-!
DEFINITION. The life of a stream as the other chapters use it: which partners are bound (R75), notices (R289), the
dropping and freeing of pages (R83), the end of a folio (R71, R74, R81), orphaning (R310) and return to FREE (R70).
-/
namespace Sys2Proof.Machine

/-- Send a message of the device's own (not a reply) to a partner, under the device's next TAG. -/
def State.post (n status : Nat) (body : MsgBody) (s : State) : State :=
  let r := s.nextTag
  r.2.sendTo n r.1 status body

/-! ### Bound partners (R75) -/

/-- The state that decides which roles a folio has: for a FAULTED folio the one before its fault (R388). -/
def State.roleState (s : State) (n : Nat) : FState :=
  let f := s.folio n
  if f.state = .faulted then ((s.frun n).cens.map (·.prior)).getD .faulted else f.state

/-- The PREFILL partner of a folio in this state is bound. -/
def Folio.pfBound (f : Folio) (st : FState) : Bool := st.live && !f.pfDone && f.verdict != 2 && f.pf != noPartner

/-- The DECODE partner of a folio in this state is bound. -/
def Folio.decBound (f : Folio) (st : FState) : Bool :=
  f.dec != noPartner && (st == .hold || st == .generating || (st == .paused && f.resumeReq))

/-- The FAR_TIER partner of a folio in this state is bound. -/
def Folio.ftBound (f : Folio) (st : FState) : Bool :=
  f.ft != noPartner && ((st == .generating && f.pauseReq) || st == .paused)

/-- The partners bound to a folio, by number, GATEWAY first (R75). -/
def State.boundOf (s : State) (n : Nat) : List Nat :=
  let f := s.folio n
  let st := s.roleState n
  (if st.live then [f.gw] else []) ++ (if f.pfBound st then [f.pf] else []) ++
    (if f.decBound st then [f.dec] else []) ++ (if f.ftBound st then [f.ft] else [])

/-- A partner is bound to a folio. -/
def State.isBound (s : State) (n p : Nat) : Bool := (s.boundOf n).contains p

/-- A folio names a partner number (REFS of R311). -/
def Folio.names (f : Folio) (p : Nat) : Bool := f.gw == p || f.pf == p || f.dec == p || f.ft == p

/-! ### Pages -/

/-- The hold area in use, in units of 4 KiB (SPN_KV_HOLD_USED). -/
def State.holdUsed (s : State) : Nat :=
  sumOf (fun x => sumOf (fun (p : Page) => if p.holds then x.2.pageKib / 4 else 0) x.2.pages) s.ldg.folios

/-- A region of the binding in force (Table 14.7), by kind. -/
def State.region? (s : State) (kind : Nat) : Option Region :=
  s.bnd.cur.bind fun b => b.regions.find? fun r => r.kind == kind

/-- The hold area of the sealed binding in units of 4 KiB (SPN_KV_HOLD_CAP). -/
def State.holdCap (s : State) : Nat := ((s.region? 2).map fun r => r.size / 4096).getD 0

/-- A page of this size can be written to the hold area now (R87). -/
def State.holdFits (s : State) (kib : Nat) : Bool := s.holdUsed + kib / 4 ≤ s.holdCap

/-- Page-list descriptors in use on the chip. -/
def State.descUsed (s : State) : Nat := sumOf (fun x => x.2.descAddrs.length) s.ldg.folios

/-- The SPILL region can supply a descriptor (R85). -/
def State.descFits (s : State) : Bool :=
  128 * (s.descUsed + 1) ≤ ((s.region? 4).map (·.size)).getD 0

/-- A near-tier address that the device chooses in the region of this kind, a multiple of `unit` from the region's start. -/
def State.nearAddr (kind unit : Nat) (s : State) : Nat × State :=
  let x := (Config.nearAddr s.free).toNat
  let r := (s.region? kind).map fun r => r.base + unit * (x % (r.size / unit))
  (r.getD x, { s with free := s.free + 1 })

/-- An address in the hold area for a page, in units of 4 KiB (Table 3.7). -/
def State.holdUnit (s : State) : Nat × State :=
  let a := s.nearAddr 2 4096
  (a.1 / 4096, a.2)

/-- An address for a page-list descriptor (R85): in the SPILL region, a multiple of 128 bytes, of no other descriptor. -/
def State.descAddr (s : State) : Nat × State :=
  let x := (Config.nearAddr s.free).toNat
  let used := s.ldg.folios.flatMap fun f => f.2.descAddrs
  let a := match s.region? 4 with
    | some r => ((List.range (used.length + 1)).map fun j => r.base + 128 * ((x + j) % (r.size / 128))).find? fun a => !used.contains a
    | none => none
  (a.getD x, { s with free := s.free + 1 })

/-- Send FT_FREE for a far-tier handle and wait for its acknowledgement (R293), when the partner is there. -/
def State.sendFree (ft handle : Nat) (s : State) : State :=
  if (s.partner ft).state.on then
    let r := s.nextTag
    let s := r.2.sendTo ft r.1 0 (.ftFree handle)
    { s with parts := { s.parts with
        frees := s.parts.frees ++ [{ partner := ft, tag := r.1, handle := handle, since := s.now }] } }
  else s

/-- The far-tier handles that a page list names: pages on the far tier, and copies left there by a resume. -/
def farHandles (ps : List Page) : List Nat :=
  ps.filterMap fun p => if p.loc = .far then some p.addr else p.farCopy

/-- Pages in the hold area that were not forwarded. -/
def heldCount (ps : List Page) : Nat := (ps.filter fun p => p.loc == .held).length

/-- A page of a folio that has ended or whose pages are dropped: held and far-tier pages become dropped (R83), and no
hold space stays taken (R318). -/
def Page.drop (p : Page) : Page :=
  if p.loc = .held || p.loc = .far then
    { p with loc := .dropped, addr := 0, data := [], holds := false, asked := none, farCopy := none }
  else { p with data := [], holds := false, asked := none, farCopy := none }

/-- Stores of a page list that are unanswered: a late acknowledgement will be freed. -/
def strayStores (ft : Nat) (ps : List Page) : List Stray :=
  ps.filterMap fun p => if p.loc = .held && p.asked.isSome then some { partner := ft, tag := p.tag } else none

/-- Drop and free every page of a folio (R83): held pages are dropped and counted, far-tier pages are freed. -/
def State.dropPages (n : Nat) (s : State) : State :=
  let f := s.folio n
  let s := s.incBy R.SPN_PAGE_DROP_COUNT (heldCount f.pages)
  let s := { s with parts := { s.parts with
      strays := s.parts.strays ++ strayStores f.ft f.pages
      evicts := s.parts.evicts.filter fun e => e.folio != n } }
  let s := (farHandles f.pages).foldl (fun s h => s.sendFree f.ft h) s
  s.updFolio n fun f => { f with pages := f.pages.map Page.drop }

/-! ### Items -/

/-- Items of a folio leave the queues, the engines and the backlogs (R81, R101): slots are freed, remaining booked
costs are taken back, nothing is charged. Booked places at the gate stay booked (R37). -/
def State.dropItems (n : Nat) (s : State) : State :=
  let mine := s.adm.live.filter fun i => i.folio == n
  let gone := ((s.adm.live ++ s.adm.queue).filter fun i => i.folio == n).map (·.id)
  let adm := mine.foldl (fun a i => a.unbookAll i) s.adm
  { s with
    adm := { adm with
      live := adm.live.filter fun i => i.folio != n
      queue := adm.queue.filter fun i => i.folio != n
      holders := adm.holders.filter fun h => !(gone.contains h.2) }
    eng := { s.eng with waitRows := s.eng.waitRows.filter fun w => !(gone.contains w.1) } }

/-! ### Ends -/

/-- The virtual channel of FOLIO_END (R289). -/
def folioEndVc (k : PKind) : Nat :=
  match k with
  | .prefill | .decode => 3
  | _ => 2

/-- FOLIO_END to a partner (R287, R289), when it is attached. -/
def State.sendEnd (p handle relSeq status : Nat) (s : State) : State :=
  if (s.partner p).state.on then
    let r := s.nextTag
    r.2.send (s.partner p).at_ (folioEndVc (s.partner p).kind) r.1 status (.folioEnd handle relSeq s.tick)
  else s

/-- Queued pages of a stream toward its DECODE partner are not sent (R83). -/
def State.stopForward (n : Nat) (s : State) : State :=
  let f := s.folio n
  if f.dec = noPartner then s
  else s.updPort (s.partner f.dec).at_.port (Port.dropPages (handleOf n f.gen))

/-- A folio leaves its live state: work dropped, pages dropped or freed, notices sent to the bound partners but those
in `skip`, then the state, GEN + 1, END_STATUS and T_END written (R71, R74, R81, R83, R289). -/
def State.endFolio (n : Nat) (st : FState) (status : Nat) (skip : List Nat) (s : State) : State :=
  let f := s.folio n
  let bound := (s.boundOf n).filter fun p => !(skip.contains p)
  let s := ((s.dropItems n).stopForward n).dropPages n
  let s := bound.foldl (fun s p => s.sendEnd p (handleOf n f.gen) f.relSeq status) s
  s.updFolio n fun f => { f with state := st, gen := (f.gen + 1) % 256, endStatus := status, tEnd := s.tick }

/-- A CANCEL Colophon of a folio as it stands before its end (R82, Table 13.6). -/
def State.cancelCol (n status cause partner loss : Nat) (f : Folio) (freed : Nat) (s : State) : State :=
  s.colophon s.tick rankCancel n status 0 (s.fld F.DKL_GATHER_ID_ID) (handleOf n f.gen) f.tenant
    (.cancel f.tLastRel f.relSeq f.admSeq f.outRel f.state.code cause partner loss (heldCount f.pages) freed)

/-- How many far-tier pages FT_FREE is sent for. -/
def State.freedCount (s : State) (f : Folio) : Nat :=
  if (s.partner f.ft).state.on then (farHandles f.pages).length else 0

/-- A folio becomes ORPHANED (Table 3.4, R310): T_CACK at this tick, END_STATUS 0x22, the CANCEL Colophon. `partner`
is the lost partner and `loss` the reason of R308. -/
def State.orphan (n partner loss : Nat) (s : State) : State :=
  let f := s.folio n
  let freed := s.freedCount f
  let s := s.endFolio n .orphaned 0x22 (if loss = 0 then [] else [partner])
  let s := s.updFolio n fun f => { f with tCack := s.tick }
  let s := s.cancelCol n 0x22 2 partner loss f freed
  (s.inc R.LDG_ORPHAN_COUNT).see F.LDG_STATUS_ORPHAN_SEEN

/-- A folio returns to FREE and joins the tail of the free list (R70, R78); its counts and running state are freed
(R256). END_STATUS and the other fields stay until it is allocated again. -/
def State.freeFolio (n : Nat) (s : State) : State :=
  let s := s.updFolio n fun f => { f with state := .free, pages := [], descAddrs := [] }
  let s := s.setRun n .zero
  { s with ldg := s.ldg.push n }

/-! ### Commands and messages toward a stream -/

/-- STOP, tamper and limp refusals of REQ_OPEN, REQ_PAUSE and REQ_RESUME (R348, R425, R448); none when there is none.
-/
def State.gateRefuse (s : State) : Option Nat :=
  if s.sec.tamper then some 0x30
  else if s.flag F.COL_STATUS_STOP then some 0x2B
  else none

/-- A message is refused: counted and REJECT_SEEN set on its port (R285). -/
def State.countReject (port : Nat) (s : State) : State :=
  (s.inc (R.SPN_PORT_REJECT_COUNT port)).see (F.SPN_PORT_STATUS_REJECT_SEEN port)

/-- REJECT of a message of this TYPE and TAG that names a handle or 0 (R285, R286). -/
def State.reject (src : Endp) (type tag handle status : Nat) (s : State) : State :=
  (s.countReject src.port).send src 2 tag status (.reject type tag handle)

/-- A message is dropped and counted (R285, R286). -/
def State.dropMsg (port : Nat) (s : State) : State := s.inc (R.SPN_PORT_DROP_COUNT port)

/-- A message from its sender: dropped when the endpoint is not attached, rejected with 0x15 when the kind is not one
that Table 11.7 allows (R285 steps 2 and 3), else given to its owner with the sender's number. -/
def State.fromPartner (src : Endp) (kinds : List PKind) (refuse : State → State) (f : Nat → State → State) (s : State) :
    State :=
  match s.sender src with
  | none => s.dropMsg src.port
  | some (n, p) => if kinds.contains p.kind then f n s else refuse s

end Sys2Proof.Machine
end

