-- ==== Sys2Proof/Machine/Layout.lean ====
section
/-!
DEFINITION. The byte layouts that the host reads: a folio (Tables 3.2 and 3.3) and a page-list descriptor (Tables 3.6
and 3.7).
-/
namespace Sys2Proof.Machine

/-- FLAGS of Table 3.3. -/
def Folio.flags (f : Folio) : Nat :=
  b2n f.promptEnd + 2 * b2n f.gateOpen + 4 * b2n f.pauseReq + 8 * b2n f.resumeReq + 16 * b2n f.hasDeadline +
    32 * b2n f.pfDone

/-- PAGES_HELD: pages that take hold space (Table 12.4). -/
def Folio.pagesHeld (f : Folio) : Nat := (f.pages.filter (·.holds)).length

/-- PAGES_FAR: pages on the far tier. -/
def Folio.pagesFar (f : Folio) : Nat := (f.pages.filter fun p => p.loc == .far).length

/-- The 512 bytes of a folio (Table 3.2). LAST_COL_SEQ is given by the chain. -/
def Folio.bytes (lastCol : Nat) (f : Folio) : Bytes :=
  let head := le 1 f.state.code ++ le 1 f.gen ++ le 2 f.flags ++ le 2 f.tenant ++ le 1 f.priority ++ le 1 f.verdict ++
    le 4 f.gatherOpen ++ le 4 f.gatherLast ++ le 1 f.gw ++ le 1 f.pf ++ le 1 f.dec ++ le 1 f.ft ++ le 4 f.gwHandle ++
    le 4 f.relSeq ++ le 4 f.admSeq ++ le 4 f.promptLen ++ le 4 f.nextPos ++ le 4 f.maxOut ++ le 1 f.withheld ++
    le 1 f.endStatus ++ le 1 f.census ++ zeros 1 ++ le 4 f.censusStep ++ le 4 f.lateItems
  let times := le 8 f.seed ++ le 8 f.tOpen ++ le 8 f.deadline ++ le 8 f.tLastRel ++ le 8 f.tCack ++ le 8 f.tExpire ++
    le 4 f.ttlS ++ le 4 f.dlMisses ++ le 8 f.waitSum ++ le 4 f.lateMax ++ le 4 f.blocksRel ++ padTo 32 f.prefixHash ++
    le 8 f.screenPtr ++ le 8 f.countPtr ++ padTo 16 f.selectParams ++ le 4 f.lastToken ++ le 4 f.outRel ++
    le 8 f.tPause ++ le 8 f.tEnd ++ zeros 40
  let pages := le 8 (f.descAddrs.head?.getD 0) ++ le 8 (f.descAddrs.getLast?.getD 0) ++ le 4 f.pagesHeld ++
    le 4 (f.pagesFwd % 2 ^ 32) ++ le 4 f.pagesFar ++ le 2 f.pageKib ++ zeros 2 ++ zeros 208
  padTo 512 (head ++ times ++ pages ++ le 8 lastCol ++ zeros 8)

/-- The bytes of folio n as the host reads them (R68, R69). -/
def State.folioBytes (s : State) (n : Nat) : Bytes := (s.folio n).bytes (lastColSeq n s.chain)

/-- A page entry (Table 3.7). -/
def Page.word (p : Page) : Nat :=
  let loc := match p.loc with | .held => 0 | .fwd => 1 | .far => 2 | .dropped => 3
  let addr := match p.loc with | .held | .far => p.addr | _ => 0
  loc * 2 ^ 62 + p.no % 2 ^ 22 * 2 ^ 40 + addr % 2 ^ 40

/-- Descriptor i of a page list (Table 3.6): fourteen entries each, in order of arrival. -/
def Folio.descBytes (n : Nat) (f : Folio) (i : Nat) : Bytes :=
  let es := (f.pages.drop (14 * i)).take 14
  padTo 128 (le 8 (f.descAddrs[i + 1]?.getD 0) ++ le 1 es.length ++ le 1 f.gen ++ le 2 n ++ le 2 f.pageKib ++ zeros 2 ++
    es.flatMap fun p => le 8 p.word)

end Sys2Proof.Machine
end

