-- ==== Sys2Proof/Machine/Ingress.lean ====
section
/-!
DEFINITION. Items before admission: slots (R96), blocks and their hashes (R115, R116), the end item (R40), and the
occupancy of the channels (R112).
-/
namespace Sys2Proof.Machine

/-- A new item of a folio, in its queue from t. -/
def Item.fresh (id folio gen tenant : Nat) (c : Chan) (k : ItemKind) (t : Nat) : Item :=
  { id := id, folio := folio, gen := gen, tenant := tenant, chan := c, kind := k, phase := .filling, slot := true,
    tokens := [], cands := [], body := [], tArr := t, bypass := 0, retried := false, admNo := 0, tAdm := 0, tRel := 0,
    gather := 0, quire := 0, profile := 0, openPosture := false, costs := [], prevHash := zeros 32, hash := zeros 32,
    probe := none, hitEnt := none, source := .computed, copying := false, fetched := false, work := .zero, cls := [],
    srchPos := 0, srchTab := 0, srchDone := false, incomplete := false, verFirst := none, verLast := 0, casc := none,
    masks := [], fv := none, accs := [], ensLeft := false, countFull := false, result := none, blocker := 0xFFFF,
    blockers := 0, doneAt := none, snap := none, late := false }

/-- Slots of a channel's pool (Table 4.1). -/
def poolSize (c : Chan) : Nat := match c with | .inp => 131072 | .outp => 32768

/-- Slots in use in a channel. -/
def Adm.slots (a : Adm) (c : Chan) : Nat := (a.queue.filter fun i => i.slot && i.chan == c).length

/-- Slots that a tenant holds in a channel. -/
def Adm.tenantSlots (a : Adm) (c : Chan) (tenant : Nat) : Nat :=
  (a.queue.filter fun i => i.slot && i.chan == c && i.tenant == tenant).length

/-- TENANT_CAP of a channel. -/
def State.tenantCap (s : State) (c : Chan) : Nat :=
  s.fld (match c with | .inp => F.ADM_CHAN_IN_TENANT_CAP | .outp => F.ADM_CHAN_OUT_TENANT_CAP)

/-- R96: k more slots are free in the pool and fit within the tenant's share. -/
def State.slotsFit (s : State) (c : Chan) (tenant k : Nat) : Bool :=
  s.adm.slots c + k ≤ poolSize c && (k = 0 || s.adm.tenantSlots c tenant + k ≤ s.tenantCap c)

/-- A message refused with 0x25 QUEUE_FULL is counted (R96). -/
def State.queueFull (s : State) : State := (s.see F.ADM_STATUS_QUEUE_FULL_SEEN).inc R.ADM_REFUSE_COUNT

/-- Occupancy O of a channel (R112). -/
def State.occ (s : State) (c : Chan) : Nat := s.adm.slots c * 1024 / poolSize c

/-- Put an item at the end of the queue; its number is the next serial number. -/
def State.enqueue (i : Item) (s : State) : State :=
  { s with adm := { s.adm with queue := s.adm.queue ++ [{ i with id := s.adm.nextId }], nextId := s.adm.nextId + 1 } }

/-- Change the block of a folio that is filling. -/
def State.updFilling (n : Nat) (g : Item → Item) (s : State) : State :=
  { s with adm := { s.adm with
      queue := updateWhere (fun i => i.folio == n && i.phase == .filling && i.chan == .inp) g s.adm.queue } }

/-- The block being filled enters its tenant's queue: H_k is computed for 64 tokens, and the CHAIN of Table 13.5 for
fewer (R115, R116). -/
def State.closeBlock (n : Nat) (s : State) : State :=
  let r := s.frun n
  match s.adm.queue.find? fun i => i.folio == n && i.phase == .filling && i.chan == .inp with
  | none => s
  | some i =>
    let h := chainHash r.hash i.tokens
    let s := s.updFilling n fun i => { i with phase := .queued, tArr := s.now, prevHash := r.hash, hash := h }
    s.updRun n fun r => { r with blocks := r.blocks + 1, hash := if i.tokens.length = 64 then h else r.hash }

/-- One prompt token arrives for a folio: it starts a block, fills one, or completes one with 64 tokens. -/
def State.takeToken (n tok : Nat) (s : State) : State :=
  let f := s.folio n
  let r := s.frun n
  let s := if f.promptLen % 64 = 0
    then s.enqueue (.fresh 0 n f.gen f.tenant .inp (.block (r.blocks + 1)) s.now) else s
  let s := s.updFilling n fun i => { i with tokens := i.tokens ++ [tok] }
  let s := s.updRun n fun r => { r with prompt := r.prompt ++ [tok] }
  let s := s.updFolio n fun f => { f with promptLen := f.promptLen + 1, nextPos := f.nextPos + 1 }
  if (f.promptLen + 1) % 64 = 0 then s.closeBlock n else s

/-- Blocks that k more tokens start (R96). -/
def newBlocks (promptLen k : Nat) : Nat := ceilDiv (promptLen + k) 64 - ceilDiv promptLen 64

/-- The item of block k of a folio, wherever it stands before its release. -/
def State.blockItem (s : State) (n k : Nat) : Option Item :=
  (s.adm.queue ++ s.adm.live).find? fun i => i.folio == n && i.kind == .block k

/-- R39 and R40 at an accepted REQ_END: which item carries IN_FINAL. -/
def State.placeEnd (n : Nat) (s : State) : State :=
  let f := s.folio n
  if f.promptLen % 64 ≠ 0 then
    let s := s.closeBlock n
    s.updRun n fun r => { r with endBlock := some r.blocks }
  else
    let k := (s.frun n).blocks
    let stands : Bool := match s.blockItem n k with
      | some i => i.phase == .queued || i.late || s.tick < i.tRel
      | none => false
    if stands then s.updRun n fun r => { r with endBlock := some k }
    else
      let i := Item.fresh 0 n f.gen f.tenant .inp .endItem s.tick
      s.enqueue { i with phase := .queued, slot := false, hash := (s.frun n).hash }

end Sys2Proof.Machine
end

