-- ==== Sys2Proof/Machine/Handoff.lean ====
section
/-!
DEFINITION. The cache handoff and the far-tier moves (R83 to R87, R90 to R92, R292, R293, R314 to R327): what each page
message does to a folio's page list, and what follows from it.
-/
namespace Sys2Proof.Machine

/-! ### Page lists -/

/-- The page of this number in a list. -/
def pageNo? (ps : List Page) (no : Nat) : Option Page := ps.find? fun p => p.no == no

/-- Change one page of a folio. -/
def State.updPage (n no : Nat) (g : Page → Page) (s : State) : State :=
  s.updFolio n fun f => { f with pages := updateWhere (fun p => p.no == no) g f.pages }

/-- Append a page to a folio's list, held in the hold area, with a new descriptor after every fourteenth entry (R85). -/
def State.appendPage (n no : Nat) (data : Bytes) (s : State) : State :=
  let a := s.holdUnit
  let s := a.2
  let s := if (s.folio n).pages.length % 14 = 0 then
      let d := s.descAddr
      d.2.updFolio n fun f => { f with descAddrs := f.descAddrs ++ [d.1] }
    else s
  s.updFolio n fun f => { f with pages := f.pages ++
    [{ no := no, loc := .held, addr := a.1, data := data, holds := true, sent := false, asked := none, tag := 0,
       farCopy := none }] }

/-- Space for one more page of this size: the hold area, and the SPILL region when the entry needs a descriptor. -/
def State.pageFits (s : State) (n kib : Nat) (newEntry : Bool) : Bool :=
  s.holdFits kib && (!newEntry || (s.folio n).pages.length % 14 != 0 || s.descFits)

/-! ### Forwarding to the DECODE partner -/

/-- The folio may send pages to its DECODE partner: the gate is open and no pause holds it back (R86, R325, R388). -/
def Folio.forwards (f : Folio) : Bool :=
  f.gateOpen && (f.state == .hold || (f.state == .generating && !f.pauseReq) || (f.state == .paused && f.resumeReq))

/-- Send one held page to the DECODE partner (R86, R317); a store of it that is unanswered will be freed (R325). -/
def State.forwardOne (n : Nat) (p : Page) (s : State) : State :=
  let f := s.folio n
  let s := s.post f.dec 0 (.kvPage (handleOf n f.gen) p.no f.pageKib p.data)
  let s := if p.asked.isSome then
      { s with parts := { s.parts with strays := s.parts.strays ++ [{ partner := f.ft, tag := p.tag }] } } else s
  let s := s.updPage n p.no fun p => { p with loc := .fwd, addr := 0, sent := true, asked := none }
  (s.updRun n fun r => { r with fwdN := r.fwdN + 1 }).inc R.SPN_PAGE_FWD_COUNT

/-- Forward held pages in entry order, up to the first page that is still on the far tier (R86, R324, R325). -/
def State.forwardList (n : Nat) : List Page → State → State
  | [], s => s
  | p :: ps, s =>
    match p.loc with
    | .held => State.forwardList n ps (s.forwardOne n p)
    | .far => s
    | _ => State.forwardList n ps s

/-- KV_END once every page is forwarded and PF_DONE is 1, or the folio has no PREFILL partner (R317, R324). -/
def State.maybeKvEnd (n : Nat) (s : State) : State :=
  let f := s.folio n
  let r := s.frun n
  if !r.endSent && (f.pfDone || f.pf = noPartner) && !(f.pages.any fun p => p.loc == .held || p.loc == .far) then
    (s.post f.dec 0 (.kvEnd (handleOf n f.gen) r.fwdN)).updRun n fun r => { r with endSent := true }
  else s

/-- A folio with DEC_PARTNER none drops its held pages (R319). -/
def State.dropHeld (n : Nat) (s : State) : State :=
  let k := heldCount (s.folio n).pages
  (s.incBy R.SPN_PAGE_DROP_COUNT k).updFolio n fun f =>
    { f with pages := f.pages.map fun p => if p.loc = .held then p.drop else p }

/-- Forward what can be forwarded, and close the stream when it is complete (R86, R317, R319, R325). -/
def State.forward (n : Nat) (s : State) : State :=
  let f := s.folio n
  if !f.forwards then s
  else if f.dec = noPartner then s.dropHeld n
  else (s.forwardList n f.pages).maybeKvEnd n

/-- DEC_BIND before the first page of a forwarding (R292): `pages` to follow that the device holds now. -/
def State.decBind (n pages : Nat) (s : State) : State :=
  let f := s.folio n
  (s.post f.dec 0 (.decBind (handleOf n f.gen) f.nextPos pages f.pageKib)).updRun n fun r =>
    { r with fwdN := 0, endSent := false }

/-- A folio enters HOLD (Table 12.4 steps 3 to 5): the gate opens; with a DECODE partner in COOLING the orphaning of
R312 is due in the next tick, with none the pages are dropped. -/
def State.enterHold (n : Nat) (s : State) : State :=
  let s := s.updFolio n fun f => { f with state := .hold, verdict := 1, gateOpen := true }
  let f := s.folio n
  if f.dec = noPartner then s.forward n
  else if !(s.partner f.dec).state.on then
    { s with parts := { s.parts with orphanAt := s.parts.orphanAt ++ [(s.tick + 10, n, f.gen)] } }
  else (s.decBind n f.pagesHeld).forward n

/-! ### The pause move -/

/-- No item of the folio is admitted and not yet released or withheld. -/
def State.noneAdmitted (s : State) (n : Nat) : Bool := !(s.adm.live.any fun i => i.folio == n)

/-- KV_EVICT after the last admitted item is gone (Table 3.8 step 3). -/
def State.maybeEvict (n : Nat) (s : State) : State :=
  let f := s.folio n
  if f.state = .generating && f.pauseReq && s.noneAdmitted n && !(s.parts.evicts.any fun e => e.folio == n) then
    let s := s.post f.dec 0 (.kvEvict (handleOf n f.gen))
    { s with parts := { s.parts with
        evicts := s.parts.evicts ++ [{ folio := n, since := s.now, returned := 0, ended := false }] } }
  else s

/-- Unanswered FT_STORE or FT_FETCH messages of a page list. -/
def askedCount (ps : List Page) : Nat := (ps.filter fun p => p.asked.isSome).length

/-- Send FT_STORE for one held page (R321). -/
def State.storeOne (n : Nat) (p : Page) (s : State) : State :=
  let f := s.folio n
  let r := s.nextTag
  let s := r.2.sendTo f.ft r.1 0 (.ftStore (handleOf n f.gen) p.no f.pageKib p.data)
  s.updPage n p.no fun p => { p with asked := some s.now, tag := r.1 }

/-- Send FT_STORE for held pages in order, at most 16 unanswered per folio (R321): during the pause move the pages
that the DECODE partner returned, while PAUSED every held page (R325). -/
def State.storeList (n limit : Nat) : List Page → State → State
  | [], s => s
  | p :: ps, s =>
    if 16 ≤ askedCount (s.folio n).pages then s
    else if p.loc = .held && p.asked.isNone && p.no < limit then State.storeList n limit ps (s.storeOne n p)
    else State.storeList n limit ps s

/-- Store what may be stored now. -/
def State.storePages (n : Nat) (s : State) : State :=
  let f := s.folio n
  match s.parts.evicts.find? fun e => e.folio == n with
  | some e => s.storeList n e.returned f.pages
  | none => if f.state = .paused && !f.resumeReq then s.storeList n (2 ^ 22) f.pages else s

/-- The eviction of a folio is over. -/
def State.endEvict (n : Nat) (s : State) : State :=
  { s with parts := { s.parts with evicts := s.parts.evicts.filter fun e => e.folio != n } }

/-- The pause completes (Table 3.4, Table 3.8 step 5, R322): KV_END to the DECODE partner, PAUSED, the PAUSE Colophon,
PAUSE_DONE, and the held PREFILL pages go to the far tier (R325). -/
def State.pauseComplete (n : Nat) (s : State) : State :=
  let f := s.folio n
  let h := handleOf n f.gen
  let stored := ((s.parts.evicts.find? fun e => e.folio == n).map (·.returned)).getD 0
  let s := (s.post f.dec 0 (.kvEnd h stored)).endEvict n
  let te := s.tick + f.ttlS * 1000000000
  let s := s.updFolio n fun f =>
    { f with state := .paused, pauseReq := false, tPause := s.tick, tExpire := te, dec := noPartner }
  let f := s.folio n
  let s := s.colophon s.tick rankPause n 0 0 (s.fld F.DKL_GATHER_ID_ID) h f.tenant
    (.pause te f.ttlS f.relSeq f.nextPos f.pagesFar f.ft)
  (s.post f.gw 0 (.pauseDone h s.tick te)).storePages n

/-- The pause completes when KV_END has come and every returned page is stored (R322). -/
def State.maybePaused (n : Nat) (s : State) : State :=
  match s.parts.evicts.find? fun e => e.folio == n with
  | some e =>
    if e.ended && !((s.folio n).pages.any fun p => p.loc == .held && p.no < e.returned) then s.pauseComplete n else s
  | none => s

/-- A page of a failed pause: a returned page is the DECODE partner's again. -/
def Page.unreturn (returned : Nat) (p : Page) : Page :=
  if p.no < returned && (p.loc = .held || p.loc = .far) then
    { p with loc := .fwd, addr := 0, data := [], holds := false, asked := none, sent := true }
  else p

/-- The pause fails (R293, R322, R323): the stored pages are freed, the DECODE partner keeps its copy and stays bound,
PAUSE_DONE carries the status. -/
def State.pauseFail (n status : Nat) (s : State) : State :=
  let f := s.folio n
  let h := handleOf n f.gen
  let k := ((s.parts.evicts.find? fun e => e.folio == n).map (·.returned)).getD 0
  let s := (farHandles (f.pages.filter fun p => p.no < k)).foldl (fun s a => s.sendFree f.ft a) s
  let s := { s with parts := { s.parts with strays := s.parts.strays ++ strayStores f.ft f.pages } }
  let s := (s.endEvict n).updFolio n fun f => { f with pauseReq := false, pages := f.pages.map (Page.unreturn k) }
  let s := s.decBind n 0
  let s := s.post f.gw status (.pauseDone h f.tPause f.tExpire)
  ((s.inc R.SPN_EVICT_FAIL_COUNT).see F.SPN_PARTNER_STATUS_EVICT_FAIL_SEEN).forward n

/-! ### The resume move -/

/-- Send FT_FETCH for far-tier pages in entry order, at most 16 unanswered per folio (R324). -/
def State.fetchList (n : Nat) : List Page → State → State
  | [], s => s
  | p :: ps, s =>
    if 16 ≤ askedCount (s.folio n).pages then s
    else if p.loc = .far && p.asked.isNone then
      let r := s.nextTag
      let s := r.2.sendTo (s.folio n).ft r.1 0 (.ftFetch p.addr)
      State.fetchList n ps (s.updPage n p.no fun p => { p with asked := some s.now, tag := r.1 })
    else State.fetchList n ps s

/-- The resume completes (Table 3.4, Table 3.8 step 8): GENERATING, the RESUME Colophon, far-tier copies freed,
RESUME_DONE. -/
def State.resumeComplete (n : Nat) (s : State) : State :=
  let f := s.folio n
  let h := handleOf n f.gen
  let s := s.colophon s.tick rankResume n 0 0 (s.fld F.DKL_GATHER_ID_ID) h f.tenant
    (.resume f.tPause f.relSeq f.nextPos (s.frun n).fwdN f.dec f.ft)
  let s := (farHandles f.pages).foldl (fun s a => s.sendFree f.ft a) s
  let s := s.updFolio n fun f =>
    { f with state := .generating, resumeReq := false, pages := f.pages.map fun p => { p with farCopy := none } }
  s.post f.gw 0 (.resumeDone h s.tick)

/-- The move completes when no page is on the far tier and every fetched page is acknowledged (R324). -/
def State.maybeResumed (n : Nat) (s : State) : State :=
  let f := s.folio n
  if f.state = .paused && f.resumeReq && !(f.pages.any fun p => p.loc == .far || (p.farCopy.isSome && p.holds)) then
    s.resumeComplete n
  else s

/-- Fetch, forward, and complete a resume as far as it goes. -/
def State.resumeStep (n : Nat) (s : State) : State :=
  let f := s.folio n
  if f.state = .paused && f.resumeReq then ((s.fetchList n f.pages).forward n).maybeResumed n else s

/-! ### Page messages in order (R87) -/

/-- What a refused page message gets (R285): a REJECT of its TYPE. -/
def State.rejectPage (m : PageMsg) (status : Nat) (s : State) : State :=
  s.reject m.src (if m.isEnd then 0x41 else 0x40) m.tag m.handle status

/-- A folio's state accepts pages from its PREFILL partner: a live state, or FAULTED (R388). -/
def State.pfSender (s : State) (n p : Nat) : Bool :=
  (s.folio n).pf == p && (s.folio n).pfBound (s.roleState n)

/-- A KV_PAGE from a PREFILL partner (R315, R86, R325); none while there is no space for it. -/
def State.pfPage (m : PageMsg) (p : Nat) (s : State) : Option State :=
  let n := hFolio m.handle
  let f := s.folio n
  if !s.pfSender n p || m.kib ≠ f.pageKib || m.no ≠ f.pages.length then some (s.rejectPage m 0x15)
  else if !s.pageFits n m.kib true then none
  else
    let s := (s.appendPage n m.no m.data).inc R.SPN_PAGE_IN_COUNT
    some (if f.state = .paused && !f.resumeReq then s.storePages n else s.forward n)

/-- A KV_PAGE that a DECODE partner returns in an eviction (R320, R321). -/
def State.decPage (m : PageMsg) (p : Nat) (s : State) : Option State :=
  let n := hFolio m.handle
  let f := s.folio n
  match s.parts.evicts.find? fun e => e.folio == n with
  | none => some (s.rejectPage m 0x15)
  | some e =>
    let known := (pageNo? f.pages m.no).isSome
    let ok := f.dec = p && f.state = .generating && !e.ended && m.no = e.returned &&
      (f.pageKib = 0 || m.kib = f.pageKib) && (known || f.pfDone || f.pf = noPartner)
    if !ok then some (s.rejectPage m 0x15)
    else if !s.pageFits n m.kib (!known) then none
    else
      let s := s.updFolio n fun f => { f with pageKib := m.kib }
      let s := if known then
          let a := s.holdUnit
          a.2.updPage n m.no fun p => { p with loc := .held, addr := a.1, data := m.data, holds := true, asked := none }
        else s.appendPage n m.no m.data
      let s := { s with parts := { s.parts with
          evicts := updateWhere (fun e => e.folio == n) (fun e => { e with returned := e.returned + 1 }) s.parts.evicts } }
      some (s.storePages n)

/-- A KV_END from a PREFILL partner (R316): it may complete a page stream. -/
def State.pfEnd (m : PageMsg) (p : Nat) (s : State) : State :=
  let n := hFolio m.handle
  if !s.pfSender n p || m.no ≠ (s.folio n).pages.length then s.rejectPage m 0x15
  else (s.updFolio n fun f => { f with pfDone := true }).forward n

/-- A KV_END from a DECODE partner ends an eviction (R320). -/
def State.decEnd (m : PageMsg) (p : Nat) (s : State) : State :=
  let n := hFolio m.handle
  match s.parts.evicts.find? fun e => e.folio == n with
  | none => s.rejectPage m 0x15
  | some e =>
    if (s.folio n).dec ≠ p || e.ended || m.no ≠ e.returned then s.rejectPage m 0x15
    else
      let s := { s with parts := { s.parts with
          evicts := updateWhere (fun e => e.folio == n) (fun e => { e with ended := true }) s.parts.evicts } }
      s.maybePaused n

/-- The firmware runs in limp mode (R425). -/
def State.limp (s : State) : Bool := s.flag F.EPD_STATE_LIMP

/-- One page message, in the order of R285; none when it must wait for space (R87). -/
def State.pageMsg (m : PageMsg) (s : State) : Option State :=
  match s.sender m.src with
  | none => some (s.dropMsg m.src.port)
  | some (p, pr) =>
    if pr.kind ≠ .prefill && pr.kind ≠ .decode then some (s.rejectPage m 0x15)
    else if s.limp then some (s.rejectPage m 0x32)
    else if hGen m.handle ≠ (s.folio (hFolio m.handle)).gen then some (s.rejectPage m 0x21)
    else match m.isEnd, pr.kind with
      | false, .prefill => s.pfPage m p
      | false, _ => s.decPage m p
      | true, .prefill => some (s.pfEnd m p)
      | true, _ => some (s.decEnd m p)

/-- Process waiting page messages in order; a message without space holds back its endpoint's stream (R87). -/
def State.drainList : List PageMsg → List Endp → State → State
  | [], _, s => s
  | m :: ms, blocked, s =>
    let keep (s : State) : State := { s with parts := { s.parts with waiting := s.parts.waiting ++ [m] } }
    if blocked.contains m.src then State.drainList ms blocked (keep s)
    else match s.pageMsg m with
      | some s => State.drainList ms blocked s
      | none => State.drainList ms (m.src :: blocked) (keep s)

/-- Take page messages from the receive buffers as far as there is space. -/
def State.drainPages (s : State) : State :=
  if s.parts.waiting.isEmpty then s
  else State.drainList s.parts.waiting [] { s with parts := { s.parts with waiting := [] } }

/-- A page message arrives behind those of its endpoint that wait. -/
def State.pageArrives (m : PageMsg) (s : State) : State :=
  { s with parts := { s.parts with waiting := s.parts.waiting ++ [m] } }.drainPages

end Sys2Proof.Machine
end

