-- ==== Sys2Proof/Machine/Requests.lean ====
section
/-!
DEFINITION. What the requests of GATEWAY and DECODE partners and the host's folio commands do (R70 to R92, R96, R248,
R291). Messages reach these meanings well-formed: R285 step 1 is UNSUPPORTED_MESSAGE's.
-/
namespace Sys2Proof.Machine

/-- The endpoint of a message. -/
def Hdr.src (h : Hdr) : Endp := { port := h.port.val, ep := h.ep.val }

/-- The HANDLE field. -/
def Handle.val (h : Handle) : Nat := handleOf h.folio.toNat h.gen.toNat

/-- The folio index. -/
def Handle.idx (h : Handle) : Nat := h.folio.toNat

/-- The handle's generation is the folio's (R72). -/
def State.genOk (s : State) (h : Handle) : Bool := (s.folio h.idx).gen == h.gen.toNat

/-- The sender is the folio's bound GATEWAY partner (R75). -/
def State.gwOf (s : State) (h : Handle) (p : Nat) : Bool := (s.folio h.idx).gw == p

/-! ### REQ_OPEN -/

/-- Partner p is attached with this kind (R73, R309). -/
def State.attachedAs (s : State) (p : Nat) (k : PKind) : Bool := (s.partner p).state == .attached && (s.partner p).kind == k

/-- The refusals of REQ_OPEN before a folio is taken: R348, R425 and R448, then R73 and R250, then R70. -/
def State.openRefuse (q : OpenReq) (gw : Nat) (s : State) : Option Nat :=
  if s.limp then some 0x32
  else match s.gateRefuse with
    | some st => some st
    | none =>
      if (s.partner gw).state ≠ .attached || 4194304 < q.maxOut.toNat || 1023 < q.tenant.toNat ||
          (q.pf.toNat ≠ noPartner && !s.attachedAs q.pf.toNat .prefill) ||
          (q.dec.toNat ≠ noPartner && !s.attachedAs q.dec.toNat .decode) || selRefused (le 16 q.select.toNat) then some 0x15
      else if s.ldg.freeCount = 0 then some 0x24
      else none

/-- The folio as REQ_OPEN sets it (Table 3.4, R89, R249, R315): GEN is kept (R71), counters are 0. -/
def openedFolio (q : OpenReq) (gw gen gather tick kib countPtr : Nat) : Folio :=
  { Folio.blank with
    state := .admitting, gen := gen, hasDeadline := q.deadlineRel.toNat != 0, tenant := q.tenant.toNat,
    priority := q.priority.val, gatherOpen := gather, gw := gw, pf := q.pf.toNat, dec := q.dec.toNat, ft := noPartner,
    gwHandle := q.gwHandle.toNat, maxOut := q.maxOut.toNat, seed := q.seed.toNat, tOpen := tick,
    deadline := if q.deadlineRel.toNat = 0 then 0 else tick + q.deadlineRel.toNat, countPtr := countPtr,
    selectParams := le 16 q.select.toNat, pageKib := kib }

/-- REQ_OPEN (R70, R73, R89, R250, R315): OPEN_ACK with the handle, or with handle 0 and the refusal. -/
def doReqOpen (h : Hdr) (q : OpenReq) (s : State) : State :=
  s.fromPartner h.src [.gateway] (fun s => (s.countReject h.src.port).send h.src 2 h.tag.toNat 0x15 (.openAck q.gwHandle.toNat 0 0))
    fun gw s =>
      match s.openRefuse q gw with
      | some st =>
        let s := if st = 0x24 then s.see F.LDG_STATUS_FULL_SEEN else s
        (s.countReject h.src.port).send h.src 2 h.tag.toNat st (.openAck q.gwHandle.toNat 0 0)
      | none =>
        match s.ldg.pop with
        | none => s
        | some (n, l) =>
          let a := s.nearAddr 3 8
          let s := { a.2 with ldg := l }
          let gen := (s.folio n).gen
          let kib := if q.pf.toNat = noPartner then 0 else (s.partner q.pf.toNat).caps.pageKib
          let s := s.setFolio n (openedFolio q gw gen (s.fld F.DKL_GATHER_ID_ID) s.tick kib a.1)
          let s := s.setRun n .zero
          s.send h.src 2 h.tag.toNat 0 (.openAck q.gwHandle.toNat (handleOf n gen) s.tick)

/-! ### Prompt messages -/

/-- The prompt may still grow: the bound GATEWAY partner, ADMITTING or SCREEN_IN, PROMPT_END 0 (R77). -/
def State.promptOpen (s : State) (h : Handle) (p : Nat) : Bool :=
  let f := s.folio h.idx
  s.gwOf h p && (f.state == .admitting || f.state == .screenIn) && !f.promptEnd

/-- The largest PROMPT_LEN of a folio (R76). -/
def Folio.promptMax (f : Folio) : Nat := if f.maxOut = 0 then 4194303 else 4194304 - f.maxOut

/-- The refusal of a REQ_TOKENS: R425, R72, then R76 and R77, then the slots of R96. -/
def State.tokensRefuse (h : Handle) (p firstPos k : Nat) (s : State) : Option Nat :=
  let f := s.folio h.idx
  if s.limp then some 0x32
  else if !s.genOk h then some 0x21
  else if !s.promptOpen h p || firstPos ≠ f.promptLen || f.promptMax < f.promptLen + k then some 0x15
  else if !s.slotsFit .inp f.tenant (newBlocks f.promptLen k) then some 0x25
  else none

/-- REQ_TOKENS (R76, R77, R96, R115, R290): taken whole or refused whole. -/
def doReqTokens (hd : Hdr) (h : Handle) (firstPos : Nat) (toks : List (BitVec 20)) (s : State) : State :=
  s.fromPartner hd.src [.gateway] (fun s => s.reject hd.src 0x12 hd.tag.toNat h.val 0x15) fun p s =>
    match s.tokensRefuse h p firstPos toks.length with
    | some st =>
      let s := if st = 0x25 then s.queueFull else s
      s.reject hd.src 0x12 hd.tag.toNat h.val st
    | none =>
      let s := toks.foldl (fun s k => s.takeToken h.idx k.toNat) s
      let f := s.folio h.idx
      if f.pf = noPartner then s
      else s.post f.pf 0 (.pfTokens h.val firstPos false (toks.map (·.toNat)))

/-- REQ_END (R39, R40, R76, R77, R290). -/
def doReqEnd (hd : Hdr) (h : Handle) (s : State) : State :=
  s.fromPartner hd.src [.gateway] (fun s => s.reject hd.src 0x14 hd.tag.toNat h.val 0x15) fun p s =>
    let f := s.folio h.idx
    if s.limp then s.reject hd.src 0x14 hd.tag.toNat h.val 0x32
    else if !s.genOk h then s.reject hd.src 0x14 hd.tag.toNat h.val 0x21
    else if !s.promptOpen h p || f.promptLen = 0 then s.reject hd.src 0x14 hd.tag.toNat h.val 0x15
    else
      let s := s.updFolio h.idx fun f => { f with promptEnd := true }
      let s := s.placeEnd h.idx
      if f.pf = noPartner then s else s.post f.pf 0 (.pfTokens h.val f.promptLen true [])

/-- REQ_ATTR (R291): a later value of an INDEX replaces the earlier one. -/
def doReqAttr (hd : Hdr) (h : Handle) (es : List (BitVec 8 × BitVec 32)) (s : State) : State :=
  s.fromPartner hd.src [.gateway] (fun s => s.reject hd.src 0x13 hd.tag.toNat h.val 0x15) fun p s =>
    let st := (s.folio h.idx).state
    if s.limp then s.reject hd.src 0x13 hd.tag.toNat h.val 0x32
    else if !s.genOk h then s.reject hd.src 0x13 hd.tag.toNat h.val 0x21
    else if !s.gwOf h p || !(st == .admitting || st == .screenIn || st == .hold || st == .generating) then
      s.reject hd.src 0x13 hd.tag.toNat h.val 0x15
    else s.updRun h.idx fun r =>
      { r with attrs := es.foldl (fun m e => Sparse.set (fun _ => none) m e.1.toNat (some e.2.toInt)) r.attrs }

/-! ### Cancels -/

/-- The states that a cancel leaves (Table 3.4). -/
def FState.cancellable (st : FState) : Bool := st.live || st == .faulted

/-- The refusal of a cancel by handle (R72, R84): 0x21 for another generation, 0x15 from a state without the
transition. -/
def State.cancelRefuse (h : Handle) (s : State) : Option Nat :=
  if !s.genOk h then some 0x21
  else if !(s.folio h.idx).state.cancellable then some 0x15
  else none

/-- REL_SEQ and T_CACK of a folio that is CANCELLED from this handle (R84), else 0. -/
def State.cancelEcho (h : Handle) (s : State) : Nat × Nat :=
  let f := s.folio h.idx
  if f.state = .cancelled && f.gen = (h.gen.toNat + 1) % 256 then (f.relSeq, f.tCack) else (0, 0)

/-- A CANCEL_ACK that refuses (R285). -/
def State.cancelNak (src : Endp) (tag : Nat) (h : Handle) (st : Nat) (s : State) : State :=
  let e := s.cancelEcho h
  (s.countReject src.port).send src 2 tag st (.cancelAck h.val e.1 e.2)

/-- A cancel request that passes its checks waits for its commit (R80). -/
def State.askCancel (h : Handle) (b : CancelBy) (s : State) : State :=
  { s with ldg := { s.ldg with
      cancels := s.ldg.cancels ++ [{ folio := h.idx, gen := h.gen.toNat, at_ := s.now, by_ := b }] } }

/-- REQ_CANCEL (R72, R80, R84). -/
def doReqCancel (hd : Hdr) (h : Handle) (s : State) : State :=
  s.fromPartner hd.src [.gateway] (fun s => s.cancelNak hd.src hd.tag.toNat h 0x15) fun p s =>
    if s.limp then s.cancelNak hd.src hd.tag.toNat h 0x32
    else if !s.genOk h then s.cancelNak hd.src hd.tag.toNat h 0x21
    else if !s.gwOf h p then s.cancelNak hd.src hd.tag.toNat h 0x15
    else match s.cancelRefuse h with
      | some st => s.cancelNak hd.src hd.tag.toNat h st
      | none => s.askCancel h (.gateway hd.src hd.tag.toNat)

/-- The cancel of a folio takes effect (Table 3.5, R81 to R83): the folio is CANCELLED at this tick. `skip` is the
GATEWAY partner that receives CANCEL_ACK in place of FOLIO_END (R289). -/
def State.commitCancel (n : Nat) (cause : Nat) (skip : List Nat) (s : State) : State :=
  let f := s.folio n
  let freed := s.freedCount f
  let s := s.endFolio n .cancelled 0x21 skip
  let s := s.updFolio n fun f => { f with tCack := s.tick }
  (s.cancelCol n 0x21 cause noPartner 0 f freed).inc R.LDG_CANCEL_COUNT

/-! ### Pause and resume requests -/

/-- The refusal of REQ_PAUSE (R90), after R348, R425, R448 and R72. -/
def State.pauseRefuse (h : Handle) (p ft ttl : Nat) (s : State) : Option Nat :=
  let f := s.folio h.idx
  if s.limp then some 0x32
  else match s.gateRefuse with
    | some st => some st
    | none =>
      if !s.genOk h then some 0x21
      else if !s.gwOf h p || f.state ≠ .generating || f.pauseReq || f.resumeReq || !s.attachedAs ft .farTier ||
          ttl = 0 || 604800 < ttl then some 0x15
      else none

/-- REQ_PAUSE (R90, Table 3.8 steps 1 to 3). -/
def doReqPause (hd : Hdr) (h : Handle) (ft ttl : Nat) (s : State) : State :=
  let nak (st : Nat) (s : State) : State := (s.countReject hd.src.port).send hd.src 2 hd.tag.toNat st (.pauseAccept h.val)
  s.fromPartner hd.src [.gateway] (nak 0x15) fun p s =>
    match s.pauseRefuse h p ft ttl with
    | some st => nak st s
    | none =>
      let s := s.updFolio h.idx fun f => { f with pauseReq := true, ft := ft, ttlS := ttl }
      (s.send hd.src 2 hd.tag.toNat 0 (.pauseAccept h.val)).maybeEvict h.idx

/-- The refusal of REQ_RESUME, in the order of R92. -/
def State.resumeRefuse (h : Handle) (p dec : Nat) (s : State) : Option Nat :=
  let f := s.folio h.idx
  if s.limp then some 0x32
  else match s.gateRefuse with
    | some st => some st
    | none =>
      if !s.genOk h then some 0x21
      else if f.state ≠ .paused || f.resumeReq || !s.gwOf h p then some 0x15
      else if f.tExpire ≤ s.tick then some 0x23
      else if !s.attachedAs dec .decode then some 0x15
      else none

/-- REQ_RESUME (R92, R292, R324, Table 3.8 steps 6 to 8). -/
def doReqResume (hd : Hdr) (h : Handle) (dec : Nat) (s : State) : State :=
  let nak (st : Nat) (s : State) : State := (s.countReject hd.src.port).send hd.src 2 hd.tag.toNat st (.resumeAccept h.val)
  s.fromPartner hd.src [.gateway] (nak 0x15) fun p s =>
    match s.resumeRefuse h p dec with
    | some st => nak st s
    | none =>
      let s := s.updFolio h.idx fun f => { f with resumeReq := true, tExpire := 0, dec := dec }
      let s := s.send hd.src 2 hd.tag.toNat 0 (.resumeAccept h.val)
      let f := s.folio h.idx
      (s.decBind h.idx (f.pages.filter fun p => p.loc == .far || p.loc == .held).length).resumeStep h.idx

/-! ### CAND_LIST -/

/-- The candidates of a CAND_LIST body (Table 10.3). -/
def candsOf : Nat → Bytes → List Cand
  | 0, _ => []
  | k + 1, bs =>
    { token := fieldAt 0 4 bs % 2 ^ 20, isEnd := bitOf 20 (fieldAt 0 4 bs), logit := fieldAt 4 2 bs } ::
      candsOf k (bs.drop 8)

/-- A reserved bit of a CAND_LIST body is set (Tables 10.2 and 10.3), SPECULATIVE apart. -/
def candRsvd (k : Nat) (bs : Bytes) : Bool :=
  fieldAt 3 1 bs / 2 != 0 || fieldAt 4 4 bs / 2 ^ 22 != 0 || fieldAt 9 7 bs != 0 ||
    (List.range k).any fun i => fieldAt (16 + 8 * i) 4 bs / 2 ^ 21 != 0 || fieldAt (22 + 8 * i) 2 bs != 0

/-- No two elements are equal. -/
def allDistinct : List Nat → Bool
  | [] => true
  | x :: xs => !(xs.contains x) && allDistinct xs

/-- A LOGIT is a NaN or +∞ (R248). -/
def badLogit (l : Nat) : Bool := f32IsNaN (bf16Widen l) || bf16Widen l == f32PInf

/-- The refusal of a CAND_LIST, in the order of R248, then the slot of R96. -/
def State.candRefuse (body : Bytes) (p : Nat) (s : State) : Option Nat :=
  let h : Handle := { folio := BitVec.ofNat 16 (fieldAt 0 2 body), gen := BitVec.ofNat 8 (fieldAt 2 1 body) }
  let f := s.folio h.idx
  let k := fieldAt 8 1 body
  let cs := candsOf k (body.drop 16)
  if s.limp then some 0x32
  else if bitOf 0 (fieldAt 3 1 body) then some 0x14
  else if body.length ≠ 16 + 8 * k || candRsvd k body then some 0x14
  else if !s.genOk h then some 0x21
  else if f.dec ≠ p || !(f.state == .hold || f.state == .generating) || f.pauseReq then some 0x15
  else if fieldAt 4 4 body ≠ f.nextPos || k = 0 || 64 < k || !allDistinct (cs.map (·.token)) ||
      cs.any (fun c => badLogit c.logit) ||
      (s.adm.queue ++ s.adm.live).any (fun i => i.folio == h.idx && i.chan == .outp) then some 0x15
  else if !s.slotsFit .outp f.tenant 1 then some 0x25
  else none

/-- CAND_LIST (R96, R248). -/
def doCandList (hd : Hdr) (body : Bytes) (s : State) : State :=
  let n := fieldAt 0 2 body
  let handle := handleOf n (fieldAt 2 1 body)
  s.fromPartner hd.src [.decode] (fun s => s.reject hd.src 0x30 hd.tag.toNat handle 0x15) fun p s =>
    match s.candRefuse body p with
    | some st =>
      let s := if st = 0x25 then s.queueFull else if st = 0x32 then s
        else (s.inc R.TSU_REJECT_COUNT).see F.TSU_STATUS_REJECT_SEEN
      let s := if st = 0x14 && bitOf 0 (fieldAt 3 1 body) then (s.inc R.TSU_SPEC_COUNT).see F.TSU_STATUS_SPEC_SEEN else s
      s.reject hd.src 0x30 hd.tag.toNat handle st
    | none =>
      let f := s.folio n
      let i := Item.fresh 0 n f.gen f.tenant .outp .cand s.now
      s.enqueue { i with phase := .queued, cands := candsOf (fieldAt 8 1 body) (body.drop 16), body := body }

/-! ### Host folio commands -/

/-- The unit is in tamper lockdown, PROVISIONING included (R449, R453). -/
def State.lockdown (s : State) : Bool := s.fld F.SEC_STATE_MODE != 0

/-- A folio command answers: STATUS and BUSY 0. -/
def State.folioResult (st : Nat) (s : State) : State :=
  (s.setFld F.LDG_FOLIO_RESULT_STATUS st).setFld F.LDG_FOLIO_RESULT_BUSY 0

/-- A folio command is discarded while BUSY is 1, refused in lockdown (R449), else run. -/
def State.folioCmd (f : State → State) (s : State) : State :=
  if s.flag F.LDG_FOLIO_RESULT_BUSY then s
  else if s.lockdown then s.folioResult 0x30
  else f s

/-- LDG_FOLIO_CMD CANCEL (R72, R80): it completes when the cancel commits. -/
def doLdgCancel (h : Handle) (s : State) : State :=
  s.folioCmd fun s =>
    match s.cancelRefuse h with
    | some st => s.folioResult st
    | none => (s.askCancel h .host).setFld F.LDG_FOLIO_RESULT_BUSY 1

/-- The status of RELEASE (R72, R78). -/
def State.releaseStatus (h : Handle) (s : State) : Nat :=
  let st := (s.folio h.idx).state
  if !s.genOk h then 0x21 else if st == .cancelled || st == .done || st == .orphaned then 0 else 0x15

/-- RELEASE of a folio: freed when its status is 0. -/
def State.release (h : Handle) (s : State) : State := if s.releaseStatus h = 0 then s.freeFolio h.idx else s

/-- LDG_FOLIO_CMD RELEASE. -/
def doLdgRelease (h : Handle) (s : State) : State :=
  s.folioCmd fun s => (s.release h).folioResult (s.releaseStatus h)

/-- Store a byte string in consecutive registers, k words from this offset (R501). -/
def State.wrWords (off : Nat) : Nat → Bytes → State → State
  | 0, _, s => s
  | k + 1, bs, s => State.wrWords (off + 4) k (bs.drop 4) (s.wr off (fieldAt 0 4 bs))

/-- LDG_FOLIO_CMD SNAPSHOT (R69): the folio in one tick. -/
def doLdgSnapshot (n : Nat) (s : State) : State :=
  s.folioCmd fun s => (s.wrWords (R.LDG_SNAP 0) 128 (s.folioBytes n)).folioResult 0

/-! ### The scanner (R78, R93, R94) -/

/-- The sweep period in force at a tick, in ns. -/
def State.scanPeriod (s : State) : Nat :=
  1000000 * (match s.ldg.scanPend with | some (p, from_) => if from_ ≤ s.tick then p else s.ldg.scanP | none => s.ldg.scanP)

/-- The scanner visits folio n in this tick (R93). -/
def State.scanDue (n : Nat) (s : State) : Bool :=
  let p := s.scanPeriod
  let start := p * (s.tick / p)
  s.tick == tickUp (start + n * p / 65536)

/-- Expiry of a PAUSED folio (R93, R94): far-tier pages freed, the EXPIRE Colophon, GEN + 1, FREE. -/
def State.expire (n : Nat) (s : State) : State :=
  let f := s.folio n
  let h := handleOf n f.gen
  let freed := s.freedCount f
  let bound := s.boundOf n
  let s := (s.dropItems n).dropPages n
  let s := bound.foldl (fun s p => s.sendEnd p h f.relSeq 0x23) s
  let s := s.colophon s.tick rankExpire n 0x23 0 (s.fld F.DKL_GATHER_ID_ID) h f.tenant
    (.expire f.tExpire f.tPause f.ttlS f.relSeq freed f.ft)
  let s := s.updFolio n fun f => { f with gen := (f.gen + 1) % 256, endStatus := 0x23 }
  ((s.freeFolio n).inc R.LDG_EXPIRE_COUNT).see F.LDG_STATUS_EXPIRED_SEEN

/-- SCANNER_VISIT: expiry (R93) or return to FREE after the retention (R78), when the sweep reaches the folio. -/
def doScannerVisit (n : Nat) (s : State) : State :=
  let f := s.folio n
  let retain := s.fld F.LDG_RETAIN_RETAIN_MS * 1000000
  if !s.scanDue n then s
  else if f.state = .paused && !f.resumeReq && f.tExpire ≤ s.tick then s.expire n
  else if (f.state = .cancelled || f.state = .done || f.state = .orphaned) && retain ≠ 0 && f.tEnd + retain ≤ s.tick then
    s.freeFolio n
  else s

end Sys2Proof.Machine
end

