-- ==== Sys2Proof/Machine/PartnerCmds.lean ====
section
/-!
DEFINITION. Partners: discovery and attachment, heartbeats, closing, loss, the roster (R285, R286, R295 to R313), and
the answers of FAR_TIER and DECODE partners (R318, R321 to R327).
-/
namespace Sys2Proof.Machine

/-! ### Loss (R308, R310) -/

/-- A partner's attachment changed: a ROSTER is due in the next tick (R302). -/
def State.rosterDue (s : State) : State := { s with parts := { s.parts with rosterAfter := insertNat s.tick s.parts.rosterAfter } }

/-- A ROSTER is due in the tick after this one. -/
def State.rosterDueAfter (tick : Nat) (s : State) : State := { s with parts := { s.parts with rosterAfter := insertNat tick s.parts.rosterAfter } }

/-- The loss of partner n with this reason (R310): every live folio bound to it is orphaned in folio index order, the
others bound are told, queued messages are discarded, and the number cools. -/
def State.losePartner (n reason : Nat) (s : State) : State :=
  let p := s.partner n
  if !p.state.on then s
  else
    let bound := (s.ldg.folios.filter fun x => x.2.state.live && s.isBound x.1 n).map (·.1)
    let s := s.updPort p.at_.port (Port.dropFor p.at_.ep)
    let s := if reason = 1 then s.post n 0 (.detach 2) else if reason = 4 then s.post n 0 (.detach 0) else s
    let s := s.updPartner n fun p => { p with state := .cooling, loss := reason, lostAt := s.tick }
    let s := (s.inc R.SPN_LOSS_COUNT).see F.SPN_PARTNER_STATUS_LOSS_SEEN
    (bound.foldl (fun s m => s.orphan m n reason) s).rosterDue

/-- Every partner on a port is lost (R268, R308 cause 3), and attaches under way there end. -/
def State.losePort (port : Nat) (s : State) : State :=
  let ns := (s.parts.table.filter fun x => x.2.state.on && x.2.at_.port == port).map (·.1)
  let s := { s with parts := { s.parts with attaches := s.parts.attaches.filter fun a => a.at_.port != port } }
  ns.foldl (fun s n => s.losePartner n 3) s

/-! ### Discovery and attachment -/

/-- The device's HELLO body (R296). -/
def deviceHello : MsgBody := .hello 5 unitIdBytes

/-- Attaches at an endpoint end. -/
def State.endAttach (e : Endp) (s : State) : State :=
  { s with parts := { s.parts with attaches := s.parts.attaches.filter fun a => a.at_ != e } }

/-- HELLO (R299, R303): an attached endpoint's attachment ends; then KIND and PROTO are checked and an attach starts. -/
def doHello (hd : Hdr) (kind proto : Nat) (unitId : Bytes) (s : State) : State :=
  let s := match s.sender hd.src with
    | some (n, _) => s.losePartner n 5
    | none => s
  match PKind.ofCode kind with
  | some k =>
    if proto ≠ 1 then (s.countReject hd.src.port).send hd.src 0 hd.tag.toNat 0x14 deviceHello
    else
      let s := s.endAttach hd.src
      { s with parts := { s.parts with
          attaches := s.parts.attaches ++ [{ at_ := hd.src, kind := k, unitId := unitId, since := s.now }] } }
  | none => (s.countReject hd.src.port).send hd.src 0 hd.tag.toNat 0x14 deviceHello

/-- The refusal of a CAPS (R300), but for the number. -/
def capsRefuse (k : PKind) (c : Caps) : Option Nat :=
  if (c.pageKib ≠ 0 && !pageKibOk c.pageKib) || c.maxCand = 0 || 64 < c.maxCand then some 0x14
  else if !capsMeet k c then some 0x15
  else none

/-- An accepted CAPS attaches the partner (R301). -/
def State.attach (n : Nat) (a : Attach) (c : Caps) (tag : Nat) (s : State) : State :=
  let s := s.updPartner n fun _ =>
    { Partner.blank with state := .attached, kind := a.kind, at_ := a.at_, unitId := a.unitId, caps := c,
                         tAttach := tickUp s.now }
  let s := (s.inc R.SPN_ATTACH_COUNT).see F.SPN_PARTNER_STATUS_ATTACH_SEEN
  (s.send a.at_ 0 tag 0 deviceCaps).rosterDueAfter (tickUp s.now)

/-- A refused CAPS: the device's CAPS with the status; the attach ends (R300). -/
def State.refuseCaps (hd : Hdr) (st : Nat) (s : State) : State :=
  (s.countReject hd.src.port).send hd.src 0 hd.tag.toNat st deviceCaps

/-- CAPS (R299 to R301). -/
def doCaps (hd : Hdr) (c : Caps) (s : State) : State :=
  match s.parts.attaches.find? fun a => a.at_ == hd.src with
  | none => s.refuseCaps hd 0x15
  | some a =>
    let s := s.endAttach hd.src
    match capsRefuse a.kind c with
    | some st => (s.refuseCaps hd st).see F.SPN_PARTNER_STATUS_ATTACH_FAIL_SEEN
    | none =>
      match s.parts.lowestFree with
      | none => ((s.refuseCaps hd 0x29).see F.SPN_PARTNER_STATUS_FULL_SEEN).see F.SPN_PARTNER_STATUS_ATTACH_FAIL_SEEN
      | some n => s.attach n a c hd.tag.toNat

/-- CAPS_TIMEOUT: no CAPS within 1 ms of the HELLO (R299). -/
def doCapsTimeout (e : Endp) (s : State) : State :=
  match s.parts.attaches.find? fun a => a.at_ == e with
  | some a =>
    if a.since + 1000000 < s.now then (s.endAttach e).see F.SPN_PARTNER_STATUS_ATTACH_FAIL_SEEN else s
  | none => s

/-! ### Heartbeats (R304 to R306) -/

/-- HEARTBEAT (R305, R306). -/
def doHeartbeat (hd : Hdr) (hbSeq : Nat) (s : State) : State :=
  match s.sender hd.src with
  | none => s.dropMsg hd.src.port
  | some (n, p) =>
    let gap := hbSeq ≠ p.hbNext
    let s := s.updPartner n fun p =>
      { p with hbSeen := true, missed := 0, hbNext := (hbSeq + 1) % 2 ^ 32,
               gaps := if gap then (p.gaps + 1) % 2 ^ 32 else p.gaps }
    if gap then s.see F.SPN_PARTNER_STATUS_HB_GAP_SEEN else s

/-- HEARTBEAT_SEND: the next heartbeat toward a partner, every 50 µs from its attach tick (R304). -/
def doHeartbeatSend (n : Nat) (s : State) : State :=
  let p := s.partner n
  if p.state.on && p.tAttach + 50000 * p.hbSent ≤ s.now then
    (s.post n 0 (.heartbeat (p.hbSent % 2 ^ 32) s.now)).updPartner n fun p => { p with hbSent := p.hbSent + 1 }
  else s

/-- HEARTBEAT_WINDOW_END: the end of a partner's present window (R305); at 8 the partner is lost. -/
def doHeartbeatWindowEnd (n : Nat) (s : State) : State :=
  let p := s.partner n
  if p.state.on && p.tAttach + 50000 * (p.windows + 1) ≤ s.now then
    let missed := if p.hbSeen then 0 else p.missed + 1
    let s := s.updPartner n fun p => { p with windows := p.windows + 1, hbSeen := false, missed := missed }
    if 8 ≤ missed then s.losePartner n 1 else s
  else s

/-- DETACH from a partner (R308 cause 2), or from an endpoint whose attach is under way. -/
def doDetach (hd : Hdr) (s : State) : State :=
  match s.sender hd.src with
  | some (n, _) => s.losePartner n 2
  | none => s.endAttach hd.src

/-! ### Host commands and internal events of a partner number -/

/-- SPN_PARTNER_n_CMD CLOSE (R309). -/
def doPartnerClose (n : Nat) (s : State) : State :=
  if (s.partner n).state = .attached then (s.updPartner n fun p => { p with state := .closing }).rosterDue else s

/-- SPN_PARTNER_n_CMD OPEN (R309). -/
def doPartnerOpen (n : Nat) (s : State) : State :=
  if (s.partner n).state = .closing then (s.updPartner n fun p => { p with state := .attached }).rosterDue else s

/-- SPN_PARTNER_n_CMD DETACH (R308 cause 4). -/
def doPartnerDetach (n : Nat) (s : State) : State := s.losePartner n 4

/-- The entries of a ROSTER: every partner in ATTACHED, in number order (R302, Table 11.9). -/
def State.rosterEntries (s : State) : List (List Nat × Bytes) :=
  (s.parts.table.filter fun x => x.2.state == .attached).map fun x =>
    ([x.1, x.2.kind.code, x.2.at_.port, x.2.at_.ep], x.2.unitId)

/-- ROSTER_SEND: in the tick after one with a change, one ROSTER to every GATEWAY partner in ATTACHED or CLOSING (R302). -/
def doRosterSend (s : State) : State :=
  match s.parts.rosterAfter with
  | [] => s
  | t :: rest =>
    if t < s.tick then
      let gws := (s.parts.table.filter fun x => x.2.state.on && x.2.kind == .gateway).map (·.1)
      let es := s.rosterEntries
      let s := { s with parts := { s.parts with rosterAfter := rest } }
      gws.foldl (fun s n => s.post n 0 (.roster es)) s
    else s

/-- REFS of a partner number (R311). -/
def State.refs (s : State) (n : Nat) : Nat := (s.ldg.folios.filter fun x => x.2.state.live && x.2.names n).length

/-- BOUND of a partner number. -/
def State.boundCount (s : State) (n : Nat) : Nat := (s.ldg.folios.filter fun x => x.2.state.live && s.isBound x.1 n).length

/-- PARTNER_COOL_END: back to NONE 10 ms after the loss, once no live folio names the number (R311). -/
def doPartnerCoolEnd (n : Nat) (s : State) : State :=
  let p := s.partner n
  if p.state = .cooling && p.lostAt + 10000000 ≤ s.now && s.refs n = 0 then
    s.updPartner n fun p => { p with state := .none }
  else s

/-- ORPHAN_AT_HOLD: a folio that entered HOLD with its DEC_PARTNER lost is orphaned in the next tick (R312). -/
def doOrphanAtHold (n : Nat) (s : State) : State :=
  match s.parts.orphanAt.find? fun x => x.2.1 == n with
  | none => s
  | some x =>
    if x.1 ≤ s.tick then
      let s := { s with parts := { s.parts with orphanAt := s.parts.orphanAt.filter fun y => y.2.1 != n } }
      let f := s.folio n
      if f.gen = x.2.2 && f.state = .hold then s.orphan n f.dec (s.partner f.dec).loss else s
    else s

/-! ### Malformed messages (R285 step 1, R286) -/

/-- Types that get no REJECT (R286): PAD, HEARTBEAT, REJECT, KV_ACK, FT_STORE_ACK, FT_FREE_ACK, FT_DATA. -/
def noReject (type : Nat) : Bool :=
  type == 0 || type == 3 || type == 0x0F || type == 0x42 || type == 0x51 || type == 0x55 || type == 0x53

/-- Types whose body begins with a HANDLE (Table 11.9, Table 10.2). -/
def handleFirst (type : Nat) : Bool :=
  (decide (0x12 ≤ type) && decide (type ≤ 0x23) && !(decide (0x1D ≤ type) && decide (type ≤ 0x1F))) || type == 0x30 || type == 0x38 ||
    (decide (0x40 ≤ type) && decide (type ≤ 0x44)) || type == 0x50

/-- UNSUPPORTED_MESSAGE: a message that fails R285 step 1. A type that has a reply carries 0x14 in that reply, with
what the body gives of its first field; a type of R286 is dropped and counted. It has no other effect: R248 counts no
CAND_LIST that fails here. -/
def doUnsupportedMessage (hd : Hdr) (type : Nat) (body : Bytes) (s : State) : State :=
  let v := if handleFirst type && decide (4 ≤ body.length) then fieldAt 0 3 body else 0
  if type = 0 then s
  else if noReject type then s.dropMsg hd.src.port
  else
    let answer (vc : Nat) (b : MsgBody) : State := (s.countReject hd.src.port).send hd.src vc hd.tag.toNat 0x14 b
    if type = 0x01 then answer 0 deviceHello
    else if type = 0x02 then answer 0 deviceCaps
    else if type = 0x10 then answer 2 (.openAck (if 4 ≤ body.length then fieldAt 0 4 body else 0) 0 0)
    else if type = 0x15 then answer 2 (.cancelAck v 0 0)
    else if type = 0x17 then answer 2 (.pauseAccept v)
    else if type = 0x1A then answer 2 (.resumeAccept v)
    else s.reject hd.src type hd.tag.toNat v 0x14

/-! ### Pages: arrivals (R315, R316, R320) -/

/-- KV_PAGE from a PREFILL partner, or (KV_PAGE_EVICT) from a DECODE partner: it waits its turn and for space (R87). -/
def doKvPage (hd : Hdr) (h : Handle) (no kib : Nat) (data : Bytes) (s : State) : State :=
  s.pageArrives { src := hd.src, tag := hd.tag.toNat, handle := h.val, isEnd := false, no := no, kib := kib, data := data }

/-- KV_END from a PREFILL or a DECODE partner: behind the pages of its endpoint (R283). -/
def doKvEnd (hd : Hdr) (h : Handle) (pages : Nat) (s : State) : State :=
  s.pageArrives { src := hd.src, tag := hd.tag.toNat, handle := h.val, isEnd := true, no := pages, kib := 0, data := [] }

/-- KV_PAGE_EVICT: a KV_PAGE of a DECODE partner, which returns an evicted page (R320). -/
def doKvPageEvict (hd : Hdr) (h : Handle) (no kib : Nat) (data : Bytes) (s : State) : State := doKvPage hd h no kib data s

/-- KV_END_EVICT: a KV_END of a DECODE partner, which ends the return of evicted pages (R320). -/
def doKvEndEvict (hd : Hdr) (h : Handle) (pages : Nat) (s : State) : State := doKvEnd hd h pages s

/-- KV_ACK (R318, Table 12.4 step 6): hold space is freed; it can complete a resume. -/
def doKvAck (hd : Hdr) (h : Handle) (no : Nat) (s : State) : State :=
  match s.sender hd.src with
  | none => s.dropMsg hd.src.port
  | some (n, _) =>
    let f := s.folio h.idx
    match pageNo? f.pages no with
    | none => s.dropMsg hd.src.port
    | some p =>
      if !s.genOk h || f.dec ≠ n || p.loc ≠ .fwd || !p.holds then s.dropMsg hd.src.port
      else
        let s := s.updPage h.idx no fun p => { p with holds := false, data := [] }
        let s := s.updFolio h.idx fun f => { f with pagesFwd := f.pagesFwd + 1 }
        (s.maybeResumed h.idx).drainPages

/-! ### Far-tier answers (R286, R293, R321 to R326) -/

/-- The folio and page whose unanswered FT_STORE (held page) or FT_FETCH (far page) has this TAG toward partner n. -/
def State.asked? (s : State) (n tag : Nat) (loc : PageLoc) : Option (Nat × Page) :=
  s.ldg.folios.findSome? fun x =>
    if x.2.ft == n then
      (x.2.pages.find? fun p => p.asked.isSome && p.tag == tag && p.loc == loc).map fun p => (x.1, p)
    else none

/-- A store of page `no` failed (R293, R323, R325): in a pause move the pause fails; while PAUSED the folio is
orphaned; once a resume has begun the page is still held here and nothing is lost. -/
def State.storeFailed (n no status : Nat) (s : State) : State :=
  let f := s.folio n
  if f.state = .generating && f.pauseReq then s.pauseFail n status
  else if f.state = .paused && !f.resumeReq then s.orphan n f.ft 0
  else s.updPage n no fun p => { p with asked := none }

/-- FT_STORE_ACK_TIMEOUT: 10 ms without an answer (R293, R323); a later acknowledgement will be freed (R325). -/
def doFtStoreAckTimeout (n no : Nat) (s : State) : State :=
  match pageNo? (s.folio n).pages no with
  | some p =>
    match p.loc, p.asked with
    | .held, some t =>
      if t + 10000000 < s.now then
        let s := s.storeFailed n no 0x2A
        if s.parts.strays.any fun x => x.tag == p.tag then s
        else { s with parts := { s.parts with strays := s.parts.strays ++ [{ partner := (s.folio n).ft, tag := p.tag }] } }
      else s
    | _, _ => s
  | none => s

/-- The first FT_STORE of R326 that no page waits for any more is settled. -/
def State.dropStray (n tag : Nat) (s : State) : State :=
  { s with parts := { s.parts with strays := s.parts.strays.filter fun x => !(x.partner == n && x.tag == tag) } }

/-- FT_STORE_ACK of partner n in time (R321, R325, R326). -/
def State.storeAck (n tag status handle port : Nat) (s : State) : State :=
  if s.parts.strays.any fun x => x.partner == n && x.tag == tag then
    let s := s.dropStray n tag
    if status = 0 then s.sendFree n handle else s
  else
    match s.asked? n tag .held with
    | none => s.dropMsg port
    | some (m, p) =>
      if status ≠ 0 then s.storeFailed m p.no status
      else if (s.folio m).resumeReq then
        (s.updPage m p.no fun p => { p with asked := none }).sendFree n handle
      else
        let s := s.updPage m p.no fun p =>
          { p with loc := .far, addr := handle, data := [], holds := false, asked := none }
        let s := (s.inc R.SPN_FT_STORE_COUNT).storePages m
        (s.maybePaused m).drainPages

/-- FT_STORE_ACK; one that arrives more than 10 ms after its store is a late one (R293). -/
def doFtStoreAck (hd : Hdr) (status handle : Nat) (s : State) : State :=
  match s.sender hd.src with
  | none => s.dropMsg hd.src.port
  | some (n, _) =>
    let s := match s.asked? n hd.tag.toNat .held with
      | some (m, p) => doFtStoreAckTimeout m p.no s
      | none => s
    s.storeAck n hd.tag.toNat status handle hd.src.port

/-- EVICT_KV_END_TIMEOUT: 100 ms after KV_EVICT without KV_END (R323). -/
def doEvictKvEndTimeout (n : Nat) (s : State) : State :=
  match s.parts.evicts.find? fun e => e.folio == n with
  | some e => if !e.ended && e.since + 100000000 < s.now then s.pauseFail n 0x2A else s
  | none => s

/-- FT_FETCH_TIMEOUT: no good FT_DATA within 10 ms orphans the folio (R293). -/
def doFtFetchTimeout (n no : Nat) (s : State) : State :=
  match pageNo? (s.folio n).pages no with
  | some p =>
    match p.loc, p.asked with
    | .far, some t =>
      if t + 10000000 < s.now && (s.folio n).state = .paused then s.orphan n (s.folio n).ft 0 else s
    | _, _ => s
  | none => s

/-- FT_DATA of partner n in time (R324, R326): a page of the folio's size with STATUS 0 goes to the hold area and is
forwarded in entry order; any other is not good data, and the fetch still waits. -/
def State.ftData (n tag status kib port : Nat) (data : Bytes) (s : State) : State :=
  match s.asked? n tag .far with
  | none => s.dropMsg port
  | some (m, p) =>
    if status ≠ 0 || kib ≠ (s.folio m).pageKib then s
    else
      let a := s.holdUnit
      let s := a.2.updPage m p.no fun p =>
        { p with loc := .held, farCopy := some p.addr, addr := a.1, data := data, holds := true, asked := none }
      (s.inc R.SPN_FT_FETCH_COUNT).resumeStep m

/-- FT_DATA; one that comes more than 10 ms after its fetch finds the folio orphaned (R293). -/
def doFtData (hd : Hdr) (status kib : Nat) (data : Bytes) (s : State) : State :=
  match s.sender hd.src with
  | none => s.dropMsg hd.src.port
  | some (n, _) =>
    let s := match s.asked? n hd.tag.toNat .far with
      | some (m, p) => doFtFetchTimeout m p.no s
      | none => s
    s.ftData n hd.tag.toNat status kib hd.src.port data

/-- FT_FREE_ACK (R326). -/
def doFtFreeAck (hd : Hdr) (s : State) : State :=
  match s.sender hd.src with
  | none => s.dropMsg hd.src.port
  | some (n, _) =>
    if s.parts.frees.any fun r => r.partner == n && r.tag == hd.tag.toNat then
      { s with parts := { s.parts with
          frees := s.parts.frees.filter fun r => !(r.partner == n && r.tag == hd.tag.toNat) } }
    else s.dropMsg hd.src.port

/-- FT_FREE_TIMEOUT: the oldest FT_FREE without an answer for 10 ms is given up (R94, R293). -/
def doFtFreeTimeout (s : State) : State :=
  match s.parts.frees with
  | r :: rs =>
    if r.since + 10000000 < s.now then
      { s with parts := { s.parts with frees := rs } }.see F.LDG_STATUS_FT_FREE_LOST_SEEN
    else s
  | [] => s

end Sys2Proof.Machine
end

