-- ==== Sys2Proof/Machine/SpineCmds.lean ====
section
/-!
DEFINITION. The Spine ports: training (R266 to R269), FEC blocks and flits (R270 to R277), credits (R278 to R281).
-/
namespace Sys2Proof.Machine

/-- Ports train: the start has reached the ports, no lockdown (R449), and the power state keeps them (R441). -/
def State.portsOn (s : State) : Bool :=
  (13 ≤ s.fld F.SHL_BOOT_STATUS_STEP || s.flag F.SHL_BOOT_STATUS_READY) && !s.lockdown && s.fld F.PWR_STATE_CURRENT < 2

/-- Set STATE of a port. -/
def State.setPortState (p v : Nat) (s : State) : State := s.setFld (F.SPN_PORT_STATUS_STATE p) v

/-- A full training begins (step 1 of Table 11.3, R268): every partner on the port is lost. -/
def State.fullTrain (p : Nat) (s : State) : State :=
  let s := (s.setPortState p 2).losePort p
  let s := s.updPort p fun q =>
    { q.clearLink with t0 := s.now, rate := s.fld (F.SPN_PORT_CTRL_RATE_64 p), fell := false, failed := 0,
                       limit4 := s.flag (F.SPN_PORT_CTRL_WIDTH_4 p) }
  (s.setFld (F.SPN_PORT_STATUS_EPS p) 0).inc (R.SPN_PORT_TRAIN_COUNT p)

/-- The port becomes DISABLED, with the effects of R268. -/
def State.portDisable (p : Nat) (s : State) : State :=
  let s := (s.setPortState p 0).losePort p
  (s.updPort p Port.clearLink).setFld (F.SPN_PORT_STATUS_EPS p) 0

/-- A fast retrain begins (R269). -/
def State.fastRetrain (p : Nat) (s : State) : State :=
  let s := s.updPort p fun q =>
    { q with retrainAt := s.now, locked := 0, remWidth := 0, dataOn := false, initRx := false, initSeen := false }
  ((s.setPortState p 4).see (F.SPN_PORT_STATUS_RETRAIN_SEEN p)).inc (R.SPN_PORT_RETRAIN_COUNT p)

/-- A write of SPN_PORT_p_CTRL (chapter 11): ENABLE, the limits of the next full training, RETRAIN and FULL_TRAIN. -/
def State.spnCtrl (p v : Nat) (s : State) : State :=
  let was := s.flag (F.SPN_PORT_CTRL_ENABLE p)
  let s := s.wr (R.SPN_PORT_CTRL p) (v % 8)
  if !bitOf 0 v then s.portDisable p
  else if !s.portsOn then s
  else if bitOf 4 v || !was then s.fullTrain p
  else if bitOf 3 v && s.portState p = 3 then s.fastRetrain p
  else s

/-- SPN_PORT_ENABLE: CTRL is written with ENABLE 1. -/
def doSpnPortEnable (p v : Nat) (s : State) : State := s.spnCtrl p (setBitsOf 0 0 1 v)

/-- SPN_PORT_DISABLE: CTRL is written with ENABLE 0. -/
def doSpnPortDisable (p v : Nat) (s : State) : State := s.spnCtrl p (setBitsOf 0 0 0 v)

/-- SPN_FULL_TRAIN: CTRL is written with FULL_TRAIN 1. -/
def doSpnFullTrain (p v : Nat) (s : State) : State := s.spnCtrl p (setBitsOf 4 4 1 v)

/-- SPN_RETRAIN: CTRL is written with RETRAIN 1. -/
def doSpnRetrain (p v : Nat) (s : State) : State := s.spnCtrl p (setBitsOf 3 3 1 v)

/-! ### Training -/

/-- Receive lanes whose LANE_ID is their own number, or 7 minus it (R267, R495). -/
def lanesInOrder (ids : List Nat) (rev : Bool) : Nat :=
  (List.range 8).foldl (fun a i => a + if ids[i]?.getD 255 = (if rev then 7 - i else i) then 2 ^ i else 0) 0

/-- The width and order of step 4: the straight order before the reversed one when they give the same width. -/
def Port.decide (q : Port) : Option (Nat × Bool) :=
  let own := Nat.land q.locked q.eqOk
  let str := chooseWidth (Nat.land (Nat.land own (lanesInOrder q.laneIds false)) q.remWidth) q.limit4
  let rev := chooseWidth (Nat.land (Nat.land own (lanesInOrder q.laneIds true)) (mirror8 q.remWidth)) q.limit4
  match str, rev with
  | some a, some b => if b = 0 && a ≠ 0 then some (b, true) else some (a, false)
  | some a, none => some (a, false)
  | none, some b => some (b, true)
  | none, none => none

/-- The receiver is done with step 3: every locked lane is equalised, and all lanes are locked or 500 µs have passed;
from 1,500 µs on the lanes that are not equalised are given up. -/
def Port.ready (q : Port) (now : Nat) : Bool :=
  (q.locked != 0 && Nat.land q.locked q.eqOk == q.locked && (q.locked == 255 || q.t0 + 500000 ≤ now)) ||
    q.t0 + 1500000 ≤ now

/-- Move one tap of a transmit lane by a two-bit request: 1 increment, 2 decrement. -/
def moveTap (req : Nat) (x : Int) : Int := if req = 1 then x + 1 else if req = 2 then x - 1 else x

/-- The remote's request moves the taps of this lane. -/
def moveTaps (lane req : Nat) (ts : List (Int × Int × Int)) : List (Int × Int × Int) :=
  (List.range 8).map fun i =>
    let t := ts[i]?.getD (0, 0, 0)
    if i = lane then (moveTap (bitsOf 1 0 req) t.1, moveTap (bitsOf 3 2 req) t.2.1, moveTap (bitsOf 5 4 req) t.2.2) else t

/-- What a training block teaches about its lane. -/
def Port.learn (lane : Nat) (b : TrainBlock) (q : Port) : Port :=
  { q with
    locked := Nat.lor q.locked (2 ^ lane)
    eqOk := setBitsOf lane lane (b2n b.serOk) q.eqOk
    laneIds := (List.range 8).map fun i => if i = lane then b.laneId.val else q.laneIds[i]?.getD 255
    remWidth := b.widthOk.toNat, remReady := b2n (b.phase.val == 2)
    taps := moveTaps lane b.eqReq.toNat q.taps }

/-- The lanes in use of a trained port. -/
def State.lanesInUse (s : State) (p : Nat) : Nat :=
  widthMask (if s.flag (F.SPN_PORT_STATUS_WIDTH p) then 1 + s.fld (F.SPN_PORT_STATUS_HALF p) else 0)

/-- Step 4 of Table 11.3, when both ends are ready. -/
def State.setWidth (p : Nat) (s : State) : State :=
  let q := s.port p
  if !(q.ready s.now && q.remReady == 1) then s
  else
    let failed := 255 - Nat.land q.locked q.eqOk
    match q.decide with
    | some (w, rev) =>
      let s := s.updPort p fun q => { q with dataOn := true, failed := failed }
      let s := s.setFld (F.SPN_PORT_STATUS_RATE p) q.rate
      let s := s.setFld (F.SPN_PORT_STATUS_WIDTH p) (b2n (w != 0))
      let s := s.setFld (F.SPN_PORT_STATUS_HALF p) (b2n (w == 2))
      s.setFld (F.SPN_PORT_STATUS_REVERSED p) (b2n rev)
    | none =>
      if q.rate = 0 && !q.fell then
        s.updPort p fun q => { q.clearLink with t0 := s.now, rate := 1, fell := true, failed := failed }
      else s.updPort p fun q => { q with failed := failed }

/-- SPN_TRAINING_BLOCK_RX: a training block arrives on a lane (R266, R267, R269, R495). -/
def doSpnTrainingBlockRx (p lane : Nat) (b : TrainBlock) (s : State) : State :=
  let q := s.port p
  let st := s.portState p
  if st = 2 && !q.dataOn && b.rate.val = q.rate then (s.updPort p (Port.learn lane b)).setWidth p
  else if st = 4 && !q.dataOn then
    let s := s.updPort p fun q => { q with locked := Nat.lor q.locked (2 ^ lane), remWidth := b.widthOk.toNat }
    let q := s.port p
    let use := s.lanesInUse p
    let rem := if s.flag (F.SPN_PORT_STATUS_REVERSED p) then mirror8 q.remWidth else q.remWidth
    if Nat.land q.locked use = use && Nat.land rem use = use then s.updPort p fun q => { q with dataOn := true } else s
  else s

/-- SPN_TRAIN_TIMEOUT: not UP within 2 ms of step 1 (R267). -/
def doSpnTrainTimeout (p : Nat) (s : State) : State :=
  let q := s.port p
  if s.portState p = 2 && q.t0 + 2000000 ≤ s.now then
    let s := s.updPort p fun q => { q.clearLink with downAt := s.now, failed := 255 - Nat.land q.locked q.eqOk }
    (s.setPortState p 1).see (F.SPN_PORT_STATUS_DOWN_SEEN p)
  else s

/-- SPN_DOWN_RESTART: 1 ms after DOWN, while ENABLE is 1 (R267). -/
def doSpnDownRestart (p : Nat) (s : State) : State :=
  if s.portState p = 1 && (s.port p).downAt + 1000000 ≤ s.now && s.flag (F.SPN_PORT_CTRL_ENABLE p) && s.portsOn then
    s.fullTrain p
  else s

/-- SPN_BLOCK_LOCK_LOST: block lock is lost on a lane (R269). -/
def doSpnBlockLockLost (p lane : Nat) (s : State) : State :=
  if s.portState p = 3 && bitOf lane (s.lanesInUse p) then s.fastRetrain p
  else s.updPort p fun q => { q with locked := setBitsOf lane lane 0 q.locked }

/-- SPN_FAST_RETRAIN_TIMEOUT: not UP within 100 µs (R269). -/
def doSpnFastRetrainTimeout (p : Nat) (s : State) : State :=
  if s.portState p = 4 && (s.port p).retrainAt + 100000 ≤ s.now then s.fullTrain p else s

/-! ### Replay (R277) -/

/-- A replay starts from this SEQ; the eighth in a row from one SEQ starts a fast retrain. -/
def State.replay (p from_ : Nat) (s : State) : State :=
  let q := s.port p
  let run := if q.replayFrom = some from_ then q.replayRun + 1 else 1
  let s := s.updPort p fun q =>
    { q with replayFrom := some from_, replayRun := run, ackAt := s.now,
             txCount := (q.txCount + q.unacked.length) % 2 ^ 64 }
  let s := (s.inc (R.SPN_PORT_REPLAY_COUNT p)).see (F.SPN_PORT_STATUS_REPLAY_SEEN p)
  if 8 ≤ run then s.fastRetrain p else s

/-- SPN_REPLAY_TIMEOUT: ACK_SEQ has not advanced for 4 µs while flits are unacknowledged (R277). -/
def doSpnReplayTimeout (p : Nat) (s : State) : State :=
  let q := s.port p
  match q.unacked with
  | [] => s
  | f :: _ => if s.portState p = 3 && q.ackAt + 4000 ≤ s.now then s.replay p f.seq else s

/-! ### FEC blocks and flits -/

/-- The port becomes UP (step 6 of Table 11.3, R281): after a full training HELLO goes to each endpoint (R298); after a
fast retrain every unacknowledged flit is replayed (R269). -/
def State.linkUp (p : Nat) (s : State) : State :=
  let full := s.portState p == 2
  let s := s.setPortState p 3
  if full then
    (List.range (s.fld (F.SPN_PORT_STATUS_EPS p))).foldl (fun s e =>
      let r := s.nextTag
      r.2.send { port := p, ep := e } 0 r.1 0 deviceHello) s
  else
    let s := match (s.port p).unacked with
      | [] => s
      | f :: _ => (s.updPort p fun q => { q with replayFrom := none, replayRun := 0 }).replay p f.seq
    s.updPort p (Port.pump s.now)

/-- Buffer sizes of a CREDIT_INIT (Table 11.6) by stream. -/
def bufSizes (pl : Bytes) : Sparse Nat :=
  let a := fieldAt 4 6 pl
  let b := fieldAt 0xA 6 pl
  let l := [a % 4096, a / 2 ^ 12 % 4096, a / 2 ^ 24 % 4096, b % 4096, b / 2 ^ 12 % 4096, b / 2 ^ 24 % 4096,
    b / 2 ^ 36 % 4096]
  l.zipIdx.foldl (fun m x => setCnt m x.2 x.1) []

/-- A LINK flit (Table 11.6, R269, R281). -/
def State.linkFlit (p : Nat) (pl : Bytes) (s : State) : State :=
  let cmd := fieldAt 0 1 pl
  if cmd = 2 then (if s.portState p = 3 then s.fastRetrain p else s)
  else if cmd = 1 && s.portState p ≠ 3 then
    let seen := bitOf 0 (fieldAt 2 1 pl)
    let fresh := s.portState p = 2 && !(s.port p).initRx
    let s := s.updPort p fun q =>
      { q with initRx := true, initSeen := q.initSeen || seen, credit := if fresh then bufSizes pl else q.credit }
    let s := if fresh then s.setFld (F.SPN_PORT_STATUS_EPS p) (min 4 (fieldAt 1 1 pl)) else s
    if (s.port p).initSeen then s.linkUp p else s
  else s

/-- ACK, NAK and credits of a good flit (R274, R276, R277, R279). -/
def State.takeAck (p : Nat) (f : RxFlit) (s : State) : State :=
  let q := s.port p
  let left := if f.ackValid then dropAcked f.ackSeq q.unacked else q.unacked
  let s := if left.length < q.unacked.length then
      s.updPort p fun q => { q with unacked := left, replayFrom := none, replayRun := 0, ackAt := s.now }
    else s
  let s := s.updPort p (Port.takeCredits f)
  let from_ := if f.ackValid then (f.ackSeq + 1) % 4096 else 0
  let s := if f.nak && !left.isEmpty && (s.port p).replayFrom ≠ some from_ then s.replay p from_ else s
  if s.portState p = 3 then s.updPort p (Port.pump s.now) else s

/-- A DATA flit (R276, R281): taken when it is the next one and there is a credit for it. -/
def State.dataFlit (p : Nat) (f : RxFlit) (s : State) : State :=
  let q := s.port p
  if f.seq ≠ q.rxSeq then s.updPort p fun q => { q with nak := true }
  else
    let st := streamOf f.vc f.dataEp
    if rxBuffer st ≤ cnt q.taken st - cnt q.freed st then
      (s.see (F.SPN_PORT_STATUS_CREDIT_SEEN p)).fullTrain p
    else s.updPort p (Port.accept f)

/-- The port carries data blocks. -/
def State.carries (s : State) (p : Nat) : Bool :=
  let st := s.portState p
  st == 3 || ((st == 2 || st == 4) && (s.port p).dataOn)

/-- One flit of a corrected block (R274, R276). -/
def State.flit (p : Nat) (bs : Bytes) (s : State) : State :=
  if !s.carries p then s
  else if !flitCrcOk bs then
    ((s.updPort p fun q => { q with nak := true }).see (F.SPN_PORT_STATUS_CRC_SEEN p)).inc (R.SPN_PORT_CRC_COUNT p)
  else
    let f := parseFlit bs
    let s := if s.portState p = 2 then s else s.takeAck p f
    if f.kind = 1 then (if s.portState p = 3 then s.dataFlit p f else s)
    else if f.kind = 2 then s.linkFlit p f.payload
    else s

/-- Endpoints of a port whose pages wait for space (R87). -/
def State.stalledEps (s : State) (p : Nat) : List Nat := (s.parts.waiting.filter fun m => m.src.port == p).map (·.src.ep)

/-- SPN_FEC_BLOCK_RX: an FEC block arrives (R271): its corrected symbols in each codeword and its five flits, or none
when a codeword cannot be corrected. -/
def doSpnFecBlockRx (p : Nat) (blk : Option (Nat × Nat × List Bytes)) (s : State) : State :=
  if !s.carries p then s
  else
    let s := s.updPort p (Port.free (s.stalledEps p))
    match blk with
    | none =>
      let s := s.updPort p fun q => { q with nak := true }
      (s.see (F.SPN_PORT_STATUS_FEC_UNCORR_SEEN p)).inc (R.SPN_PORT_FEC_UNCORR_COUNT p)
    | some (a, b, fs) => fs.foldl (fun s f => s.flit p f) (s.incBy (R.SPN_PORT_FEC_CORR_COUNT p) (a + b))

end Sys2Proof.Machine
end

