-- ==== Sys2Proof/Machine/Admission.lean ====
section
/-!
DEFINITION. Admission (chapter 4), the reservation test (R37, R45), the probe of the Prefix Verdict Cache at commit
(R116 to R122, R130, R131), token budgets and the engine balancer.
-/
namespace Sys2Proof.Machine

/-! ### The binding as admission reads it -/

/-- The profile number of a tenant (Table 14.5's TENANT_MAP). -/
def Binding.profileNo (b : Binding) (tenant : Nat) : Nat := Sparse.get (fun _ => 0) b.tenantMap tenant % 1024

/-- The profile record of a tenant under the binding in force. -/
def State.profileOf (s : State) (tenant : Nat) : Option Profile :=
  s.bnd.cur.bind fun b => b.profiles.find? fun p => p.num == b.profileNo tenant

/-- What quire q computes with. -/
def State.qmodel (s : State) (q : Nat) : QModel :=
  s.bnd.models[q]?.getD { cfg := { slots := [], features := [], witness := [] }, mem := [] }

/-- The programmed delay D of a channel in ns (R37). -/
def State.delay (s : State) (c : Chan) : Nat :=
  10 * s.fld (match c with | .inp => F.DKL_DELAY_IN_DELAY | .outp => F.DKL_DELAY_OUT_DELAY)

/-- The factor t of R45 and R51. -/
def State.throttle (s : State) : Nat := if s.flag F.DKL_STATUS_THROTTLE then 2 else 1

/-- Booked costs of an item in quire q, none of them zero (R45, R240, Table 14.10). -/
def State.itemCosts (s : State) (p : Profile) (c : Chan) (q : Nat) : List (Res × Nat) :=
  let l := match c with | .inp => p.inCost | .outp => p.outCost
  let xl := ceilDiv (s.fld (F.QUIRE_XL_RESERVE_PERCENT q) * l[3]?.getD 0) 100
  let all := [(Res.twe, l[0]?.getD 0), (Res.amt, l[1]?.getD 0), (Res.ama, l[2]?.getD 0), (Res.xl, xl)] ++
    (match c with | .inp => [] | .outp => [(Res.tsu, l[4]?.getD 0)])
  all.filter fun x => x.2 != 0

/-- The sum of R45 over a quire. -/
def Adm.pathSum (a : Adm) (q : Nat) (c : Chan) (costs : List (Res × Nat)) : Nat := sumOf (fun x => a.b q c x.1) costs

/-- The quire is in a quire reset (R434). -/
def State.quireResetting (s : State) (q : Nat) : Bool := s.bnd.resetting.any fun x => x.1 == q && s.now < x.2

/-- The quire passes tests of R45: no failed repair (R395), no restore needed (R379) or under way (R378), its
Supervisor not held (R421). -/
def State.quireUsable (s : State) (q : Nat) : Bool :=
  !bitOf q (s.fld F.EPD_STATE_QSV_HELD) && !bitOf q (s.fld F.FLT_REPAIR_FAILED_QUIRES) && !s.bnd.quireOut.contains q && !s.bnd.restoring.contains q &&
    !s.quireResetting q

/-- The quire that admission chooses for an item of this profile (R45, R363): the smallest sum among those that pass,
the lowest number among equals. -/
def State.chooseQuire (s : State) (p : Profile) (c : Chan) : Option Nat :=
  let mask := match c with | .inp => p.inQuires | .outp => p.outQuires
  let path := match c with | .inp => p.inPath | .outp => p.outPath
  let sums := ((List.range 8).filter fun q => bitOf q mask && s.quireUsable q).map fun q => (q, s.adm.pathSum q c (s.itemCosts p c q))
  let pass := sums.filter fun x => s.throttle * x.2 + path ≤ s.delay c
  (minBy (fun a b => a.2 < b.2) pass).map (·.1)

/-! ### Eligibility and heads (R97 to R100) -/

/-- The place of an input item in its folio: block number, the end item last. -/
def Item.order (i : Item) : Nat := match i.kind with | .block k => k | .endItem => 2 ^ 32 | .cand => 0

/-- The item may compete in this tick (R97, R100). -/
def State.eligible (s : State) (i : Item) : Bool :=
  let f := s.folio i.folio
  i.phase == .queued && tickOf i.tArr < s.tick &&
    match i.chan with
    | .inp =>
      (f.state == .admitting || f.state == .screenIn) &&
        !(s.adm.live.any fun j => j.folio == i.folio && j.chan == .inp &&
            (match j.doneAt with | some d => s.tick ≤ tickOf d | none => true)) &&
        !(s.adm.queue.any fun j => j.folio == i.folio && j.chan == .inp && j.order < i.order)
    | .outp =>
      (f.state == .hold || f.state == .generating) && !f.pauseReq &&
        !(s.adm.live.any fun j => j.folio == i.folio && j.chan == .outp) && (s.frun i.folio).elOut ≤ s.tick

/-- The eligible items of a channel. -/
def State.eligibles (s : State) (c : Chan) : List Item := s.adm.queue.filter fun i => i.chan == c && s.eligible i

/-- The head of each tenant (R98), tenants in number order. -/
def State.heads (s : State) (es : List Item) : List Item :=
  (sortNat (es.map Item.tenant)).filterMap fun t =>
    minBy (fun a b => lexLt [7 - (s.folio a.folio).priority, a.tArr, a.folio] [7 - (s.folio b.folio).priority, b.tArr, b.folio])
      (es.filter fun i => i.tenant == t)

/-- Fairness cost of an item (Table 4.1, R40). -/
def Item.fcost (i : Item) : Nat := match i.kind with | .block _ => i.tokens.length | .endItem => 0 | .cand => 1

/-! ### Fairness state -/

/-- The tags of a channel. -/
def Adm.tags (a : Adm) (c : Chan) : Sparse Tag := match c with | .inp => a.tagsIn | .outp => a.tagsOut

/-- Replace the tags of a channel. -/
def Adm.setTags (a : Adm) (c : Chan) (m : Sparse Tag) : Adm :=
  match c with | .inp => { a with tagsIn := m } | .outp => { a with tagsOut := m }

/-- Virtual time of a channel. -/
def Adm.v (a : Adm) (c : Chan) : Nat := match c with | .inp => a.vIn | .outp => a.vOut

/-- Set the virtual time. -/
def Adm.setV (a : Adm) (c : Chan) (v : Nat) : Adm := match c with | .inp => { a with vIn := v } | .outp => { a with vOut := v }

/-- A budget level that nothing has changed: full at the BURST reset value (R107). -/
def fullLevel (c : Chan) (_tenant : Nat) : Nat := match c with | .inp => 0x1000 * 65536 | .outp => 0x100 * 65536

/-- The budget level of a tenant. -/
def Adm.level (a : Adm) (c : Chan) (t : Nat) : Nat :=
  match c with | .inp => Sparse.get (fullLevel .inp) a.levIn t | .outp => Sparse.get (fullLevel .outp) a.levOut t

/-- Set a budget level. -/
def Adm.setLevel (a : Adm) (c : Chan) (t v : Nat) : Adm :=
  match c with
  | .inp => { a with levIn := Sparse.set (fullLevel .inp) a.levIn t v }
  | .outp => { a with levOut := Sparse.set (fullLevel .outp) a.levOut t v }

/-- Cuts of earlier ticks take effect (R107). -/
def Adm.applyCuts (a : Adm) (tick : Nat) : Adm :=
  let due := a.cuts.filter fun x => x.1 < tick
  let a := { a with cuts := a.cuts.filter fun x => !(x.1 < tick) }
  due.foldl (fun a x => a.setLevel x.2.1 x.2.2.1 (min (a.level x.2.1 x.2.2.1) (x.2.2.2 * 65536))) a

/-- Weight of a tenant (R105). -/
def State.weight (s : State) (c : Chan) (t : Nat) : Nat :=
  s.fld (match c with | .inp => F.ADM_TENANT_WEIGHT_WEIGHT_IN t | .outp => F.ADM_TENANT_WEIGHT_WEIGHT_OUT t)

/-- RATE of a tenant (R107). -/
def State.rate (s : State) (c : Chan) (t : Nat) : Nat :=
  s.fld (match c with | .inp => F.ADM_TENANT_RATE_IN_RATE t | .outp => F.ADM_TENANT_RATE_OUT_RATE t)

/-- BURST of a tenant in tokens. -/
def State.burst (s : State) (c : Chan) (t : Nat) : Nat :=
  s.fld (match c with | .inp => F.ADM_TENANT_BURST_BURST_IN t | .outp => F.ADM_TENANT_BURST_BURST_OUT t)

/-- The unlimited rate. -/
def unlimited : Nat := 0xFFFFFF

/-- S_i when a tenant gets an eligible item, and idleness when it has none (R105, R106). -/
def State.refreshTags (s : State) (c : Chan) (tenants : List Nat) : Adm :=
  let a := s.adm
  let a := a.setTags c ((a.tags c).foldl (fun m x =>
    if tenants.contains x.1 then m else Sparse.set (fun _ => .zero) m x.1 { x.2 with active := false }) (a.tags c))
  tenants.foldl (fun a t =>
    let g := Sparse.get (fun _ => .zero) (a.tags c) t
    if g.active then a
    else a.setTags c (Sparse.set (fun _ => .zero) (a.tags c) t { g with s := max (a.v c) g.fLast, active := true })) a

/-- F_i of a head (R105), unsigned 64-bit. -/
def State.finish (s : State) (c : Chan) (i : Item) : Nat :=
  ((Sparse.get (fun _ => .zero) (s.adm.tags c) i.tenant).s + ceilDiv (i.fcost * 65536) (s.weight c i.tenant)) % 2 ^ 64

/-- Fields of a channel's ADM_CHAN register. -/
def State.chanMode (s : State) (c : Chan) : Bool :=
  s.flag (match c with | .inp => F.ADM_CHAN_IN_MODE | .outp => F.ADM_CHAN_OUT_MODE)
def State.chanSpare (s : State) (c : Chan) : Bool :=
  s.flag (match c with | .inp => F.ADM_CHAN_IN_SPARE | .outp => F.ADM_CHAN_OUT_SPARE)
def State.lookahead (s : State) (c : Chan) : Nat :=
  s.fld (match c with | .inp => F.ADM_CHAN_IN_LOOKAHEAD | .outp => F.ADM_CHAN_OUT_LOOKAHEAD)

/-- A head is funded (R108). -/
def State.funded (s : State) (c : Chan) (i : Item) : Bool :=
  s.rate c i.tenant == unlimited || i.fcost * 65536 ≤ s.adm.level c i.tenant

/-- The heads in the channel's order, and whether they run on spare capacity (R105, R108, R109). -/
def State.ranked (s : State) (c : Chan) (hs : List Item) : List Item × Bool :=
  let byArr := sortBy (fun (a b : Item) => lexLt [a.tArr, a.tenant] [b.tArr, b.tenant])
  if s.chanMode c then
    let fs := hs.filter (s.funded c)
    if !fs.isEmpty then (byArr fs, false) else if s.chanSpare c then (byArr hs, true) else ([], false)
  else
    let key (i : Item) : List Nat :=
      [s.finish c i, (Sparse.get (fun _ => .zero) (s.adm.tags c) i.tenant).s, i.tArr, i.tenant]
    (sortBy (fun a b => lexLt (key a) (key b)) hs, false)

/-- Heads that may be offered: while a tenant holds the bypass limit and has a head, only that head (R103). -/
def State.limited (s : State) (c : Chan) (hs : List Item) : List Item :=
  let tenantOf (id : Nat) : Option Nat := (s.adm.queue.find? fun i => i.id == id).map (·.tenant)
  let hold := (s.adm.holders.filter fun h => h.1 == c).filterMap fun h => tenantOf h.2
  match hold.find? fun t => hs.any fun i => i.tenant == t with
  | some t => hs.filter fun i => i.tenant == t
  | none => hs

/-! ### The release tick (R37) -/

/-- Releases booked in a tick. -/
def Dkl.bookedAt (d : Dkl) (t : Nat) : Nat := Sparse.get (fun _ => 0) d.booked t

/-- The first release tick from r on that has a place, tried over n ticks. -/
def Dkl.firstRoom (d : Dkl) : Nat → Nat → Nat
  | 0, r => r
  | n + 1, r => if 16 ≤ d.bookedAt r then Dkl.firstRoom d n (r + 10) else r

/-- The release tick that R37 gives an item whose first choice is tick r. -/
def Dkl.relTick (d : Dkl) (r : Nat) : Nat := d.firstRoom d.booked.length r

/-- Book one release. -/
def Dkl.book (d : Dkl) (r : Nat) : Dkl := { d with booked := Sparse.upd (fun _ => 0) d.booked r (· + 1) }

/-! ### The probe (R117, R118, R121, R130, R131, R136) -/

/-- What the probe of a block gives. -/
inductive ProbeRes where
  | none | miss | hit (key : Nat) (verified : Bool)
  deriving DecidableEq, Repr

/-- The probe of a block under the gathering, tenant epoch and model set now in force. -/
def State.probeOf (s : State) (i : Item) : PvcProbe × Nat :=
  let k := i.order
  let ep := s.pvc.epochAt s.tick i.tenant
  let g := s.fld F.DKL_GATHER_ID_ID
  let key := pvcKey i.tenant ep g s.bnd.msetId k i.hash
  ({ tag := pvcTag key, gather := g, tenant := i.tenant, epoch := ep, modelSet := s.bnd.msetId, blockNo := k }, pvcSet key)

/-- The usable entries after the last seal (R129, PVC_CAP). -/
def State.pvcEntries (s : State) : Nat :=
  match s.bnd.cur with
  | some b => pvcCap (((s.region? 1).map (·.size)).getD 0) b.manifest.snapBytes
  | none => 0

/-- The tenant runs under VERIFY (R130). -/
def State.verifies (s : State) (tenant : Nat) : Bool := bitOf (tenant % 32) (s.rd (R.PVC_VERIFY (tenant / 32)))

/-- Probe the cache for a committed block (R121): `ecc` are ways whose entry reads with an uncorrectable error. The
result is the item and the state after the probe. -/
def State.probeBlock (i : Item) (ecc : List Nat) (s : State) : Item × State :=
  match i.kind with
  | .block _ =>
    let r := s.probeOf i
    let i := if i.tokens.length = 64 then { i with probe := some r.1 } else i
    if i.tokens.length ≠ 64 || !s.flag F.PVC_CTRL_ENABLE then (i, s)
    else
      let s := s.inc R.PVC_PROBE_COUNT
      if s.pvcEntries / 8 ≤ r.2 then (i, s)
      else
        let bad := (waysOf r.2).filter fun k => ecc.contains (k % 8) && (s.pvc.ent k).valid
        let s := if bad.isEmpty then s else
          ({ s with pvc := bad.foldl Pvc.invalidate s.pvc }.inc R.PVC_ECC_COUNT).see F.PVC_STATUS_ECC_SEEN
        match s.pvc.probe r.2 r.1 s.tick with
        | none => (i, s)
        | some k =>
          let e := s.pvc.ent k
          let ver := s.verifies i.tenant
          if ver && !(e.tokensStored && e.tokens == blockString i.tokens && e.prevHash == i.prevHash) then
            (i, ({ s with pvc := s.pvc.invalidate k }.inc R.PVC_VERIFY_FAIL_COUNT).see F.PVC_STATUS_VERIFY_FAIL_SEEN)
          else
            let e := { e with hits := sat32 (e.hits + 1), lastUse := lastUseOf s.tick }
            let s := { s with pvc := { s.pvc.setEnt k e with pins := s.pvc.pins ++ [(k, i.id)] } }
            ({ i with hitEnt := some k, source := if ver then .verified else .hit, copying := true }, s.inc R.PVC_HIT_COUNT)
  | _ => (i, s)

/-! ### Commit (R104) -/

/-- The tables that the items of a channel search, in table number order: INPUT tables, or MASK tables (R143). -/
def State.tablesFor (s : State) (c : Chan) : List (Nat × TableRec) :=
  match s.bnd.cur with
  | none => []
  | some b => b.tables.filter fun t => t.2.defined && t.2.mask == (c == .outp)

/-- Book an item's costs (R45). -/
def Adm.bookAll (i : Item) (a : Adm) : Adm :=
  i.costs.foldl (fun a x => a.setB i.quire i.chan x.1 (a.b i.quire i.chan x.1 + x.2)) a

/-- The tags or the level that a commit changes (R105, R108, R109). -/
def State.charge (c : Chan) (i : Item) (spare : Bool) (s : State) : State :=
  if s.chanMode c then
    if spare then (s.inc R.ADM_SPARE_COUNT).see F.ADM_STATUS_SPARE_SEEN
    else if s.rate c i.tenant = unlimited then s
    else { s with adm := s.adm.setLevel c i.tenant (s.adm.level c i.tenant - i.fcost * 65536) }
  else
    let f := s.finish c i
    let a := s.adm.setV c f
    { s with adm := a.setTags c (Sparse.set (fun _ => .zero) (a.tags c) i.tenant { s := f, fLast := f, active := true }) }

/-- The folio's part of a commit: transitions of Table 3.4, ADM_SEQ, GATHER_LAST, the wait, and PREFIX_HASH (R116). -/
def Folio.onCommit (i : Item) (wait gather : Nat) (f : Folio) : Folio :=
  { f with
    state := if f.state = .admitting then .screenIn else if f.state = .hold && i.chan = .outp then .generating else f.state
    admSeq := f.admSeq + 1, gatherLast := gather, waitSum := f.waitSum + wait
    prefixHash := match i.kind with | .block _ => if i.tokens.length = 64 then i.hash else f.prefixHash | _ => f.prefixHash }

/-- The waits that registers show (R41). -/
def State.countWait (c : Chan) (w : Nat) (s : State) : State :=
  match c with
  | .inp =>
    let s := (s.inc R.ADM_ADMIT_IN_COUNT).raise R.ADM_WAIT_IN_MAX w
    { s with adm := { s.adm with waitIn := (s.adm.waitIn + w) % 2 ^ 64 } }
  | .outp =>
    let s := (s.inc R.ADM_ADMIT_OUT_COUNT).raise R.ADM_WAIT_OUT_MAX w
    { s with adm := { s.adm with waitOut := (s.adm.waitOut + w) % 2 ^ 64 } }

/-- Posture of a tenant (R53). -/
def State.posture (s : State) (tenant : Nat) : Bool := bitOf (tenant % 32) (s.rd (R.DKL_TENANT_POSTURE (tenant / 32)))

/-- The running state that a folio's next item starts from: that of its last item still before the gate, else the
durable one (R97, R223). -/
def State.startWork (s : State) (n : Nat) : Running :=
  match (s.liveOf n).getLast? with
  | some i => i.work
  | none => (s.frun n).run

/-- The item as its commit fixes it: T_adm and T_rel under R37, quire, profile, costs, posture. -/
def State.committed (i : Item) (q : Nat) (costs : List (Res × Nat)) (s : State) : Item :=
  let rel := s.dkl.relTick (tickUp s.now + s.delay i.chan)
  { i with
    work := s.startWork i.folio
    phase := .admitted, slot := false, bypass := 0, admNo := s.adm.nextAdm, tAdm := rel - s.delay i.chan, tRel := rel
    gather := s.fld F.DKL_GATHER_ID_ID, quire := q, costs := costs
    profile := ((s.bnd.cur.map fun b => b.profileNo i.tenant)).getD 0, openPosture := s.posture i.tenant
    srchDone := i.kind == .endItem || (s.tablesFor i.chan).isEmpty
    doneAt := if i.kind = .endItem then some (rel - s.delay i.chan) else none
    result := if i.kind = .endItem then some .pass else none }

/-- Commit an item to a quire (R37, R45, R104, R116, R121). -/
def State.commit (i : Item) (q : Nat) (costs : List (Res × Nat)) (spare : Bool) (ecc : List Nat) (s : State) : State :=
  let s := s.charge i.chan i spare
  let j := s.committed i q costs
  let w := j.tAdm - i.tArr
  let s := (s.countWait i.chan w).updFolio i.folio (Folio.onCommit i w (s.fld F.DKL_GATHER_ID_ID))
  let s := { s with
    dkl := s.dkl.book j.tRel
    eng := { s.eng with xlBooked := Sparse.upd (fun _ => 0) s.eng.xlBooked q (· + j.cost .xl) }
    adm := { s.adm.bookAll j with
      queue := s.adm.queue.filter fun x => x.id != i.id
      holders := s.adm.holders.filter fun h => h.2 != i.id
      nextAdm := s.adm.nextAdm + 1 } }
  let r := s.probeBlock j ecc
  { r.2 with adm := { r.2.adm with live := r.2.adm.live ++ [r.1] } }

/-- The quire and costs with which a head passes the test of R45; an end item uses none (R40). -/
def State.passes (s : State) (i : Item) : Option (Nat × List (Res × Nat)) :=
  match i.kind with
  | .endItem => some (0, [])
  | _ =>
    (s.profileOf i.tenant).bind fun p => (s.chooseQuire p i.chan).map fun q => (q, s.itemCosts p i.chan q)

/-- Heads passed over gain one bypass; the one that reaches 64 takes the limit (R102, R103). -/
def State.passOver (c : Chan) (ids : List Nat) (s : State) : State :=
  let full := (s.adm.queue.filter fun i => ids.contains i.id && i.bypass == 63).map fun i : Item => (c, i.id)
  let s := { s with adm := { s.adm with
      queue := updateWhere (fun (i : Item) => ids.contains i.id) (fun i => { i with bypass := i.bypass + 1 }) s.adm.queue
      holders := s.adm.holders ++ full } }
  if full.isEmpty then s else s.see F.ADM_STATUS_BYPASS_LIMIT_SEEN

/-- Offer heads in order; commit the first that passes, and count the bypasses of those before it (R102). -/
def State.offer (c : Chan) (spare : Bool) (ecc : List Nat) : List Item → List Nat → State → State
  | [], _, s => s
  | i :: is, past, s =>
    match s.passes i with
    | some (q, costs) => (s.passOver c past).commit i q costs spare ecc
    | none => State.offer c spare ecc is (past ++ [i.id]) s

/-- A stop of admission, if any, has not begun in this tick. -/
def State.beforeStop (s : State) (t : Option Nat) : Bool := match t with | some t => decide (s.tick < t) | none => true

/-- Admission runs in this tick: a sealed gathering from the tick after its seal on, and nothing stops it (R36, R51,
R60, R62, R63, R348, R425, R440, R445, R448). -/
def State.admitting (s : State) : Bool :=
  (s.dkl.gather == .sealed || s.dkl.gather == .pending) &&
    (match s.dkl.lastSeal with | some t => decide (t < s.tick) | none => false) &&
    (match s.dkl.beginAt with | some t => decide (s.tick < t) | none => true) &&
    !s.dkl.refStop && !s.flag F.DKL_STATUS_HALT && !s.flag F.COL_STATUS_STOP && !s.sec.tamper && !s.limp &&
    s.beforeStop s.pwr.stopFrom && s.beforeStop s.pwr.thermFrom && s.fld F.PWR_STATE_CURRENT == 0

/-- One channel's scheduler in one tick (R102 to R109). -/
def State.schedule (c : Chan) (ecc : List Nat) (s : State) : State :=
  let hs := s.heads (s.eligibles c)
  let s := { s with adm := s.refreshTags c (hs.map Item.tenant) }
  let r := s.ranked c (s.limited c hs)
  s.offer c r.2 ecc (r.1.take (s.lookahead c)) []

/-- ADMISSION_SCHEDULE: once per tick, the output channel before the input channel (R100, R102). `ecc`: ways of the
probed set whose entry cannot be read (R136). -/
def doAdmissionSchedule (ecc : List Nat) (s : State) : State :=
  let s := { s with adm := s.adm.applyCuts s.tick }
  if s.adm.lastRun = some s.tick then s
  else
    let s := { s with adm := { s.adm with lastRun := some s.tick } }
    if s.admitting then (s.schedule .outp ecc).schedule .inp ecc else s

/-! ### Token budgets (R107) -/

/-- The refill of one channel: every tenant with a finite rate. -/
def State.refill (c : Chan) (s : State) : State :=
  (List.range 1024).foldl (fun s t =>
    if s.rate c t = unlimited then s
    else { s with adm := s.adm.setLevel c t (min (s.adm.level c t + s.rate c t) (s.burst c t * 65536)) }) s

/-- BUDGET_REFILL: at every timebase value that is a multiple of 1,000 ns, in the channels' levels whatever their mode
(R107). -/
def doBudgetRefill (s : State) : State :=
  let s := { s with adm := s.adm.applyCuts s.tick }
  if s.tick % 1000 ≠ 0 || s.adm.lastRefill = some s.tick then s
  else
    let s := { s with adm := { s.adm with lastRefill := some s.tick } }
    (s.refill .inp).refill .outp

/-! ### The balancer (R111 to R114) -/

/-- Groups of a channel in a quire. -/
def Adm.groups (a : Adm) (q : Nat) (c : Chan) : Nat := match c with | .inp => 8 - a.nOut[q]?.getD 2 | .outp => a.nOut[q]?.getD 2

/-- Output groups on the chip. -/
def Adm.totalOut (a : Adm) : Nat := a.nOut.sum

/-- The resources that a move rescales. -/
def moveRes : List Res := [.twe, .amt, .xl]

/-- x rounded up to 10 ns after scaling by a / b. -/
def scale10 (x a b : Nat) : Nat := 10 * ceilDiv (x * a) (10 * b)

/-- S_min of a channel is at least this sum under the factor t (R112). -/
def State.slackFits (s : State) (c : Chan) (sum : Nat) : Bool :=
  let m := s.bnd.cur.map (·.manifest)
  let path := match c with | .inp => (m.map (·.provenIn)).getD 0 | .outp => (m.map (·.provenOut)).getD 0
  s.throttle * sum + 10 * path ≤ s.delay c

/-- Quire q may give up a group of channel c. -/
def State.canGive (s : State) (c : Chan) (q : Nat) : Bool :=
  let n := s.adm.groups q c
  2 ≤ n && s.slackFits c (sumOf (fun r => scale10 (s.adm.b q c r) n (n - 1)) moveRes)

/-- What an evaluation wants: some true toward output, some false toward input (R112). -/
def State.balWant (s : State) : Option Bool :=
  let tot := s.adm.totalOut
  let mn := s.fld F.ADM_BAL_LIMIT_MIN_OUT
  let mx := s.fld F.ADM_BAL_LIMIT_MAX_OUT
  let h := s.fld F.ADM_BAL_CTRL_HYST
  let oo := s.occ .outp
  let oi := s.occ .inp
  if tot < mn then some true
  else if mx < tot then some false
  else if oi + h < oo && tot < mx then some true
  else if oo + h < oi && mn < tot then some false
  else none

/-- Fence the group that the losing channel gives up (R112, R113). -/
def State.fenceGroup (toOut : Bool) (s : State) : State :=
  let x : Chan := if toOut then .inp else .outp
  let cands := (List.range 8).filter (s.canGive x)
  let sums := cands.map fun q => (q, sumOf (fun r => s.adm.b q x r) moveRes)
  match minBy (fun a b => a.2 < b.2) sums with
  | none => s.see F.ADM_STATUS_MOVE_BLOCKED_SEEN
  | some (q, _) =>
    let no := s.adm.groups q .outp
    let g := if toOut then 7 - no else 8 - no
    { s with adm := { s.adm with fence := some (q, g, toOut), streak := 0, moveQuire := q, moveToOut := toOut } }

/-- BALANCER_EVAL: at every multiple of 1,000 × PERIOD_US ns (R112). -/
def doBalancerEval (s : State) : State :=
  if s.tick % (1000 * s.fld F.ADM_BAL_CTRL_PERIOD_US) ≠ 0 || s.adm.lastBal = some s.tick then s
  else
    let s := { s with adm := { s.adm with lastBal := some s.tick } }
    if !s.flag F.ADM_BAL_CTRL_ENABLE || s.dkl.gather ≠ .sealed || s.flag F.DKL_STATUS_HALT || s.adm.fence.isSome then s
    else
      match s.balWant with
      | none => { s with adm := { s.adm with streak := 0 } }
      | some w =>
        let streak := if s.adm.lastWant = some w then s.adm.streak + 1 else 1
        let s := { s with adm := { s.adm with streak := streak, lastWant := some w } }
        let tot := s.adm.totalOut
        if streak < s.fld F.ADM_BAL_CTRL_CONFIRM && s.fld F.ADM_BAL_LIMIT_MIN_OUT ≤ tot &&
            tot ≤ s.fld F.ADM_BAL_LIMIT_MAX_OUT then s
        else s.fenceGroup w

/-- No engine of the group holds an item (R113): its TWE walks nothing and its four tiles are empty. -/
def State.groupIdle (s : State) (q g : Nat) : Bool :=
  !(s.eng.samples.any fun x => x.quire == q && x.twe == g) &&
    !((List.range 4).any fun i =>
      let t := Sparse.get (fun _ => Tile.blank) s.eng.tiles (32 * q + 4 * g + i)
      t.running || !t.rows.isEmpty)

/-- Rescale the backlogs and remaining costs of a quire and channel by a / b (R113). -/
def Adm.rescale (q : Nat) (c : Chan) (n m : Nat) (a : Adm) : Adm :=
  let a := moveRes.foldl (fun a r => a.setB q c r (scale10 (a.b q c r) n m)) a
  let f (i : Item) : Item := { i with costs := i.costs.map fun x => if moveRes.contains x.1 then (x.1, scale10 x.2 n m) else x }
  { a with live := updateWhere (fun i => i.quire == q && i.chan == c && i.kind != .endItem) f a.live }

/-- GROUP_MOVE_DONE: the fenced group has finished its items and joins the other channel (R113). -/
def doGroupMoveDone (s : State) : State :=
  match s.adm.fence with
  | none => s
  | some (q, g, toOut) =>
    if !s.groupIdle q g then s
    else
      let lose : Chan := if toOut then .inp else .outp
      let gain : Chan := if toOut then .outp else .inp
      let nl := s.adm.groups q lose
      let ng := s.adm.groups q gain
      let a := (s.adm.rescale q lose nl (nl - 1)).rescale q gain ng (ng + 1)
      let no := s.adm.groups q .outp
      let s := { s with adm := { a with fence := none, nOut := a.nOut.set q (if toOut then no + 1 else no - 1) } }
      s.inc R.ADM_MOVE_COUNT

end Sys2Proof.Machine
end

