-- ==== Sys2Proof/Machine/Release.lean ====
section
/-!
DEFINITION. The Deckle gate (chapter 2): what releases or withholds an item, in which tick, with which Colophons
(chapter 13) and messages (R288), the fill of the Prefix Verdict Cache (R127, R128), the counts of R254, and the commit
of a cancel (R58, R80 to R84).
-/
namespace Sys2Proof.Machine

/-! ### Item Colophons (R329, R333, R334) -/

/-- The item's T_rel is later than its folio's deadline (R89). -/
def Folio.misses (f : Folio) (i : Item) : Bool := f.hasDeadline && f.deadline < i.tRel

/-- Header flags of an item. -/
def itemFlags (f : Folio) (i : Item) (late : Bool) : Nat :=
  b2n late + 8 * b2n (f.misses i) + 16 * b2n i.openPosture + 128 * b2n i.verFirst.isNone

/-- The item part of Table 13.4. -/
def itemPart (f : Folio) (i : Item) (relSeq pos : Nat) : ColItem :=
  { cert := (i.cls.filter fun c => c.status == .certified).length
    rerun := (i.cls.filter fun c => c.status == .recomputed).length
    tRel := i.tRel, wait := sat32 (i.tAdm - i.tArr), dlLate := if f.misses i then sat32 (i.tRel - f.deadline) else 0
    verFirst := i.verFirst.getD 0, verLast := if i.verFirst.isSome then i.verLast else 0, relSeq := relSeq, pos := pos }

/-- STATUS of an item's Colophon and messages. -/
def lateStatus (late : Bool) : Nat := if late then 0x20 else 0

/-- SOURCE of Table 13.5. -/
def Source.code : Source → Nat
  | .computed => 0 | .hit => 1 | .verified => 2

/-- SHA-256 of a candidate list body (R264). -/
def listDigest (i : Item) : Bytes := sha256 i.body

/-! ### Bookkeeping of a release or withholding -/

/-- An item goes LATE: counted, and LATE_SEEN set (R54); its re-run may be the cause (R238). -/
def State.countLate (i : Item) (s : State) : State :=
  let s := s.updFolio i.folio fun f => { f with lateItems := f.lateItems + 1 }
  let s := if i.cls.any fun c => c.status == .toXl then s.inc (R.QUIRE_XL_LATE_COUNT i.quire) else s
  (s.inc (match i.chan with | .inp => R.DKL_LATE_IN_COUNT | .outp => R.DKL_LATE_OUT_COUNT)).see F.DKL_STATUS_LATE_SEEN

/-- The deadline is checked once for each released or withheld item (R89, R334). -/
def State.countDeadline (i : Item) (s : State) : State :=
  let f := s.folio i.folio
  if f.misses i then
    (s.updFolio i.folio fun f =>
      { f with dlMisses := f.dlMisses + 1, lateMax := max f.lateMax (sat32 (i.tRel - f.deadline)) }).inc
      R.LDG_DEADLINE_MISS_COUNT
  else s

/-- An item passes the gate: it leaves the engines, and what is still booked for it leaves the backlogs (R124). -/
def State.retire (i : Item) (s : State) : State :=
  let a := match s.item? i.id with
    | some j => s.adm.unbookAll j
    | none => s.adm
  { s with
    adm := { a with live := a.live.filter fun j => j.id != i.id }
    eng := { s.eng with waitRows := s.eng.waitRows.filter fun w => w.1 != i.id } }

/-- The folio's REL_SEQ, T_LAST_REL and running state after n releases by one item (Table 3.4, R223). -/
def State.passed (i : Item) (n : Nat) (s : State) : State :=
  let s := s.updFolio i.folio fun f => { f with relSeq := f.relSeq + n, tLastRel := s.tick }
  match i.kind with
  | .endItem => s
  | _ => s.updRun i.folio fun r => { r with run := i.work }

/-! ### The fill (R127 to R130) -/

/-- The entry that a released block writes. -/
def State.fillEntry (i : Item) (q : PvcProbe) (blocked : Bool) (snap : Running) (ptr tptr : Nat) (s : State) : PvcEnt :=
  let ver := s.verifies i.tenant
  { tag := q.tag, gather := q.gather, tenant := q.tenant, epoch := q.epoch, valid := true, blocked := blocked,
    tokensStored := ver, blockNo := q.blockNo, modelSet := q.modelSet, statePtr := ptr,
    tokensPtr := if ver then tptr else 0, prevHash := i.prevHash, hits := 0, lastUse := lastUseOf s.tick, tFill := s.tick,
    snap := snap, tokens := if ver then blockString i.tokens else [] }

/-- A fill that is skipped (R128). -/
def State.fillSkip (s : State) : State := (s.inc R.PVC_FILL_SKIP_COUNT).see F.PVC_STATUS_FILL_SKIP_SEEN

/-- A released block fills an entry: computed to completion with its snapshot written and FILL still 1. `snapLate`: the
snapshot write has not completed by the release tick. -/
def State.fill (i : Item) (blocked snapLate : Bool) (s : State) : State :=
  match i.probe, i.snap with
  | some q, some snap =>
    let set := pvcSet (pvcKey q.tenant q.epoch q.gather q.modelSet q.blockNo i.hash)
    if i.source ≠ .computed || !s.flag F.PVC_CTRL_FILL || s.pvcEntries / 8 ≤ set then s
    else if ((waysOf set).any fun k => (s.pvc.ent k).hits? q (s.tick + 10)) then s
    else if snapLate then s.fillSkip
    else match s.pvc.victim set (s.fld F.DKL_GATHER_ID_ID) s.tick with
      | none => s.fillSkip
      | some k =>
        let a := s.nearAddr 1 64
        let b := a.2.nearAddr 1 64
        let s := b.2
        { s with pvc := s.pvc.setEnt k (s.fillEntry i q blocked snap a.1 b.1) }.inc R.PVC_FILL_COUNT
  | _, _ => s

/-! ### Releases -/

/-- VERDICT to the GATEWAY partner of a folio (R287, R288). -/
def State.sendVerdict (i : Item) (final blocked late : Bool) (blockNo relSeq colSeq : Nat) (s : State) : State :=
  let f := s.folio i.folio
  s.post f.gw (lateStatus late)
    (.verdict (handleOf i.folio f.gen) (b2n final) (if blocked then 2 else 1) (b2n late) blockNo relSeq i.tRel colSeq)

/-- The IN_FINAL Colophon and its VERDICT, with the folio's REL_SEQ and BLOCKS_REL after the release (R39, R334). -/
def State.releaseFinal (i : Item) (blocked late : Bool) (s : State) : State :=
  let f := s.folio i.folio
  let part := { itemPart f i f.relSeq f.blocksRel with cert := 0, rerun := 0 }
  let seq := s.nextSeq s.tick rankItem i.admNo
  let s := s.colophon s.tick rankItem i.admNo (lateStatus late) (itemFlags f i late) i.gather (handleOf i.folio f.gen)
    f.tenant (.inFinal part (if blocked then 2 else 1) f.promptLen i.hash f.pagesHeld)
  s.sendVerdict i true blocked late f.blocksRel f.relSeq seq

/-- An input block passes the gate with this verdict (Table 3.4, R38, R39, Table 13.5). -/
def State.releaseBlock (i : Item) (blocked late snapLate : Bool) (s : State) : State :=
  let n := i.folio
  let k := i.order
  let last := (s.frun n).endBlock = some k
  let s := ((s.countDeadline i).retire i).fill i blocked snapLate
  let s := s.passed i 1
  let s := s.updFolio n fun f => { f with blocksRel := f.blocksRel + 1 }
  let f := s.folio n
  let seq := s.nextSeq s.tick rankItem i.admNo
  let s := s.colophon s.tick rankItem i.admNo (lateStatus late) (itemFlags f i late) i.gather (handleOf n f.gen) f.tenant
    (.inBlock (itemPart f i f.relSeq k) (if blocked then 2 else 1) i.source.code i.tokens.length i.quire i.blocker
      i.blockers i.hash)
  let s := s.sendVerdict i false blocked late k f.relSeq seq
  if blocked || last then
    let s := s.updFolio n fun f => { f with relSeq := f.relSeq + 1 }
    let s := s.releaseFinal i blocked late
    if blocked then
      (s.endFolio n .done (lateStatus late) []).updFolio n fun f => { f with verdict := 2 }
    else s.enterHold n
  else s

/-- An end item passes the gate: IN_FINAL alone, PASS (R40). -/
def State.releaseEnd (i : Item) (s : State) : State :=
  let s := ((s.countDeadline i).retire i).passed i 1
  (s.releaseFinal i false false).enterHold i.folio

/-- The rule number that the Colophon gives: the lowest-index masked candidate's (R264). -/
def Item.firstRule (i : Item) : Nat := ((minBy (fun a b => a.1 < b.1) i.masks).map (·.2)).getD 0

/-- The OUT_TOKEN Colophon of an item (Table 13.5). -/
def State.outCol (i : Item) (status flags pos token chosen r w : Nat) (s : State) : State :=
  let f := s.folio i.folio
  s.colophon s.tick rankItem i.admNo status (itemFlags f i false + flags) i.gather (handleOf i.folio f.gen) f.tenant
    (.outToken (itemPart f i f.relSeq pos) token chosen i.masks.length i.firstRule r w (listDigest i))

/-- Count a released token (R254): a new distinct token takes the folio's spare entry. -/
def FRun.countToken (t : Nat) (r : FRun) : FRun :=
  let c := Sparse.get (fun _ => 0) r.counts t
  { r with
    counts := Sparse.set (fun _ => 0) r.counts t (c + 1), outs := r.outs ++ [t], outDone := r.outDone + 1
    spare := if c = 0 then r.spare - 1 else r.spare }

/-- The token is the folio's last (Table 3.4). -/
def Folio.isFinal (f : Folio) (c : Cand) : Bool :=
  c.isEnd || (f.maxOut != 0 && f.outRel + 1 == f.maxOut) || f.nextPos + 1 == 4194304

/-- A chosen token passes the gate (R263, R264, R288, Table 3.4). -/
def State.releaseToken (i : Item) (idx r w : Nat) (late : Bool) (s : State) : State :=
  let n := i.folio
  let c := i.cands[idx]?.getD { token := 0, isEnd := false, logit := 0 }
  let pos := (s.folio n).nextPos
  let final := (s.folio n).isFinal c
  let s := (((s.countDeadline i).retire i).passed i 1).updRun n (FRun.countToken c.token)
  let s := s.updRun n fun r => { r with elOut := s.tick + 10 }
  let seq := s.nextSeq s.tick rankItem i.admNo
  let s := s.outCol i (lateStatus late) (b2n late + 2 * b2n final) pos (c.token + 2 ^ 20 * b2n c.isEnd) idx r w
  let f := s.folio n
  let body := MsgBody.tokenOut (handleOf n f.gen) pos (c.token + 2 ^ 20 * b2n final + 2 ^ 21 * b2n late) f.relSeq i.tRel seq
  let s := (s.post f.gw (lateStatus late) body).post f.dec (lateStatus late) body
  let s := s.updFolio n fun f =>
    { f with nextPos := f.nextPos + 1, outRel := f.outRel + 1, lastToken := c.token, withheld := 0 }
  if final then s.endFolio n .done 0 [] else s.maybeEvict n

/-- A position is withheld (R54, R55, R262, R288, Table 3.4): LATE, or every candidate masked. -/
def State.withhold (i : Item) (late : Bool) (s : State) : State :=
  let n := i.folio
  let st := if late then 0x20 else 0x28
  let s := (s.countDeadline i).retire i
  let s := s.updRun n fun r => { r with outDone := r.outDone + 1, elOut := s.tick + 10 }
  let f := s.folio n
  let count := f.withheld + 1
  let seq := s.nextSeq s.tick rankItem i.admNo
  let s := s.outCol i st (b2n late + 4) f.nextPos 0 0xFF 0 0
  let body := MsgBody.withheld (handleOf n f.gen) f.nextPos count i.tRel seq
  let s := (s.post f.gw st body).post f.dec st body
  let s := s.updFolio n fun f => { f with withheld := count }
  let s := if late then s else (s.inc R.TSU_ALL_MASKED_COUNT).see F.TSU_STATUS_ALL_MASKED_SEEN
  if s.fld F.DKL_LATE_LIMIT_LIMIT ≤ count then s.endFolio n .done st [] else s.maybeEvict n

/-- An item whose computation is complete passes the gate. -/
def State.releaseItem (i : Item) (late snapLate : Bool) (s : State) : State :=
  match i.kind, i.result with
  | .endItem, _ => s.releaseEnd i
  | .block _, some .pass => s.releaseBlock i false late snapLate
  | .block _, _ => s.releaseBlock i true late snapLate
  | .cand, some (.token (.chosen idx r w)) => s.releaseToken i idx r w late
  | .cand, some (.token .allMasked) => s.withhold i late
  | .cand, _ => s.withhold i true

/-- Table 2.3, CLOSED: the block releases BLOCK, the token is withheld. -/
def State.closeLate (i : Item) (s : State) : State :=
  match i.chan with
  | .inp => s.releaseBlock { i with snap := none } true true false
  | .outp => s.withhold i true

/-! ### The gate (R38, R54, R56) -/

/-- The item can never complete, so that CLOSED applies whatever the posture (R146, R256). -/
def Item.neverDone (i : Item) : Bool := i.incomplete || i.countFull

/-- An earlier item of the folio has not passed the gate. -/
def State.behind (s : State) (i : Item) : Bool :=
  s.adm.live.any fun j => j.folio == i.folio && j.admNo < i.admNo && j.phase == .admitted

/-- The item's computation was complete at or before this instant. -/
def Item.doneBy (i : Item) (x : Nat) : Bool := match i.doneAt with | some d => d ≤ x | none => false

/-- The gate evaluates the item in this tick: at its T_rel, or later once it is late, ready and first of its folio. -/
def State.gateDue (s : State) (i : Item) : Bool :=
  i.phase == .admitted &&
    if i.late then !s.behind i && (i.neverDone || i.doneBy s.tick) else i.tRel == s.tick

/-- The gate handles one item: release on time, Table 2.3 under CLOSED, or under MARKED_OPEN a release once it is
complete and first of its folio. -/
def State.gateItem (i : Item) (snapLate : Bool) (s : State) : State :=
  if i.late then if i.neverDone then s.closeLate i else s.releaseItem i true snapLate
  else if i.doneBy i.tRel && !s.behind i then s.releaseItem i false snapLate
  else
    let s := s.countLate i
    if (i.openPosture && !i.neverDone) || s.behind i then s.updItem i.id fun i => { i with late := true }
    else s.closeLate i

/-- GATE_RELEASE: the first item in admission order that the gate has to handle in this tick (R38). -/
def doGateRelease (snapLate : Bool) (s : State) : State :=
  match s.adm.live.find? s.gateDue with
  | some i => s.gateItem i snapLate
  | none => s

/-- Everything that an item's result needs is there (R127, R200, R210, R253). -/
def Item.computed (i : Item) : Bool := i.result.isSome && i.doneAt.isNone

/-- ITEM_COMPUTE_DONE (R97, R127, R54): the computation of an item completes; a computed block's snapshot is written
while FILL is 1 (`snapLate`: the write outlasts a release in this tick, R128); a late item that completes on a tick is released in it, and one that completes within a tick at the
next GATE_RELEASE of its folio. -/
def doItemComputeDone (id : Nat) (snapLate : Bool) (s : State) : State :=
  match s.item? id with
  | none => s
  | some i =>
    if !i.computed || i.phase ≠ .admitted then s
    else
      let snap := match i.kind with
        | .block _ => if s.flag F.PVC_CTRL_FILL && i.source = .computed && i.tokens.length = 64 then some i.work else none
        | _ => none
      let s := s.updItem id fun i => { i with doneAt := some s.now, snap := snap }
      match s.item? id with
      | some i => if i.late && s.gateDue i then s.gateItem i snapLate else s
      | none => s

/-! ### The end of a drain (R62, Table 2.3) -/

/-- T_d: the latest T_rel booked, or T_b when nothing was admitted (R62). -/
def State.drainEnd (s : State) : Nat := s.dkl.booked.foldl (fun m x => max m x.1) (s.dkl.beginAt.getD 0)

/-- The items that have not passed the gate at T_d, in admission order: due ones are evaluated, then finished ones are
released LATE and unfinished ones handled as CLOSED. `snapLate`: as at GATE_RELEASE. -/
def State.drainItems (snapLate : Bool) : Nat → State → State
  | 0, s => s
  | n + 1, s =>
    match s.adm.live.find? fun i => i.phase == .admitted with
    | none => s
    | some i =>
      let s' := if !i.late then s.gateItem i snapLate
        else if i.doneBy s.tick && !i.neverDone then s.releaseItem i true snapLate else s.closeLate i
      State.drainItems snapLate n s'

/-- DRAIN_END at T_d (Table 2.4 step 4). -/
def doDrainEnd (snapLate : Bool) (s : State) : State :=
  if s.dkl.gather = .draining && s.tick = s.drainEnd then s.drainItems snapLate (2 * s.adm.live.length) else s

/-! ### Cancels (R58, R80 to R84, R289) -/

/-- An item of the folio was released or withheld in this tick, so that a cancel waits for the next one (R58). -/
def State.gateRan (s : State) (n : Nat) : Bool :=
  (s.chain.takeWhile fun c => s.tick ≤ c.tick).any fun c => c.rank == rankItem && hFolio c.handle == n

/-- Answer a cancel that has taken effect. -/
def State.answerCancel (c : CancelReq) (s : State) : State :=
  let f := s.folio c.folio
  match c.by_ with
  | .gateway dst tag => s.send dst 2 tag 0 (.cancelAck (handleOf c.folio c.gen) f.relSeq f.tCack)
  | .host => s.folioResult 0
  | .queue _ _ => s

/-- Answer a cancel that came too late: the folio has ended meanwhile (R72, R79, R84). -/
def State.refuseCancel (c : CancelReq) (s : State) : State :=
  let h : Handle := { folio := BitVec.ofNat 16 c.folio, gen := BitVec.ofNat 8 c.gen }
  match c.by_ with
  | .gateway dst tag => s.cancelNak dst tag h ((s.cancelRefuse h).getD 0x21)
  | .host => s.folioResult ((s.cancelRefuse h).getD 0x21)
  | .queue _ _ => s

/-- The GATEWAY partner that receives CANCEL_ACK in place of FOLIO_END (R289). -/
def State.cancelSkip (c : CancelReq) (s : State) : List Nat :=
  match c.by_ with
  | .gateway _ _ => [(s.folio c.folio).gw]
  | _ => []

/-- CAUSE of Table 13.6. -/
def CancelBy.cause : CancelBy → Nat
  | .gateway _ _ => 0
  | _ => 1

/-- One cancel request commits: its folio is CANCELLED at this tick, or the request is refused. -/
def State.commitReq (c : CancelReq) (s : State) : State :=
  let h : Handle := { folio := BitVec.ofNat 16 c.folio, gen := BitVec.ofNat 8 c.gen }
  if (s.cancelRefuse h).isSome then s.refuseCancel c
  else (s.commitCancel c.folio c.by_.cause (s.cancelSkip c)).answerCancel c

end Sys2Proof.Machine
end

