-- ==== Sys2Proof/Machine/Faults.lean ====
section
/-!
DEFINITION. Faults (chapter 15): the fault log, what a fault does to a folio (R386 to R389, R400), the census (R391,
R392), RETRY (R396 to R399), and the scrub and repair of model memory (R393 to R395).
-/
namespace Sys2Proof.Machine

/-- What was detected (Table 15.2): block, status, quire, engine (0xFF for none), and the address or SEQ. -/
structure FaultInfo where
  block : Nat
  status : Nat
  quire : Nat
  engine : Nat
  addr : Nat
  deriving DecidableEq, Repr

/-- The 32 bytes of a fault log entry. -/
def logBytes (tick : Nat) (i : FaultInfo) (moved first : Nat) : Bytes :=
  le 8 tick ++ le 1 i.block ++ le 1 i.status ++ le 1 i.quire ++ le 1 i.engine ++ le 4 moved ++ le 8 i.addr ++ le 4 first ++
    zeros 4

/-- Write a fault log entry: entry k, counted from 0, stands at k mod 128. -/
def State.fltLogAt (tick : Nat) (i : FaultInfo) (moved first : Nat) (s : State) : State :=
  let k := s.rd R.FLT_LOG_SEQ
  let s := if 128 ≤ k then s.see F.FLT_STATUS_LOG_WRAP_SEEN else s
  (s.wrWords (R.FLT_LOG (k % 128) 0) 8 (logBytes tick i moved first)).inc R.FLT_LOG_SEQ

/-- Write a fault log entry of this tick. -/
def State.fltLog (i : FaultInfo) (moved first : Nat) (s : State) : State := s.fltLogAt s.tick i moved first

/-! ### Progress of an item (Tables 15.5 and 15.6) -/

/-- A classifier's run is certified or recomputed. -/
def ClsRun.done (c : ClsRun) : Bool := c.status == .certified || c.status == .recomputed

/-- STEP of an item that is not complete, for a fault detected by this block. -/
def Item.step (block : Nat) (i : Item) : Nat :=
  let scored := i.fetched && i.cls.all ClsRun.done
  let decided := i.fv.isSome && i.accs.all fun a => a.decided.isSome
  let count :=
    if block = 1 then sumOf (fun a => a.next) i.accs
    else if block = 2 || block = 3 then (i.cls.filter ClsRun.done).length
    else if i.fetched && !i.srchDone then i.srchPos
    else 0
  2 ^ 24 * b2n i.fetched + 2 ^ 25 * b2n i.fetched + 2 ^ 26 * b2n i.srchDone + 2 ^ 27 * b2n scored +
    2 ^ 28 * b2n i.fv.isSome + 2 ^ 29 * b2n decided + count % 2 ^ 24

/-- An item that has committed no step. -/
def Item.notStarted (i : Item) : Bool := !i.fetched && !i.srchDone

/-- CSTATE and STEP of the items that a fault holds, oldest first. -/
def censusOf (block : Nat) (held : List Item) : Nat × Nat :=
  match held.getLast? with
  | none => (4, 0)
  | some i =>
    if held.all fun j => j.doneAt.isSome then (3, 0x3F000000)
    else if i.notStarted then (1, 0)
    else (2, i.step block)

/-- ITEM_KIND of the latest held item. -/
def itemKindOf (held : List Item) : Nat := match held.getLast? with | none => 0 | some i => match i.chan with | .inp => 1 | .outp => 2

/-! ### A fault touches a folio -/

/-- The items of a folio that a fault holds: admitted and not past the gate, in admission order. -/
def State.heldBy (s : State) (n : Nat) : List Item := (s.liveOf n).filter fun i => i.phase == .admitted

/-- Held items stop: their costs leave the backlogs, the engines drop them, nothing of them is released (R386). -/
def State.holdItems (n : Nat) (s : State) : State :=
  let held := s.heldBy n
  let ids := held.map Item.id
  let a := held.foldl (fun a i => a.unbookAll i) s.adm
  let hold (i : Item) : Item := if ids.contains i.id then { i with phase := .held, costs := [] } else i
  { s with
    adm := { a with live := a.live.map hold }
    eng := { s.eng with
      waitRows := s.eng.waitRows.filter fun w => !(ids.contains w.1)
      samples := s.eng.samples.filter fun x => !(ids.contains x.item) } }

/-- A FAULT Colophon of a folio (R387, R389, R398). -/
def State.faultCol (n block status quire engine census step tRel relSeq : Nat) (s : State) : State :=
  let f := s.folio n
  s.colophon s.tick rankFault n status 0 (s.fld F.DKL_GATHER_ID_ID) (handleOf n f.gen) f.tenant
    (.fault census block quire engine step tRel relSeq f.admSeq)

/-- A pause or resume move that a fault cuts: PAUSE_DONE or RESUME_DONE with its status (R400). -/
def State.cutMove (n status : Nat) (s : State) : State :=
  let f := s.folio n
  let h := handleOf n f.gen
  let s := s.endEvict n
  if f.pauseReq then s.post f.gw status (.pauseDone h f.tPause f.tExpire)
  else if f.resumeReq then s.post f.gw status (.resumeDone h s.tick)
  else s

/-- A live folio moves to FAULTED (R386, R387, R391). -/
def State.toFaulted (n : Nat) (i : FaultInfo) (damaged : Bool) (tFault : Nat) (s : State) : State :=
  let f := s.folio n
  let held := s.heldBy n
  let c := censusOf i.block held
  let cut := f.pauseReq || f.resumeReq
  let ent : Census :=
    { state := c.1, prior := f.state, block := i.block, quire := i.quire, engine := i.engine, status := i.status,
      itemKind := itemKindOf held, unreleased := held.length, damaged := damaged || cut, multi := false, settled := false,
      further := 0, step := c.2, relSeq := f.relSeq, tFault := tFault }
  let s := (s.holdItems n).cutMove n i.status
  let s := s.faultCol n i.block i.status i.quire i.engine c.1 c.2 ((held.getLast?.map (·.tRel)).getD 0) f.relSeq
  let s := s.updFolio n fun f => { f with state := .faulted, census := c.1, censusStep := c.2 }
  (s.updRun n fun r => { r with cens := some ent }).inc R.FLT_FOLIO_FAULT_COUNT

/-- A further fault touches a FAULTED folio (R389). -/
def State.furtherFault (n : Nat) (i : FaultInfo) (damaged : Bool) (s : State) : State :=
  match (s.frun n).cens with
  | none => s
  | some e =>
    let writes := !e.multi || (damaged && !e.damaged)
    let e' := { e with multi := true, damaged := e.damaged || damaged, further := if writes then e.further else min 0xFFFF (e.further + 1) }
    let s := s.updRun n fun r => { r with cens := some e' }
    let s := s.see F.FLT_STATUS_MULTI_SEEN
    if writes then s.faultCol n i.block i.status i.quire i.engine e.state e.step 0 e.relSeq else s

/-- A fault touches one folio; the second result counts the folios moved to FAULTED. -/
def State.touch (i : FaultInfo) (damaged : Bool) (tFault : Nat) (s : State) (n : Nat) : State :=
  let st := (s.folio n).state
  if st.live then s.toFaulted n i damaged tFault
  else if st = .faulted then s.furtherFault n i damaged
  else s

/-- A detected fault of these folios (R383), in folio index order, with its fault log entry. -/
def State.faultAt (ns : List Nat) (i : FaultInfo) (damaged : Bool) (tFault : Nat) (s : State) : State :=
  let ns := sortNat ns
  let hit := ns.filter fun n => (s.folio n).state.live || (s.folio n).state == .faulted
  let moved := (ns.filter fun n => (s.folio n).state.live).length
  let s := hit.foldl (State.touch i damaged tFault) s
  let s := if hit.isEmpty then s else s.see F.FLT_STATUS_FOLIO_FAULT_SEEN
  s.fltLogAt tFault i moved (hit.head?.getD 0xFFFFFFFF)

/-- A detected fault in this tick. -/
def State.fault (ns : List Nat) (i : FaultInfo) (damaged : Bool) (s : State) : State := s.faultAt ns i damaged s.tick

/-! ### The census (R391, R392) -/

/-- The 32 bytes of a folio's census entry; zeros when it has none. -/
def State.censusBytes (s : State) (n : Nat) : Bytes :=
  let f := s.folio n
  match (s.frun n).cens with
  | some e =>
    if f.state = .faulted then
      le 2 n ++ le 1 f.gen ++ le 1 e.state ++ le 1 e.prior.code ++ le 1 e.block ++ le 1 e.quire ++ le 1 e.engine ++
        le 1 e.status ++ le 1 e.itemKind ++ le 2 e.unreleased ++
        le 1 (b2n e.damaged + 2 * b2n e.multi + 4 * b2n e.settled) ++ zeros 1 ++ le 2 e.further ++ le 4 e.step ++
        le 4 e.relSeq ++ le 8 e.tFault
    else zeros 32
  | none => zeros 32

/-- Folios on the pending list, in folio index order. -/
def State.pendingFaults (s : State) : List Nat :=
  (s.ldg.folios.filter fun x => x.2.state == .faulted && ((s.frun x.1).cens.map (·.settled)).getD false).map (·.1)

/-- CENSUS_SETTLED: the last held item of a FAULTED folio has been dropped (R392). -/
def doCensusSettled (n : Nat) (s : State) : State :=
  if (s.folio n).state = .faulted then s.updRun n fun r => { r with cens := r.cens.map fun e => { e with settled := true } }
  else s

/-! ### Recovery (R396 to R399) -/

/-- The refusal of a RETRY (R396): generation, state, SETTLED and DAMAGED, then STOP. -/
def State.retryRefuse (h : Handle) (s : State) : Option Nat :=
  if !s.genOk h then some 0x21
  else if (s.folio h.idx).state ≠ .faulted then some 0x15
  else match (s.frun h.idx).cens with
    | none => some 0x15
    | some e =>
      if !e.settled || e.damaged then some 0x15
      else if s.flag F.COL_STATUS_STOP then some 0x2B
      else none

/-- A held item goes back to its queue with its input and its T_arr alone (R398). -/
def Item.putBack (i : Item) : Item :=
  { Item.fresh i.id i.folio i.gen i.tenant i.chan i.kind i.tArr with
    phase := .queued, slot := false, tokens := i.tokens, cands := i.cands, body := i.body, retried := true,
    prevHash := i.prevHash, hash := i.hash }

/-- The state that the released items alone give a folio (R398). -/
def State.retryState (s : State) (n : Nat) (prior : FState) : FState :=
  match prior with
  | .screenIn => if (s.folio n).blocksRel = 0 then .admitting else .screenIn
  | .generating => if (s.frun n).outDone = 0 then .hold else .generating
  | st => st

/-- A partner bound to the folio that is gone, or has attached again since the fault (R397). -/
def State.lostSince (s : State) (n tFault : Nat) : Option Nat :=
  (s.boundOf n).find? fun p => !(s.partner p).state.on || tFault < (s.partner p).tAttach

/-- The recovery of a folio (R398). -/
def State.putBackItems (n : Nat) (e : Census) (s : State) : State :=
  let held := (s.liveOf n).filter fun i => i.phase == Phase.held
  let st := s.retryState n e.prior
  let s := s.faultCol n 0 0 0xFF 0xFF e.state e.step 0 e.relSeq
  let s := { s with adm := { s.adm with
      live := s.adm.live.filter fun i => !(i.folio == n && i.phase == Phase.held)
      queue := held.map Item.putBack ++ s.adm.queue } }
  let s := s.updFolio n fun f => { f with state := st, census := 0, censusStep := 0 }
  ((s.updRun n fun r => { r with cens := none }).inc R.FLT_RETRY_COUNT).forward n

/-- RETRY of a folio that is not refused: it is orphaned under R397, or its items go back. -/
def State.retry (n : Nat) (s : State) : State :=
  match (s.frun n).cens with
  | none => s
  | some e =>
    match s.lostSince n e.tFault with
    | some p => s.orphan n p (s.partner p).loss
    | none => s.putBackItems n e

/-- A census command answers. -/
def State.censusResult (st new : Nat) (s : State) : State :=
  (s.setFld F.FLT_CENSUS_RESULT_STATUS st).setFld F.FLT_CENSUS_RESULT_NEW_STATE new

/-- FLT_CENSUS_CMD READ: the entry into FLT_CENSUS_DATA_n (R391, R449). -/
def doFltCensusRead (n : Nat) (s : State) : State :=
  if s.lockdown then s.setFld F.FLT_CENSUS_RESULT_STATUS 0x30
  else (s.wrWords (R.FLT_CENSUS_DATA 0) 8 (s.censusBytes n)).setFld F.FLT_CENSUS_RESULT_STATUS 0

/-- FLT_CENSUS_CMD RETRY (R396 to R398, R449). -/
def doFltCensusRetry (h : Handle) (s : State) : State :=
  if s.lockdown then s.setFld F.FLT_CENSUS_RESULT_STATUS 0x30
  else match s.retryRefuse h with
    | some st => s.setFld F.FLT_CENSUS_RESULT_STATUS st
    | none =>
      let s := s.retry h.idx
      s.censusResult 0 (s.folio h.idx).state.code

/-! ### Repair of model memory (R393 to R395) -/

/-- MODEL_SCRUB_VISIT: a word of a quire's model memory or split store is visited. A single-bit error is corrected in
place and leaves no trace; an uncorrectable one waits for its repair. -/
def doModelScrubVisit (q addr : Nat) (bad : Bool) (s : State) : State :=
  if bad then { s with bnd := { s.bnd with badWords := if s.bnd.badWords.contains (q, addr) then s.bnd.badWords
      else s.bnd.badWords ++ [(q, addr)] } } else s

/-- MODEL_REPAIR_DONE: the repair of a word ends; `bad`: its source has an uncorrectable error too (R395). -/
def doModelRepairDone (q addr : Nat) (bad : Bool) (s : State) : State :=
  if !s.bnd.badWords.contains (q, addr) then s
  else
    let s := { s with bnd := { s.bnd with badWords := s.bnd.badWords.filter (· != (q, addr)) } }
    if bad then
      (s.setFld F.FLT_REPAIR_FAILED_QUIRES (Nat.lor (s.fld F.FLT_REPAIR_FAILED_QUIRES) (2 ^ q))).see
        F.FLT_STATUS_REPAIR_FAIL_SEEN
    else (s.inc R.FLT_REPAIR_COUNT).see F.FLT_STATUS_REPAIR_SEEN

end Sys2Proof.Machine
end

