-- ==== Sys2Proof/Machine/Engines.lean ====
section
/-!
DEFINITION. What an item runs through between its admission and its result: the feature vector (R199, R200), its tree
ensembles (R202 to R218) and the choice of a token (R252 to R262).
-/
namespace Sys2Proof.Machine

/-! ### Which classifiers and ensembles an item runs (R363) -/

/-- The profile record of an item. -/
def State.itemProfile (s : State) (i : Item) : Option Profile :=
  s.bnd.cur.bind fun b => b.profiles.find? fun p => p.num == i.profile

/-- The classifiers that an item runs, in number order. -/
def State.itemCls (s : State) (i : Item) : List Nat :=
  match s.itemProfile i with
  | none => []
  | some p =>
    let m := match i.chan with | .inp => p.inCls | .outp => p.outCls
    (List.range 64).filter fun c => bitOf c m && ((s.qmodel i.quire).cls c).isSome

/-- The ensembles that an item runs, in number order. -/
def State.itemEns (s : State) (i : Item) : List Nat :=
  match s.itemProfile i with
  | none => []
  | some p =>
    let m := match i.chan with | .inp => p.inEns | .outp => p.outEns
    (List.range 256).filter fun e => bitOf e m && ((s.qmodel i.quire).ens e).isSome

/-! ### The feature vector -/

/-- The score of an item in a score slot; a slot that no classifier of the item writes reads 0. -/
def scoreOf (q : QModel) (i : Item) (slot : Nat) : Int :=
  (i.cls.findSome? fun c =>
    (q.cls c.num).bind fun d => if d.firstSlot ≤ slot then c.scores[slot - d.firstSlot]? else none).getD 0

/-- The value of a feature (Table 8.5); none when it is not present. -/
def State.featValue (s : State) (i : Item) (d : FeatDesc) : Option Int :=
  let f := s.folio i.folio
  if d.source = 1 then some (Sparse.get (fun _ => 0) i.work.counters d.index : Nat)
  else if d.source = 2 then some (scoreOf (s.qmodel i.quire) i d.index)
  else if d.source = 3 then Sparse.get (fun _ => none) (s.frun i.folio).attrs d.index
  else if d.source = 4 then
    if d.index = 0 then (match i.chan with | .inp => some (i.order : Nat) | .outp => none)
    else if d.index = 1 then (match i.chan with | .inp => some (i.tokens.length : Nat) | .outp => none)
    else if d.index = 2 then some (f.promptLen : Nat)
    else if d.index = 3 then some (f.outRel : Nat)
    else none
  else none

/-- The feature vector of an item (R200): the features of its quire that have a source. -/
def State.vector (s : State) (i : Item) : Sparse (Option Int) :=
  (s.qmodel i.quire).cfg.features.foldl
    (fun m x => Sparse.set (fun _ => none) m x.1 (s.featValue i (parseFeat x.2))) []

/-! ### Dispatch (R212) -/

/-- The engines of a channel in a quire that take new work (R111, R113). -/
def State.engines (s : State) (q : Nat) (c : Chan) : List Nat :=
  let no := s.adm.groups q .outp
  let l := (List.range 8).filter fun m => match c with | .inp => decide (m < 8 - no) | .outp => decide (8 - no ≤ m)
  l.filter fun m => match s.adm.fence with | some (fq, g, _) => !(fq == q && g == m) | none => true

/-- Samples that an engine holds or has queued. -/
def Eng.load (e : Eng) (q m : Nat) : Nat := (e.samples.filter fun x => x.quire == q && x.twe == m).length

/-- Dispatch one tree to the engine with the fewest samples, the lowest number among equals. -/
def State.dispatchTree (i : Item) (ens tree : Nat) (s : State) : State :=
  match minBy (fun a b => s.eng.load i.quire a < s.eng.load i.quire b) (s.engines i.quire i.chan) with
  | none => s
  | some m =>
    { s with eng := { s.eng with samples := s.eng.samples ++
        [{ item := i.id, quire := i.quire, twe := m, ens := ens, tree := tree, started := false, node := 0, level := 0 }] } }

/-- A fresh accumulator at BASE (R208, R216). -/
def Acc.start (e : Nat) (d : EnsDesc) : Acc :=
  { ens := e, sum := d.base, residue := mod7 d.base, next := 0, waiting := [], decided := none }

/-- Build the vector and dispatch every tree of every ensemble, in order (R200, R212). -/
def State.startTrees (i : Item) (s : State) : State :=
  let q := s.qmodel i.quire
  let es := (s.itemEns i).filterMap fun e => (q.ens e).map fun d => (e, d)
  let s := s.updItem i.id fun i => { i with fv := some (s.vector i), accs := es.map fun x => Acc.start x.1 x.2 }
  es.foldl (fun s x => (List.range x.2.trees).foldl (fun s k => s.dispatchTree i x.1 (x.2.firstTree + k)) s) s

/-! ### The choice of a token (R252 to R262) -/

/-- Count entries in the region of the binding (TSU_COUNT_CAP) and entries that folios hold. -/
def State.countCap (s : State) : Nat := ((s.region? 3).map fun r => r.size / 8).getD 0
def State.countUsed (s : State) : Nat := sumOf (fun x => x.2.entries) s.ldg.runs

/-- Count one occurrence of a token. -/
def addCount (m : Sparse Nat) (t : Nat) : Sparse Nat := Sparse.upd (fun _ => 0) m t (· + 1)

/-- The entries that an item allocates before it selects: the prompt's tokens at the folio's first list when they are
counted, and one spare entry for its own token (R254, R256). The result is the folio's counts afterwards. -/
def State.countNeed (s : State) (i : Item) : Nat × FRun :=
  let r := s.frun i.folio
  let p := parseSel (s.folio i.folio).selectParams
  let first := p.countPrompt && !r.promptCounted
  let counts := if first then r.prompt.foldl addCount r.counts else r.counts
  let new := counts.length - r.counts.length
  let need := new + (if r.spare = 0 then 1 else 0)
  (need, { r with counts := counts, promptCounted := r.promptCounted || first, spare := 1, entries := r.entries + need })

/-- The masks of an item: those of its searches, or every candidate under rule 0xFFFF when a deciding output ensemble
decided 1 (R252). -/
def maskedList (q : QModel) (i : Item) : List (Nat × Nat) :=
  let all := i.accs.any fun a => a.decided == some true && ((q.ens a.ens).map (·.decides)).getD false
  if all then (List.range i.cands.length).map fun k => (k, 0xFFFF) else i.masks

/-- The choice among the candidates that are not masked (R255 to R261). -/
def State.choose (i : Item) (masks : List (Nat × Nat)) (counts : Sparse Nat) (s : State) : Choice :=
  let f := s.folio i.folio
  let p := parseSel f.selectParams
  let ls := (i.cands.zipIdx.filter fun x => !(masks.any fun m => m.1 == x.2)).map fun x =>
    (x.2, penalise p x.1.logit (Sparse.get (fun _ => 0) counts x.1.token))
  chooseFrom p f.seed f.nextPos ls

/-- Selection: entries are allocated, the masks stand, a token is chosen (R253 to R262). An item that cannot allocate
never completes (R256); an uncorrectable count entry is a fault of its folio (Table 15.2). -/
def State.select (i : Item) (countEcc : Bool) (s : State) : State :=
  let n := s.countNeed i
  if countEcc then s.fault [i.folio] { block := 5, status := 0x40, quire := 0xFF, engine := 0xFF, addr := 0 } true
  else if s.countCap < s.countUsed + n.1 then
    ((s.updItem i.id fun i => { i with countFull := true }).inc R.TSU_COUNT_FULL_COUNT).see F.TSU_STATUS_COUNT_FULL_SEEN
  else
    let masks := maskedList (s.qmodel i.quire) i
    let c := s.choose i masks n.2.counts
    let s := (s.setRun i.folio n.2).updItem i.id fun i => { i with masks := masks, result := some (.token c) }
    let s := (s.incBy R.TSU_MASKED_COUNT masks.length).finishRes i.id .tsu
    match c with
    | .chosen .. => s.inc R.TSU_SELECT_COUNT
    | .allMasked => s

/-! ### From stage to stage -/

/-- The verdict of an input block: BLOCK when a deciding ensemble decided 1 (R210), with the lowest such ensemble and
their number (Table 13.5). -/
def State.decideBlock (i : Item) (s : State) : State :=
  let q := s.qmodel i.quire
  let ones := (i.accs.filter fun a => a.decided == some true && ((q.ens a.ens).map (·.decides)).getD false).map (·.ens)
  s.updItem i.id fun i =>
    { i with result := some (if ones.isEmpty then .pass else .block), blocker := ones.head?.getD 0xFFFF,
             blockers := ones.length }

/-- Every ensemble of an item has decided. -/
def Item.decided (i : Item) : Bool := i.fv.isSome && i.accs.all fun a => a.decided.isSome

/-- The item takes its next stage when all that the stage needs is there: the vector and its trees (R200, R238), then
the verdict or the choice (R210, R253). -/
def State.advanceItem (id : Nat) (countEcc : Bool) (s : State) : State :=
  let s := match s.item? id with
    | some i =>
      if i.phase = Phase.admitted && i.fetched && i.srchDone && !i.neverDone && i.fv.isNone && i.cls.all ClsRun.done then
        let s := s.startTrees i
        if (s.itemEns i).isEmpty then s.finishRes id .twe else s
      else s
    | none => s
  match s.item? id with
  | some i =>
    if i.phase = Phase.admitted && i.decided && i.result.isNone && !i.neverDone then
      match i.chan with
      | .inp => s.decideBlock i
      | .outp => s.select i countEcc
    else s
  | none => s

/-! ### TWE_STEP (R202 to R218) -/

/-- A fault of an item on a Tree Walk Engine (R218). -/
def State.tweFault (x : Sample) (status addr : Nat) (seen : Fld) (folio : Nat) (s : State) : State :=
  let s := ((s.see seen).setFld (F.QUIRE_TWE_STATUS_LAST_ENGINE x.quire) x.twe).inc (R.QUIRE_TWE_FAULT_COUNT x.quire)
  s.fault [folio] { block := 1, status := status, quire := x.quire, engine := x.twe, addr := addr } false

/-- The two samples are of the same tree of the same item. -/
def Sample.same (x y : Sample) : Bool := y.item == x.item && y.ens == x.ens && y.tree == x.tree

/-- Change a sample. -/
def State.updSample (x : Sample) (g : Sample → Sample) (s : State) : State :=
  { s with eng := { s.eng with samples := updateWhere x.same g s.eng.samples } }

/-- Take a sample out of its engine. -/
def State.freeSample (x : Sample) (s : State) : State :=
  { s with eng := { s.eng with samples := s.eng.samples.filter fun y => !x.same y } }

/-- Move a sample to its next node. -/
def State.moveSample (x : Sample) (node : Nat) (s : State) : State :=
  s.updSample x fun y => { y with node := node, level := x.level + 1 }

/-- What adding the waiting leaves in tree order gives: the accumulator, or the status of the failed check. -/
inductive AccRes where
  | ok (a : Acc)
  | bad (status : Nat) (a : Acc)
  deriving DecidableEq, Repr

/-- Add the leaves that wait, lowest tree first, as far as they follow one another (R207 to R209, R216). `badTree`: the
tree whose addition an upset corrupts. -/
def addLeaves (d : EnsDesc) (badTree : Option Nat) : Nat → Acc → AccRes
  | 0, a => .ok a
  | n + 1, a =>
    match a.waiting.find? fun w => w.1 == d.firstTree + a.next with
    | none => .ok a
    | some (t, v) =>
      let add := leafAddend v d.leafShift
      let sum := a.sum + add
      let res := (a.residue + mod7 add) % 7
      if overflow64 sum then .bad 0x43 a
      else if badTree = some t || mod7 sum ≠ res then .bad 0x42 a
      else addLeaves d badTree n
        { a with sum := sum, residue := res, next := a.next + 1, waiting := a.waiting.filter fun w => w.1 != t }

/-- An ensemble that has added its last tree decides (R210). -/
def Acc.decide (d : EnsDesc) (a : Acc) : Acc :=
  if a.next = d.trees then { a with decided := some (Decidable.decide (d.threshold ≤ a.sum)) } else a

/-- A leaf is delivered to its accumulator (R208). -/
def State.deliver (x : Sample) (i : Item) (value : Nat) (res : Bool) (s : State) : State :=
  let s := (s.freeSample x).inc (R.QUIRE_TWE_TREE_COUNT x.quire)
  match (s.qmodel x.quire).ens x.ens, i.accs.find? fun a => a.ens == x.ens with
  | some d, some a =>
    match addLeaves d (if res then some x.tree else none) (a.waiting.length + 1) { a with waiting := a.waiting ++ [(x.tree, value)] } with
    | .ok a => s.updItem i.id fun i => { i with accs := updateWhere (fun b => b.ens == x.ens) (fun _ => a.decide d) i.accs }
    | .bad st a =>
      let s := s.updItem i.id fun i => { i with accs := updateWhere (fun b => b.ens == x.ens) (fun _ => a) i.accs }
      s.tweFault x st 0 (if st = 0x43 then F.QUIRE_TWE_STATUS_OVERFLOW_SEEN x.quire else F.QUIRE_TWE_STATUS_RESIDUE_SEEN x.quire) i.folio
  | _, _ => s

/-- A missing value or an unseen category at a node is counted (R205). -/
def State.countTurn (q : Nat) (t : Turn) (s : State) : State :=
  let s := if t.missing then s.inc (R.QUIRE_TWE_MISSING_COUNT q) else s
  if t.unseen then (s.inc (R.QUIRE_TWE_UNSEEN_COUNT q)).see (F.QUIRE_TWE_STATUS_UNSEEN_SEEN q) else s

/-- A word of model memory that is under repair (R394). -/
def State.wordBad (s : State) (q addr n : Nat) : Bool := s.bnd.badWords.any fun w => w.1 == q && addr ≤ w.2 && w.2 < addr + n

/-- One step of one sample (R202, R214). -/
def State.stepSample (x : Sample) (err : Option TweErr) (s : State) : State :=
  let s := { s with eng := { s.eng with visits := Sparse.upd (fun _ => 0) s.eng.visits x.quire fun v => (v + 1) % 2 ^ 64 } }
  let q := s.qmodel x.quire
  match s.item? x.item, q.tree x.tree with
  | some i, some t =>
    if !s.current i || i.phase ≠ Phase.admitted then s.freeSample x
    else
      match q.read t.slot (8 * x.node) 8 with
      | .boundary a => s.tweFault x 0x10 a (F.QUIRE_TWE_STATUS_MEMORY_SEEN x.quire) i.folio
      | .ok bs =>
        let n := parseNode (unle bs)
        if err = some .memory || s.wordBad x.quire (8 * x.node) 8 then
          s.tweFault x 0x40 (8 * x.node) (F.QUIRE_TWE_STATUS_MEMORY_SEEN x.quire) i.folio
        else if n.leaf then s.deliver x i n.low (err = some .residue)
        else if x.level = t.depth then s.tweFault x 0x44 0 (F.QUIRE_TWE_STATUS_DEPTH_SEEN x.quire) i.folio
        else if err = some .compare then s.tweFault x 0x41 0 (F.QUIRE_TWE_STATUS_COMPARE_SEEN x.quire) i.folio
        else
          let tn := goLeft q n (Sparse.get (fun _ => none) (i.fv.getD []) n.feature)
          (s.countTurn x.quire tn).moveSample x (n.low + if tn.left then 0 else 1)
  | _, _ => s.freeSample x

/-- A queued tree starts at its root (R202, R212). -/
def State.startSample (x : Sample) (s : State) : State :=
  let root := (((s.qmodel x.quire).tree x.tree).map (·.root)).getD 0
  s.updSample x fun y => { y with started := true, node := root, level := 0 }

/-- An item whose last ensemble has decided is done on the engines, and takes its next stage (R45, R210). -/
def State.afterTrees (countEcc : Bool) (s : State) (id : Nat) : State :=
  match s.item? id with
  | some i => if i.decided && i.result.isNone then (s.finishRes id .twe).advanceItem id countEcc else s
  | none => s

/-- TWE_STEP of engine m of quire q: queued trees take free slots, at most 512 samples, then every held sample moves one
step (R202, R212). `errs`: checks that fail, by item and tree; `countEcc`: count entries that cannot be read. -/
def doTweStep (q m : Nat) (errs : List (Nat × Nat × TweErr)) (countEcc : Bool) (s : State) : State :=
  let mine := (s.eng.samples.filter fun x => x.quire == q && x.twe == m)
  let held := mine.take 512
  let s := held.foldl (fun s x => if x.started then s else s.startSample x) s
  let now := (s.eng.samples.filter fun x => x.quire == q && x.twe == m && x.started).take 512
  let s := now.foldl (fun s x =>
    s.stepSample x ((errs.find? fun e => e.1 == x.item && e.2.1 == x.tree).map (·.2.2))) s
  (sortNat (now.map (·.item))).foldl (State.afterTrees countEcc) s

end Sys2Proof.Machine
end

