-- ==== Sys2Proof/Machine/PvcCmds.lean ====
section
/-!
DEFINITION. Commands of the Prefix Verdict Cache (R123 to R125, R133, R136).
-/
namespace Sys2Proof.Machine

/-- Invalidations of earlier ticks enter the epochs (R133). -/
def Pvc.foldEpochs (p : Pvc) (tick : Nat) : Pvc :=
  let add (m : Sparse Nat) (t : Nat) : Sparse Nat := Sparse.upd (fun _ => 0) m t fun e => (e + 1) % 256
  let due := p.epochPend.filter fun e => e.1 < tick
  { p with
    epochs := due.foldl (fun m e => match e.2 with
      | some t => add m t
      | none => (List.range 1024).foldl add m) p.epochs
    epochPend := p.epochPend.filter fun e => !(e.1 < tick) }

/-- An invalidation of one tenant or of all: the epochs rise at the end of the tick and a sweep starts; discarded while
one runs (R133). -/
def State.invalidatePvc (tenant : Option Nat) (s : State) : State :=
  if s.flag F.PVC_CMD_RESULT_BUSY then s
  else
    let s := { s with pvc := { s.pvc.foldEpochs s.tick with sweep := some tenant } }
    let s := { s with pvc := { s.pvc with epochPend := s.pvc.epochPend ++ [(s.tick, tenant)] } }
    (s.setFld F.PVC_CMD_RESULT_BUSY 1).setFld F.PVC_CMD_RESULT_STATUS 0

/-- PVC_INVALIDATE_TENANT. -/
def doPvcInvalidateTenant (tenant : Nat) (s : State) : State := s.invalidatePvc (some tenant)

/-- PVC_INVALIDATE_ALL. -/
def doPvcInvalidateAll (s : State) : State := s.invalidatePvc none

/-- PVC_SWEEP_DONE: the sweep has reached every entry; it cannot end in the tick of its command (R133). -/
def doPvcSweepDone (s : State) : State :=
  let p := s.pvc.foldEpochs s.tick
  match p.sweep with
  | none => s
  | some t =>
    if !p.epochPend.isEmpty then s
    else ({ s with pvc := { p.sweepAll s.tick t with sweep := none } }).setFld F.PVC_CMD_RESULT_BUSY 0

/-- A pin ends. -/
def Pvc.unpin (p : Pvc) (id : Nat) : Pvc := { p with pins := p.pins.filter fun x => x.2 != id }

/-- PVC_HIT_COPY_DONE: the copy of a hit ends and its pin with it (R123 to R125). `bad`: the snapshot or the stored
tokens cannot be read, so that the hit is a miss, not counted, and the block is computed (R136). -/
def doPvcHitCopyDone (id : Nat) (bad : Bool) (s : State) : State :=
  match s.pvc.pins.find? fun x => x.2 == id with
  | none => s
  | some (k, _) =>
    let e := s.pvc.ent k
    let s := { s with pvc := s.pvc.unpin id }
    let s := if bad then (({ s with pvc := s.pvc.invalidate k }.inc R.PVC_ECC_COUNT).incBy R.PVC_HIT_COUNT (2 ^ 32 - 1)).see F.PVC_STATUS_ECC_SEEN else s
    match s.item? id with
    | none => s
    | some i =>
      if i.phase ≠ Phase.admitted then s
      else if bad then s.updItem id fun i => { i with copying := false, hitEnt := none, source := .computed }
      else
        let s := s.updItem id fun i =>
          { i with copying := false, work := e.snap, result := some (if e.blocked then .block else .pass) }
        if s.flag F.PVC_CTRL_KEEP_BOOKING then s
        else
          let a := s.adm.unbookAll ((s.item? id).getD i)
          ({ s with adm := a }).updItem id fun i => { i with costs := [] }

end Sys2Proof.Machine
end

