-- ==== Sys2Proof/Machine/AmaCmds.lean ====
section
/-!
DEFINITION. Searches and maintenance of the Associative Match Array (chapters 6 and 7): keys, the next search of an item,
update commands and their sub-steps, roll-forward, scrubbing.
-/
namespace Sys2Proof.Machine

/-! ### Tables and keys (R140 to R143) -/

/-- The local banks of a table, in the table's order. -/
def State.tableBanks (s : State) (t : Nat) : List Nat :=
  match s.bnd.cur with
  | none => []
  | some b => (sortBy (fun (x y : Nat × BankRec) => x.2.order < y.2.order)
      (b.banks.filter fun x => x.2.inTable && x.2.table == t)).map (·.1)

/-- The record of a bank, and its width in units. -/
def State.bankRec (s : State) (m : Nat) : BankRec :=
  match s.bnd.cur with
  | none => .none
  | some b => Sparse.get (fun _ => BankRec.none) b.banks m
def State.tableRec (s : State) (t : Nat) : TableRec :=
  match s.bnd.cur with
  | none => .none
  | some b => Sparse.get (fun _ => TableRec.none) b.tables t
def State.bankWidth (s : State) (m : Nat) : Nat := widthUnits (s.tableRec (s.bankRec m).table).width

/-- The key of position p for tables of w units (Table 6.3): `newest` are the tokens at p, p − 1 and so on. -/
def searchKey (w p profile : Nat) (newest : List Nat) : Nat :=
  let window := if w = 1 then 3 else if w = 2 then 6 else 12
  let toks := (newest.take window).zipIdx.foldl (fun a x => a + x.1 % 2 ^ 20 * 2 ^ (20 * x.2)) 0
  let depth := min (p + 1) window
  if w = 1 then toks + depth * 2 ^ 60 + profile % 4 * 2 ^ 62
  else if w = 2 then toks + depth * 2 ^ 120 + profile % 16 * 2 ^ 124
  else toks + depth * 2 ^ 240 + profile % 4096 * 2 ^ 244

/-- How many positions or candidates an item searches. -/
def Item.searches (i : Item) : Nat := match i.chan with | .inp => i.tokens.length | .outp => i.cands.length

/-- The position and the tokens, newest first, of an item's k-th position or candidate (R142, R143). -/
def State.searchAt (s : State) (i : Item) (k : Nat) : Nat × List Nat :=
  let r := s.frun i.folio
  match i.chan with
  | .inp =>
    let p := 64 * (i.order - 1) + k
    (p, ((r.prompt.take (p + 1)).drop (p - 11)).reverse)
  | .outp =>
    let p := (s.folio i.folio).nextPos
    let hist := r.prompt ++ r.outs
    (p, ((i.cands[k]?).map (·.token)).getD 0 :: (hist.drop (hist.length - 11)).reverse)

/-! ### What a search leaves behind (R185 to R188) -/

/-- Quarantine a slot, with its report (R188): a fault log entry of block 0x04 that touches no folio. -/
def State.quarantine (bank slot : Nat) (s : State) : State :=
  if (s.ama.slot bank slot).quar then s
  else
    let s := { s with ama := s.ama.quarantine bank slot }
    let s := (s.inc (R.QUIRE_AMA_QUARANTINE_COUNT (bank / 32))).see (F.QUIRE_AMA_MAINT_STATUS_QUARANTINE_SEEN (bank / 32))
    s.fltLog { block := 4, status := 0, quire := bank / 32, engine := 0xFF, addr := slot } 0 0xFFFFFFFF

/-- Scrub period of a quire in ns. -/
def State.scrubPeriod (s : State) (q : Nat) : Nat := 1000000 * s.fld (F.QUIRE_AMA_SCRUB_CTRL_PERIOD_MS q)

/-- A slot was discarded (R186, R187): counted, to be scrubbed first, and quarantined when it gives a false hit again
within one scrub period after its scrub. -/
def State.falseHit (bank slot : Nat) (s : State) : State :=
  let q := bank / 32
  let s := (s.inc (R.QUIRE_AMA_FALSE_HIT_COUNT q)).see (F.QUIRE_AMA_MAINT_STATUS_FALSE_HIT_SEEN q)
  let again := match (s.ama.slot bank slot).scrubbedAt with | some t => decide (s.tick ≤ t + s.scrubPeriod q) | none => false
  let due := s.ama.scrubDue
  let s := if due.contains (bank, slot) then s else { s with ama := { s.ama with scrubDue := due ++ [(bank, slot)] } }
  if again then s.quarantine bank slot else s

/-- Everything the banks of a search report. -/
def State.bankReports (rs : List (Nat × BankReport)) (s : State) : State :=
  rs.foldl (fun s r =>
    let s := r.2.discards.foldl (fun s x => s.falseHit r.1 x) s
    r.2.quars.foldl (fun s x => s.quarantine r.1 x) s) s

/-- A bank that gives no answer: its quire is in a reset or needs a restore, its Supervisor is held, or a LOAD or a restore
rewrites the bank (R160, R181, R376, R379, R421). A bank that a LOAD of the window has rewritten does not hold the sealed
binding's entries (DEDUCED). -/
def State.bankOut (s : State) (m : Nat) : Bool :=
  s.bnd.quireOut.contains (m / 32) || s.quireResetting (m / 32) || bitOf (m / 32) (s.fld F.EPD_STATE_QSV_HELD) || s.ama.saves.any fun x => x.bank == m

/-- Search the local part of a table with a key (R144 to R146, R186 to R188). -/
def State.searchLocal (t key : Nat) (us : List AmaUpset) (s : State) : SearchRes × State :=
  let s := { s with ama := s.ama.upset us }
  let r := { s.ama with failed := s.ama.failed ++ (s.tableBanks t).filter s.bankOut }.search us (s.tableBanks t) key (widthUnits (s.tableRec t).width)
  (r.1, s.bankReports r.2)

/-! ### AMA_SEARCH_DONE -/

/-- The ring is UP. -/
def State.ringUp (s : State) : Bool := s.fld F.SHL_CASCADE_STATUS_STATE == 2

/-- What a search result does to its item (R148, R149, R150). -/
def Item.apply (r : SearchRes) (i : Item) : Item :=
  match r, i.chan with
  | .hit _ _ tag _, .inp =>
    { i with work := { i.work with counters := Sparse.upd (fun _ => 0) i.work.counters (tag % 4096) fun c => min 65535 (c + 1) } }
  | .hit _ _ tag _, .outp =>
    if i.masks.any fun m => m.1 == i.srchPos then i else { i with masks := i.masks ++ [(i.srchPos, tag)] }
  | .miss, _ => i
  | .incomplete, _ => { i with incomplete := true }

/-- The pointer to the next search (R143): table by table, then position by position. -/
def Item.nextSearch (tables : Nat) (i : Item) : Item :=
  let i := if i.srchTab + 1 < tables then { i with srchTab := i.srchTab + 1 } else { i with srchTab := 0, srchPos := i.srchPos + 1 }
  { i with srchDone := decide (i.searches ≤ i.srchPos) }

/-- Count a search of an item (chapter 6, counters). -/
def State.countSearch (q : Nat) (r : SearchRes) (s : State) : State :=
  match r with
  | .hit .. => s.inc (R.QUIRE_AMA_HIT_COUNT q)
  | .miss => s
  | .incomplete => (s.inc (R.QUIRE_AMA_INCOMPLETE_COUNT q)).see (F.QUIRE_AMA_STATUS_INCOMPLETE_SEEN q)

/-- A search has its result: it is applied, and the item goes on; after the last one its cost is off the books. -/
def State.finishSearch (id : Nat) (r : SearchRes) (countEcc : Bool) (s : State) : State :=
  match s.item? id with
  | none => s
  | some i =>
    let n := (s.tablesFor i.chan).length
    let s := s.countSearch i.quire r
    let s := s.updItem id fun i => { (Item.nextSearch n (Item.apply r i)) with casc := none }
    match s.item? id with
    | some i => if i.srchDone then (s.finishRes id .ama).advanceItem id countEcc else s
    | none => s

/-- The item may search: it runs, is no cache hit, and its searches are not over; one that came out INCOMPLETE stops none of
them (R143, R146). -/
def State.maySearch (s : State) (i : Item) : Bool :=
  i.phase == Phase.admitted && s.current i && i.kind != .endItem && i.hitEnt.isNone && !i.srchDone

/-- AMA_SEARCH_DONE: the item's next search under R143 has its result. A search of a cascaded table takes the result of
its returned frame, and is INCOMPLETE while the ring is not UP (R157, R159). `us`: upsets of the banks meanwhile. -/
def doAmaSearchDone (id : Nat) (us : List AmaUpset) (countEcc : Bool) (s : State) : State :=
  match s.item? id with
  | none => s
  | some i =>
    if !s.maySearch i then s
    else match (s.tablesFor i.chan)[i.srchTab]? with
      | none => s
      | some (t, rec) =>
        if rec.cascade then
          match i.casc with
          | some r => s.finishSearch id r countEcc
          | none =>
            if s.ringUp || s.casc.flying.any (fun c => c.item == id) then s
            else (s.inc (R.QUIRE_AMA_SEARCH_COUNT i.quire)).finishSearch id .incomplete countEcc
        else
          let a := s.searchAt i i.srchPos
          let key := searchKey (widthUnits rec.width) a.1 i.profile a.2
          let v := s.ama.ver
          let r := s.searchLocal t key us
          let s := r.2.inc (R.QUIRE_AMA_SEARCH_COUNT i.quire)
          let s := s.updItem id fun i => { i with verFirst := some (i.verFirst.getD v), verLast := v }
          s.finishSearch id r.1 countEcc

/-! ### Update commands (R161 to R184) -/

/-- The staged unit u of a quire. -/
def State.stagedUnit (s : State) (q u : Nat) : Unit3 :=
  { value := s.rd (R.QUIRE_AMA_UPD_VALUE_LO q u) + 2 ^ 32 * s.rd (R.QUIRE_AMA_UPD_VALUE_HI q u)
    care := s.rd (R.QUIRE_AMA_UPD_CARE_LO q u) + 2 ^ 32 * s.rd (R.QUIRE_AMA_UPD_CARE_HI q u)
    tag := s.fld (F.QUIRE_AMA_UPD_TAG_TAG q u) }

/-- The staged entry of w units. -/
def State.staged (s : State) (q w : Nat) : Entry := (List.range w).map (s.stagedUnit q)

/-- The running command of a quire, its journal and its wide results. -/
def Ama.updOf (a : Ama) (q : Nat) : Option AmaUpd := Sparse.get (fun _ => none) a.upd q
def Ama.setUpd (a : Ama) (q : Nat) (u : Option AmaUpd) : Ama := { a with upd := Sparse.set (fun _ => none) a.upd q u }
def Ama.jrn (a : Ama) (q : Nat) : AmaJournal := Sparse.get (fun _ => .idle) a.journal q
def Ama.setJrn (a : Ama) (q : Nat) (j : AmaJournal) : Ama := { a with journal := Sparse.set (fun _ => AmaJournal.idle) a.journal q j }
def Ama.resOf (a : Ama) (q : Nat) : AmaUpdRes := Sparse.get (fun _ => .zero) a.res q
def Ama.setRes (a : Ama) (q : Nat) (r : AmaUpdRes) : Ama := { a with res := Sparse.set (fun _ => AmaUpdRes.zero) a.res q r }

/-- A version step of a command in its tick, at a tick boundary (R168, R169, R171, R172). -/
def State.verStep (q kind bank slot : Nat) (units : Entry) (s : State) : State :=
  let t := tickUp s.now
  let a := s.ama.verStep t kind bank (s.bankWidth bank) slot (s.bankRec bank).table units
  let n := s.fld (F.QUIRE_AMA_UPD_RESULT_STEPS q)
  let r := a.resOf q
  let r := { r with ver := a.ver, ver0 := if n = 0 then a.ver else r.ver0, tick0 := if n = 0 then t else r.tick0, tick1 := t }
  ({ s with ama := a.setRes q r }).setFld (F.QUIRE_AMA_UPD_RESULT_STEPS q) (min 2 (n + 1))

/-- A command's result register when the command starts. -/
def State.updStart (q : Nat) (s : State) : State :=
  ({ s with ama := s.ama.setRes q .zero }).wr (R.QUIRE_AMA_UPD_RESULT q) 0

/-- A command ends with a status: BUSY 0, the journal IDLE with its last fields (R161, R180). -/
def State.updEnd (q status : Nat) (s : State) : State :=
  let s := { s with ama := (s.ama.setUpd q none).setJrn q { s.ama.jrn q with state := 0 } }
  ((s.setFld (F.QUIRE_AMA_UPD_RESULT_STATUS q) status).setFld (F.QUIRE_AMA_UPD_RESULT_BUSY q) 0).setFld
    (F.QUIRE_AMA_UPD_RESULT_SUSPENDED q) 0

/-- R162 for a command on a bank of a quire: the state, the bank's table, and the slot (none for CLEAR_BANK). -/
def State.updRefused (s : State) (bank : Nat) (slot : Option Nat) (limit : Nat) : Bool :=
  !(s.dkl.gather == .sealed || s.dkl.gather == .pending) || !(s.bankRec bank).inTable ||
    (s.tableRec (s.bankRec bank).table).cascade ||
    (match slot with | some x => x % s.bankWidth bank != 0 || limit < x | none => false)

/-- A command is taken: lockdown leaves it without effect (R449), a running command discards it (R161), R162 refuses it.
-/
def State.updCmd (q bank : Nat) (slot : Option Nat) (limit : Nat) (f : State → State) (s : State) : State :=
  if s.lockdown || s.flag (F.QUIRE_AMA_UPD_RESULT_BUSY q) then s
  else if s.updRefused bank slot limit then (s.updStart q).setFld (F.QUIRE_AMA_UPD_RESULT_STATUS q) 0x15
  else f (s.updStart q)

/-- A command with sub-steps begins: BUSY, and the journal names it (R161, R180). -/
def State.updBegin (q op bank : Nat) (plan : List AmaMicro) (j : AmaJournal) (s : State) : State :=
  let w := s.bankWidth bank
  let s := { s with ama := (s.ama.setUpd q (some { op := op, bank := bank, entry := s.staged q w, plan := plan, suspended := false })).setJrn q j }
  s.setFld (F.QUIRE_AMA_UPD_RESULT_BUSY q) 1

/-- The journal of a new command. -/
def State.newJournal (s : State) (bank state : Nat) (dir : Bool) (cursor target gutter : Nat) : AmaJournal :=
  { state := state, bank := bank % 32, dir := dir, substep := 0, good := true, cursor := cursor, target := target,
    gutter := gutter, width := (s.tableRec (s.bankRec bank).table).width }

/-- AMA_UPD_WRITE (R162, R165). -/
def doAmaUpdWrite (q m slot : Nat) (s : State) : State :=
  let bank := 32 * q + m
  s.updCmd q bank (some slot) 16383 fun s =>
    if !(s.staged q (s.bankWidth bank)).all Unit3.ok then s.setFld (F.QUIRE_AMA_UPD_RESULT_STATUS q) 0x14
    else s.updBegin q 1 bank (s.ama.writePlan bank slot) (s.newJournal bank 1 false slot slot 0)

/-- AMA_UPD_INVALIDATE (R167, R168, R188): one step, in the command's tick. -/
def doAmaUpdInvalidate (q m slot : Nat) (s : State) : State :=
  let bank := 32 * q + m
  s.updCmd q bank (some slot) 16383 fun s =>
    let e := s.ama.slot bank slot
    let j := s.newJournal bank 0 false slot slot 0
    let s' := { s with ama := (s.ama.setSlot bank slot { e with valid := false, quar := false }).setJrn q j }
    if e.valid then s'.verStep q 2 bank slot [] else s'

/-- AMA_UPD_TIP_IN (R162, R174, R175). -/
def doAmaUpdTipIn (q m slot : Nat) (s : State) : State :=
  let bank := 32 * q + m
  s.updCmd q bank (some slot) 16384 fun s =>
    let w := s.bankWidth bank
    if !(s.staged q w).all Unit3.ok then s.setFld (F.QUIRE_AMA_UPD_RESULT_STATUS q) 0x14
    else
      let p := s.ama.tipPlan bank w slot
      let moved (n : Nat) (d : Bool) (s : State) : State :=
        (s.setFld (F.QUIRE_AMA_UPD_MOVED_COUNT q) n).setFld (F.QUIRE_AMA_UPD_MOVED_DIR q) (b2n d)
      match p with
      | .refuse st => s.setFld (F.QUIRE_AMA_UPD_RESULT_STATUS q) st
      | .place x => moved 0 false (s.updBegin q 3 bank (tipSteps w p) (s.newJournal bank 3 false x x x))
      | .move d n g t =>
        moved n d (s.updBegin q 3 bank (tipSteps w p) (s.newJournal bank (if n = 0 then 3 else 2) d g t g))

/-- AMA_UPD_CLEAR_BANK (R167, R168): one step, in the command's tick. -/
def doAmaUpdClearBank (q m : Nat) (s : State) : State :=
  let bank := 32 * q + m
  s.updCmd q bank none 0 fun s => ({ s with ama := (s.ama.clearBank bank).setJrn q (s.newJournal bank 0 false 0 0 0) }).verStep q 3 bank 0 []

/-- A position with these units in shadow and cells, not valid. -/
def AmaSlot.fill (e : AmaSlot) (units : Entry) (endQuar : Bool) : AmaSlot :=
  { e with units := units, cells := units.cells, valid := false, quar := e.quar && !endQuar }

/-- The journal's SUBSTEP after a micro-step, and its cursor after a copy. -/
def AmaJournal.after (j : AmaJournal) (left : List AmaMicro) : AmaMicro → AmaJournal
  | .clear _ _ => { j with substep := 0 }
  | .copy _ _ => { j with substep := 1 }
  | .put _ => { j with substep := 1 }
  | .validate _ _ none => { j with substep := 2 }
  | .validate _ _ (some c) =>
    { j with substep := 0, cursor := c,
             state := if left.any (fun m => match m with | .copy _ _ => true | _ => false) then 2 else 3 }

/-- The slot that the copy at the front of a plan reads, before the copy clears the duplicate at its destination. -/
def copySource : List AmaMicro → Option Nat
  | .copy _ src :: _ => some src
  | .clear _ false :: .copy _ src :: _ => some src
  | _ => none

/-- One sub-step of a running command takes effect (R165, R176); a copy whose source cannot be read, or is quarantined,
stops the command with 0x15 REFUSED, with the duplicate at its destination left (corner of chapter 7). -/
def State.microStep (q : Nat) (u : AmaUpd) (srcBad : Bool) (s : State) : State :=
  match u.plan with
  | [] => s.updEnd q 0
  | mc :: rest =>
    let b := u.bank
    match (copySource u.plan).filter fun src => srcBad || (s.ama.slot b src).quar with
    | some src => (s.quarantine b src).updEnd q 0x15
    | none =>
      let s := match mc with
        | .clear x ver =>
          let s' := { s with ama := s.ama.setSlot b x { s.ama.slot b x with valid := false } }
          if ver then s'.verStep q 2 b x [] else s'
        | .copy d x => { s with ama := s.ama.setSlot b d ((s.ama.slot b d).fill (s.ama.slot b x).units false) }
        | .put x => { s with ama := s.ama.setSlot b x ((s.ama.slot b x).fill u.entry true) }.setFld (F.QUIRE_AMA_UPD_RESULT_PLACED_SLOT q) x
        | .validate x ver cur =>
          let s' := { s with ama := s.ama.setSlot b x { s.ama.slot b x with valid := true } }
          let s' := if ver then s'.verStep q 1 b x u.entry else s'
          if cur.isSome then s'.inc (R.QUIRE_AMA_MOVE_COPY_COUNT q) else s'
      let s := { s with ama := (s.ama.setUpd q (some { u with plan := rest })).setJrn q ((s.ama.jrn q).after rest mc) }
      if rest.isEmpty then s.updEnd q 0 else s

/-- AMA_UPD_SUBSTEP: the next sub-step of a quire's command, while it is not suspended (R176, R184). -/
def doAmaUpdSubstep (q : Nat) (srcBad : Bool) (s : State) : State :=
  match s.ama.updOf q with
  | some u => if u.suspended then s else s.microStep q u srcBad
  | none => s

/-- Running commands stop at the end of their sub-step (R184). -/
def State.suspendUpds (s : State) : State :=
  (List.range 8).foldl (fun s q =>
    match s.ama.updOf q with
    | some u => ({ s with ama := s.ama.setUpd q (some { u with suspended := true }) }).setFld (F.QUIRE_AMA_UPD_RESULT_SUSPENDED q) 1
    | none => s) s

/-- After a seal, suspended commands of these quires run on, or end with 0x27 when the binding loaded their bank (R184). -/
def State.resumeUpds (quires loaded : List Nat) (s : State) : State :=
  quires.foldl (fun s q =>
    match s.ama.updOf q with
    | some u =>
      if !u.suspended then s
      else if loaded.contains u.bank then s.updEnd q 0x27
      else ({ s with ama := s.ama.setUpd q (some { u with suspended := false }) }).setFld (F.QUIRE_AMA_UPD_RESULT_SUSPENDED q) 0
    | none => s) s

/-- The rest of a command's plan, run at once. -/
def State.runPlan (q : Nat) : Nat → State → State
  | 0, s => s
  | n + 1, s =>
    match s.ama.updOf q with
    | some u => State.runPlan q n (s.microStep q u false)
    | none => s

/-- The start after a warm or quire reset: a command is rolled forward from a good journal (R181, R182), or its bank is
FAILED when the journal fails its check (R183). A command suspended at a drain stays suspended (R184). -/
def State.rollForward (q : Nat) (journalBad : Bool) (s : State) : State :=
  match s.ama.updOf q with
  | none => s
  | some u =>
    if journalBad then
      let s := { s with ama := { s.ama.setJrn q { s.ama.jrn q with good := false } with
          failed := if s.ama.failed.contains u.bank then s.ama.failed else s.ama.failed ++ [u.bank] } }
      (s.updEnd q 0x15).see (F.QUIRE_AMA_MAINT_STATUS_JOURNAL_BAD_SEEN q)
    else if u.suspended then s
    else (s.runPlan q u.plan.length).setFld (F.QUIRE_AMA_UPD_RESULT_RESUMED q) 1

/-! ### Scrubbing (R189) -/

/-- The entry position that covers a slot of a bank. -/
def State.entryAt (s : State) (bank slot : Nat) : Nat := slot - slot % s.bankWidth bank

/-- Rewrite the cells of an entry position from its shadow where they differ. -/
def State.scrubEntry (bank slot : Nat) (s : State) : State :=
  let e := s.ama.slot bank slot
  if e.cells = e.units.cells then s
  else
    let q := bank / 32
    ((({ s with ama := s.ama.setSlot bank slot { e with cells := e.units.cells } })).inc (R.QUIRE_AMA_SCRUB_FIX_COUNT q)).see
      (F.QUIRE_AMA_MAINT_STATUS_SCRUB_FIX_SEEN q)

/-- AMA_SCRUB_VISIT of a bank: a slot discarded by a search comes before the sweep's next slot (R186, R189). `us`: upsets
of the bank's cells meanwhile; `bad`: the slot's shadow cannot be read (R188). -/
def doAmaScrubVisit (bank : Nat) (us : List AmaUpset) (bad : Bool) (s : State) : State :=
  let s := { s with ama := s.ama.upset us }
  match s.ama.scrubDue.find? fun x => x.1 == bank with
  | some (_, slot) =>
    let s := { s with ama := { s.ama with scrubDue := s.ama.scrubDue.filter (· != (bank, slot)) } }
    if bad then s.quarantine bank slot
    else
      let s := s.scrubEntry bank slot
      { s with ama := s.ama.setSlot bank slot { s.ama.slot bank slot with scrubbedAt := some s.tick } }
  | none =>
    let n := Sparse.get (fun _ => 0) s.ama.scrubNext bank
    let s := { s with ama := { s.ama with scrubNext := Sparse.set (fun _ => 0) s.ama.scrubNext bank ((n + 1) % 16384) } }
    let slot := s.entryAt bank n
    if bad then s.quarantine bank slot else s.scrubEntry bank slot

end Sys2Proof.Machine
end

