-- ==== Sys2Proof/Machine/CascadeCmds.lean ====
section
/-!
DEFINITION. Events of the match cascade (R151 to R160): training, searches sent and returned, other chips' frames, loss.
-/
namespace Sys2Proof.Machine

/-- Cascade map ID of the sealed binding (SHL_CASCADE_CMAP). -/
def State.cmapId (s : State) : Nat := (s.bnd.cur.map fun b => b.manifest.cmapId).getD 0

/-- Change the ring's state. -/
def State.updCasc (g : Casc → Casc) (s : State) : State := { s with casc := g s.casc }

/-- Training starts (Table 6.5 step 1). -/
def State.cascTrain (s : State) : State :=
  (s.updCasc fun c => { c with trainAt := s.now, closedAt := none, lockedOk := false, noGood := 0, crcRun := 0, lastReason := 0 }).setFld
    F.SHL_CASCADE_STATUS_STATE 1

/-- A search on the ring ends without a result: INCOMPLETE (R158, R159). -/
def State.cascLost (c : CSearch) (s : State) : State :=
  let s := s.updCasc fun x => { x with flying := x.flying.filter fun y => y.searchId != c.searchId }
  s.updItem c.item fun i => { i with casc := some .incomplete }

/-- What a seal does to the ring (R154): the chip joins with SIZE and POSITION, or leaves; searches still on the ring
belong to no item that waits (R62), and are dropped (R150). -/
def State.cascSeal (s : State) : State :=
  if s.flag F.SHL_CASCADE_CTRL_ENABLE then
    let s := s.updCasc fun c =>
      { c with joined := true, n := s.fld F.SHL_CASCADE_CTRL_SIZE, pos := s.fld F.SHL_CASCADE_CTRL_POSITION, downAt := none,
               flying := [] }
    s.cascTrain
  else (s.updCasc fun c => { c with joined := false, downAt := none, flying := [] }).setFld F.SHL_CASCADE_STATUS_STATE 0

/-- The ring goes DOWN with a reason (R159, Table 6.5 step 6). -/
def State.cascDown (reason : Nat) (s : State) : State :=
  let s := s.casc.flying.foldl (fun s c => s.cascLost c) s
  let s := (s.setFld F.SHL_CASCADE_STATUS_STATE 3).setFld F.SHL_CASCADE_STATUS_REASON reason
  let s := (s.see F.SHL_CASCADE_STATUS_DOWN_SEEN).inc R.SHL_CASCADE_DOWN_COUNT
  s.updCasc fun c => { c with downAt := some s.now, noGood := 0, crcRun := 0 }

/-- Put a frame on MATCH_OUT. -/
def State.cascSend (f : CFrame) (s : State) : State := s.updCasc fun c => { c with sent := (s.now, f) :: c.sent }

/-- The EMPTY frame of this chip for a slot, with its cascade map (Table 6.4). -/
def State.emptyFrame (s : State) (slot : Nat) : CFrame := { CFrame.empty slot with cmap := s.cmapId }

/-- The TRAIN frame of this chip for a slot (Table 6.4). -/
def State.trainFrame (s : State) (slot : Nat) : CFrame :=
  { CFrame.empty slot with
    type := 2, key := s.casc.pos + 256 * s.casc.n + 65536 * b2n s.casc.closedAt.isSome, cmap := s.cmapId }

/-- The item may send its next search on the ring. -/
def State.mayCascade (s : State) (i : Item) : Bool :=
  s.maySearch i && i.casc.isNone && !(s.casc.flying.any fun c => c.item == i.id) &&
    (match (s.tablesFor i.chan)[i.srchTab]? with | some (_, r) => r.cascade | none => false)

/-- The SEARCH frame of an item's next search (R155). -/
def State.searchFrame (i : Item) (slot : Nat) (s : State) : CFrame :=
  match (s.tablesFor i.chan)[i.srchTab]? with
  | none => .empty slot
  | some (t, r) =>
    let a := s.searchAt i i.srchPos
    { CFrame.empty slot with
      type := 1, table := t, width := r.width, cmap := s.cmapId, key := searchKey (widthUnits r.width) a.1 i.profile a.2,
      searchId := s.casc.nextId }

/-- CASCADE_SLOT_SEND: what this chip puts into a slot that it owns: a search of the named item, its EMPTY frame, or a
TRAIN frame while the ring trains (R152 to R155). -/
def doCascadeSlotSend (slot id : Nat) (s : State) : State :=
  let st := s.fld F.SHL_CASCADE_STATUS_STATE
  if !s.casc.joined then s
  else if st = 1 then s.cascSend (s.trainFrame slot)
  else if st ≠ 2 || s.casc.n = 0 || slot % s.casc.n ≠ s.casc.pos || 16 * s.casc.n ≤ slot ||
      s.casc.flying.any (fun c => c.slot == slot) then s
  else
    match s.item? id with
    | some i =>
      if s.mayCascade i then
        let f := s.searchFrame i slot
        let s := (s.cascSend f).updCasc fun c =>
          { c with nextId := (c.nextId + 1) % 2 ^ 32,
                   flying := c.flying ++ [{ searchId := f.searchId, item := i.id, slot := slot, frame := f }] }
        (s.inc R.SHL_CASCADE_SENT_COUNT).inc (R.QUIRE_AMA_SEARCH_COUNT i.quire)
      else s.cascSend (s.emptyFrame slot)
    | none => s.cascSend (s.emptyFrame slot)

/-- A bank that holds part of a table gives no answer, so that the part is marked INCOMPLETE (R160, R376, R421). -/
def State.partOut (s : State) (t : Nat) : Bool := (s.tableBanks t).any s.bankOut

/-- The local result for a frame, and whether this chip has a part of its table. -/
def State.localPart (f : CFrame) (us : List AmaUpset) (s : State) : (Bool × SearchRes) × State :=
  if (s.tableBanks f.table).isEmpty || !(s.tableRec f.table).cascade then ((false, .miss), s)
  else if s.partOut f.table then ((true, .incomplete), s)
  else
    let r := s.searchLocal f.table f.key us
    ((true, r.1), r.2)

/-- Merge the local result into a frame (R156); a different cascade map is counted. -/
def State.mergeFrame (f : CFrame) (us : List AmaUpset) (s : State) : CFrame × State :=
  if f.cmap ≠ s.cmapId then (f.merge s.cmapId s.casc.pos true .miss, s.see F.SHL_CASCADE_STATUS_MISMATCH_SEEN)
  else
    let r := s.localPart f us
    (f.merge s.cmapId s.casc.pos r.1.1 r.1.2, r.2)

/-- The result that a returned frame gives its sender (R146, R157). -/
def CFrame.result (f : CFrame) : SearchRes :=
  if f.incomplete || f.mismatch then .incomplete
  else if f.hit then .hit (32 * f.quire + f.bank) f.wslot f.tag f.ext
  else .miss

/-- This chip's own slot comes round: its search returns merged, or is lost (R157, R158). -/
def State.cascReturn (slot : Nat) (f : CFrame) (us : List AmaUpset) (s : State) : State :=
  match s.casc.flying.find? fun c => c.slot == slot with
  | none => s
  | some c =>
    if f.type ≠ 1 || f.searchId ≠ c.searchId then s.cascLost c
    else
      let r := s.mergeFrame f us
      let s := r.2.updCasc fun x => { x with flying := x.flying.filter fun y => y.searchId != c.searchId }
      s.updItem c.item fun i => { i with casc := some r.1.result }

/-- A frame with a CRC error: counted, replaced by an ERROR frame, and after 4 in a row or 16 slots without a good one
the ring is DOWN (R158, R159). -/
def State.cascBadCrc (slot : Nat) (s : State) : State :=
  let s := (s.inc R.SHL_CASCADE_CRC_COUNT).see F.SHL_CASCADE_STATUS_CRC_SEEN
  let s := s.updCasc fun c => { c with noGood := c.noGood + 1, crcRun := c.crcRun + 1 }
  if s.fld F.SHL_CASCADE_STATUS_STATE ≠ 2 then s
  else
    let s := if s.casc.n ≠ 0 && slot % s.casc.n = s.casc.pos then s.cascReturn slot (.error slot) [] else s.cascSend (.error slot)
    if 4 ≤ s.casc.crcRun then s.cascDown 6 else if 16 ≤ s.casc.noGood then s.cascDown 5 else s

/-- A TRAIN frame while the ring trains (Table 6.5 steps 2 to 4). -/
def State.cascTrainRx (slot : Nat) (f : CFrame) (s : State) : State :=
  let up := f.key % 256
  let n := f.key / 256 % 256
  if (up + 1) % s.casc.n ≠ s.casc.pos then s.updCasc fun c => { c with lastReason := 2 }
  else if n ≠ s.casc.n then s.updCasc fun c => { c with lastReason := 3 }
  else
    let closed := if s.casc.pos = 0 then f.slot == slot else f.key / 65536 % 256 == 1
    s.updCasc fun c =>
      { c with lockedOk := true, lastReason := 0, closedAt := if closed && c.closedAt.isNone then some s.now else c.closedAt }

/-- CASCADE_FRAME_RX: 64 bytes arrive in a slot, numbered by this chip's own count (R153 to R158, R160). `us`: upsets of
the banks that search. -/
def doCascadeFrameRx (slot : Nat) (bs : Bytes) (us : List AmaUpset) (s : State) : State :=
  if !s.casc.joined || s.casc.n = 0 then s
  else if !frameCrcOk bs then s.cascBadCrc slot
  else
    let s := s.updCasc fun c => { c with noGood := 0, crcRun := 0 }
    let f := parseFrame bs
    let st := s.fld F.SHL_CASCADE_STATUS_STATE
    if st = 1 then if f.type = 2 then s.cascTrainRx slot f else s
    else if st ≠ 2 then s
    else if slot % s.casc.n = s.casc.pos then s.cascReturn slot f us
    else if f.type = 1 then
      let r := s.mergeFrame f us
      r.2.cascSend r.1
    else s.cascSend { f with slot := slot }

/-- CASCADE_RING_DOWN: 16 consecutive slots without a good frame (R159). -/
def doCascadeRingDown (s : State) : State := if s.ringUp then s.cascDown 5 else s

/-- CASCADE_RING_UP: 16 N slots of 5 ns after the closed frame (Table 6.5 step 5). -/
def doCascadeRingUp (s : State) : State :=
  match s.casc.closedAt with
  | none => s
  | some t =>
    if s.fld F.SHL_CASCADE_STATUS_STATE = 1 && t + 80 * s.casc.n ≤ s.now then s.setFld F.SHL_CASCADE_STATUS_STATE 2 else s

/-- CASCADE_TRAIN_TIMEOUT: 100 µs after training began the ring is not UP (Table 6.5 step 6). -/
def doCascadeTrainTimeout (s : State) : State :=
  if s.fld F.SHL_CASCADE_STATUS_STATE = 1 && s.casc.trainAt + 100000 ≤ s.now then
    s.cascDown (if s.casc.lastReason ≠ 0 then s.casc.lastReason else if s.casc.lockedOk then 4 else 1)
  else s

/-- CASCADE_RETRAIN_TIMER: 1 ms after the loss, training starts again while ENABLE stays 1 (R154). -/
def doCascadeRetrainTimer (s : State) : State :=
  match s.casc.downAt with
  | none => s
  | some t =>
    if s.casc.joined && s.fld F.SHL_CASCADE_STATUS_STATE = 3 && t + 1000000 ≤ s.now then s.cascTrain else s

end Sys2Proof.Machine
end

