-- ==== Sys2Proof/Machine/Tiles.lean ====
section
/-!
DEFINITION. The analogue tiles and the Exact Lanes (chapter 9): the fold of the running activations, rows and passes,
certification, re-runs, calibration and the demand window.
-/
namespace Sys2Proof.Machine

/-! ### Tiles -/

/-- Tile t of quire q. -/
def State.tile (s : State) (q t : Nat) : Tile := Sparse.get (fun _ => .blank) s.eng.tiles (32 * q + t)

/-- Change tile t of quire q. -/
def State.updTile (q t : Nat) (g : Tile → Tile) (s : State) : State :=
  { s with eng := { s.eng with tiles := Sparse.upd (fun _ => .blank) s.eng.tiles (32 * q + t) g } }

/-- The calibration of a tile is valid now (R230). -/
def Tile.validAt (t : Tile) (now : Nat) : Bool :=
  t.valid && !t.disabled && decide (now < t.calAt + 12000000) && decide (t.temp ≤ t.tCal + 3 ∧ t.tCal ≤ t.temp + 3)

/-- A tile that failed three times in a row stays DISABLED until a quire reset (R231). -/
def Tile.out (t : Tile) : Bool := decide (3 ≤ t.failRun)

/-- The tile takes a row of this classifier and channel (R225, R231, Table 9.4). -/
def Tile.takes (t : Tile) (cls : Nat) (c : Chan) : Bool :=
  !t.running && !t.disabled && !t.calibrating && decide (t.rows.length < 8) &&
    match t.rows with
    | [] => true
    | r :: _ => r.cls == cls && t.chan == c

/-- The tile that the next row is loaded into: one that holds rows of its pass, else an empty one, the lowest number
first, none that rejects the row (R225). -/
def State.pickTile (s : State) (q : Nat) (cls : Nat) (c : Chan) (rejects : List Nat) : Option Nat :=
  let all := ((s.engines q c).flatMap fun g => (List.range 4).map fun k => 4 * g + k).filter fun t =>
    (s.tile q t).takes cls c && !rejects.contains t
  (all.find? fun t => !(s.tile q t).rows.isEmpty).orElse fun _ => all.head?

/-- A pass starts; its calibration is checked (R225, R230). -/
def State.startPass (q t : Nat) (s : State) : State :=
  let ok := (s.tile q t).validAt s.now
  let s := s.updTile q t fun t => { t with running := true, passStale := !ok, stale := !ok }
  if ok then s else s.see (F.QUIRE_AMT_STATUS_STALE_SEEN q)

/-- Change a classifier run of an item. -/
def State.updCls (id cls : Nat) (g : ClsRun → ClsRun) (s : State) : State :=
  s.updItem id fun i => { i with cls := updateWhere (fun c => c.num == cls) g i.cls }

/-- Load the row of an item's classifier; a row that no tile takes waits (R225). -/
def State.loadRow (id cls : Nat) (rejects : List Nat) (s : State) : State :=
  match s.item? id with
  | none => s
  | some i =>
    match s.pickTile i.quire cls i.chan rejects with
    | none => { s with eng := { s.eng with waitRows := s.eng.waitRows ++ [(id, cls)] } }
    | some t =>
      let x := ((i.cls.find? fun c => c.num == cls).map (·.x)).getD []
      let s := s.updTile i.quire t fun tl =>
        { tl with chan := i.chan, rows := tl.rows ++ [{ item := id, cls := cls, x := x, at_ := s.now }] }
      let s := s.updCls id cls fun c => { c with status := .onTile }
      if (s.tile i.quire t).rows.length = 8 then s.startPass i.quire t else s

/-- Rows that wait are tried again, in order. -/
def State.loadWaiting (s : State) : State :=
  s.eng.waitRows.foldl (fun s w => s.loadRow w.1 w.2 []) { s with eng := { s.eng with waitRows := [] } }

/-! ### Faults of the analogue path (R243) -/

/-- Items stopped under R242 or R243, with their fault (Table 15.2). -/
def State.xlFault (q : Nat) (items : List Item) (i : FaultInfo) (damaged : Bool) (seen : Option Fld) (s : State) : State :=
  let s := s.incBy (R.QUIRE_XL_FAULT_COUNT q) items.length
  let s := match seen with | some f => s.see f | none => s
  s.fault (items.map Item.folio) i damaged

/-- A word with an uncorrectable error among the weights, biases and witness sums of a classifier (R243, R394). -/
def State.clsBadWord (s : State) (q : Nat) (c : ClsDesc) : Option Nat :=
  let hit (a n : Nat) : Option Nat := (s.bnd.badWords.find? fun w => w.1 == q && a ≤ w.2 && w.2 < a + n).map (·.2)
  ((s.qmodel q).layersOf c).findSome? fun l =>
    ((hit l.wPtr (l.k * l.n)).orElse fun _ => hit l.bPtr (4 * l.n)).orElse fun _ => hit l.witPtr (4 * l.n)

/-! ### STATE_FETCH_DONE (R223, R224, R381) -/

/-- The positions that an item folds up to: the end of its block, or the position of its list (R223). -/
def State.foldTo (s : State) (i : Item) : Nat :=
  match i.kind with
  | .block k => 64 * (k - 1) + i.tokens.length
  | _ => (s.folio i.folio).nextPos

/-- Fold into classifier c every token that its running activation has not received (R223). -/
def State.foldCls (s : State) (i : Item) (c : Nat) (w : Running) : Running :=
  let q := s.qmodel i.quire
  match q.cls c with
  | none => w
  | some d =>
    let r := s.frun i.folio
    let had := Sparse.get (fun _ => 0) w.folded c
    let upto := s.foldTo i
    let toks := ((r.prompt ++ r.outs).take upto).drop had
    { w with
      acts := Sparse.set (fun _ => []) w.acts c (q.fold d (Sparse.get (fun _ => []) w.acts c) toks)
      folded := Sparse.set (fun _ => 0) w.folded c (max had upto) }

/-- A read of the embedding table that passes its slot's end (R380). -/
def State.embBoundary (s : State) (i : Item) : Option Nat :=
  let q := s.qmodel i.quire
  let r := s.frun i.folio
  (s.itemCls i).findSome? fun c => (q.cls c).bind fun d =>
    (((r.prompt ++ r.outs).take (s.foldTo i)).drop (Sparse.get (fun _ => 0) i.work.folded c)).findSome? fun t =>
      (q.read d.slot (d.embPtr + t % 2 ^ d.eb * d.k0) d.k0).bad?

/-- The item stops on what arrived wrong: the faults of Table 15.2 that come about here. -/
def State.fetchFault (i : Item) (e : FetchErr) (s : State) : State :=
  let f (block status addr : Nat) : FaultInfo := { block := block, status := status, quire := i.quire, engine := 0xFF, addr := addr }
  match e with
  | .fold => s.xlFault i.quire [i] (f 2 0x41 0) false none
  | .embedding a => s.xlFault i.quire [i] (f 2 0x40 a) false (some (F.QUIRE_XL_STATUS_MEMORY_SEEN i.quire))
  | .runningState a =>
    s.xlFault i.quire [i] { f 8 0x40 a with quire := 0xFF } true (some (F.QUIRE_XL_STATUS_MEMORY_SEEN i.quire))
  | .folioWord a => s.fault [i.folio] { f 6 0x40 a with quire := 0xFF } true
  | .inputs a => s.fault [i.folio] { f 7 0x40 a with quire := 0xFF } true
  | .packet => s.fault [i.folio] (f 9 0x46 0) false

/-- The item has its fold: one run per classifier, each with its row to load (R223, R225). -/
def State.folded (i : Item) (rejects : List Nat) (countEcc : Bool) (s : State) : State :=
  let cs := s.itemCls i
  let w := cs.foldl (fun w c => s.foldCls i c w) i.work
  let s := s.updItem i.id fun i =>
    { i with
      fetched := true, work := w
      cls := cs.map fun c => { num := c, x := Sparse.get (fun _ => []) w.acts c, status := .waiting, scores := [], est := [] } }
  let s := cs.foldl (fun s c => s.loadRow i.id c rejects) s
  if cs.isEmpty then ((s.finishRes i.id .amt).finishRes i.id .xl).advanceItem i.id countEcc else s

/-- STATE_FETCH_DONE: an item's running state is there. `rejects`: tiles of its quire whose row load reads back wrong;
`err`: what a check finds; `countEcc`: count entries that cannot be read. -/
def doStateFetchDone (id : Nat) (rejects : List Nat) (err : Option FetchErr) (countEcc : Bool) (s : State) : State :=
  match s.item? id with
  | none => s
  | some i =>
    if i.phase ≠ Phase.admitted || i.fetched || i.kind == .endItem || i.hitEnt.isSome || !s.current i then s
    else match err, s.embBoundary i with
      | some e, _ => s.fetchFault i e
      | none, some a => s.fault [i.folio] { block := 2, status := 0x10, quire := i.quire, engine := 0xFF, addr := a } false
      | none, none => s.folded i rejects countEcc

/-! ### The pass -/

/-- AMT_GATHER_TIMEOUT: the oldest row has waited GATHER_NS (R225). -/
def doAmtGatherTimeout (q t : Nat) (s : State) : State :=
  let tl := s.tile q t
  match tl.rows with
  | [] => s
  | r :: _ =>
    if tl.running || tl.calibrating || s.now < r.at_ + s.fld (F.QUIRE_AMT_CTRL_GATHER_NS q) then s else s.startPass q t

/-- The codes of a row, layer by layer, one per column. -/
def normCodes (ls : List LayerDesc) (codes : List (List Nat)) : List (List Nat) :=
  ls.zipIdx.map fun x => (List.range x.1.n).map fun j => ((codes[x.2]?.getD [])[j]?.getD 0)

/-- An item whose classifiers have all left the tiles, and one whose classifiers are all certified or recomputed (R45,
R238, R240). -/
def State.afterCls (id : Nat) (countEcc : Bool) (s : State) : State :=
  match s.item? id with
  | none => s
  | some i =>
    let s := if i.cls.all fun c => c.status != .waiting && c.status != .onTile then s.finishRes id .amt else s
    if i.cls.all ClsRun.done then (s.finishRes id .xl).advanceItem id countEcc else s

/-- One row of a finished pass: its estimates and bounds, and where they send the classifier (R227, R233, R235 to R237).
`good`: the pass may certify at all. -/
def State.passRow (q : Nat) (d : ClsDesc) (row : TRow) (cal : Option RowCal) (codes : List (List Nat)) (good fail : Bool)
    (s : State) : State :=
  let qm := s.qmodel q
  let ls := qm.layersOf d
  let est := match cal with | some c => qm.rowScores c ls (normCodes ls codes) 0 | none => []
  let s := if fail then (s.see (F.QUIRE_AMT_STATUS_ROW_SEEN q)).inc (R.QUIRE_AMT_ROW_FAIL_COUNT q) else s
  let s := if (normCodes ls codes).any fun l => l.any saturated then s.see (F.QUIRE_AMT_STATUS_SATURATE_SEEN q) else s
  let ok := good && !fail && !est.isEmpty && est.zipIdx.all fun x => certified (qm.thresholds (d.firstSlot + x.2)) x.1.1 x.1.2
  if ok then
    (s.updCls row.item row.cls fun c => { c with status := .certified, scores := est.map (·.1), est := est }).inc
      (R.QUIRE_AMT_CERT_COUNT q)
  else
    (s.updCls row.item row.cls fun c => { c with status := .toXl, est := est }).inc (R.QUIRE_AMT_UNCERT_COUNT q)

/-- The row still belongs to a running item (R245). -/
def State.rowLive (s : State) (r : TRow) : Bool :=
  match s.item? r.item with
  | some i => i.phase == Phase.admitted && s.current i
  | none => false

/-- A witness failure (R234): counted, the tile falls due at once, and is DISABLED on its first pass. -/
def State.witnessFail (q t : Nat) (s : State) : State :=
  let s := (s.see (F.QUIRE_AMT_STATUS_WITNESS_SEEN q)).inc (R.QUIRE_AMT_WITNESS_FAIL_COUNT q)
  s.updTile q t fun t =>
    { t with dueAt := if t.out then none else some (t.dueAt.getD s.now), disabled := t.disabled || t.firstPass }

/-- The witness row of a tile fails (R234); a tile with no fit has no witness. -/
def State.witBad (s : State) (q t : Nat) (ls : List LayerDesc) (wit : List (List Nat)) : Bool :=
  match (s.tile q t).cal[8]? with
  | some c => (s.qmodel q).witnessFails c ls (normCodes ls wit)
  | none => true

/-- The rows of a pass of classifier d that ended, none of its reads failing. -/
def State.passRows (q t : Nat) (d : ClsDesc) (rows : List (TRow × Nat)) (codes : List (List (List Nat)))
    (wit : List (List Nat)) (fails : List Nat) (countEcc : Bool) (s : State) : State :=
  let tl := s.tile q t
  let ls := (s.qmodel q).layersOf d
  let witBad := s.witBad q t ls wit
  let s := s.inc (R.QUIRE_AMT_PASS_COUNT q)
  let s := if (normCodes ls wit).any (fun l => l.any saturated) then s.see (F.QUIRE_AMT_STATUS_SATURATE_SEEN q) else s
  let s := if witBad then s.witnessFail q t else s
  let good := !tl.passStale && !witBad
  let s := rows.foldl (fun s r => s.passRow q d r.1 tl.cal[r.2]? (codes[r.2]?.getD []) good (fails.contains r.2)) s
  let s := s.updTile q t fun t => { t with rows := [], running := false, firstPass := false }
  (rows.foldl (fun s r => s.afterCls r.1.item countEcc) s).loadWaiting

/-- AMT_PASS_DONE of tile t in quire q (R226 to R238, R243, R245). `codes` are the ADC codes of each row by layer and
column, `wit` those of the witness row, `fails` the rows whose read-back differs, `ecc` an uncorrectable word. -/
def doAmtPassDone (q t : Nat) (codes : List (List (List Nat))) (wit : List (List Nat)) (fails : List Nat)
    (ecc : Option Nat) (countEcc : Bool) (s : State) : State :=
  let tl := s.tile q t
  if !tl.running then s
  else
    let rows := tl.rows.zipIdx.filter fun r => s.rowLive r.1
    let items := rows.filterMap fun r => s.item? r.1.item
    let stop (s : State) : State := s.updTile q t fun t => { t with rows := [], running := false, firstPass := false }
    match tl.rows.head?.bind fun r => (s.qmodel q).cls r.cls with
    | none => stop s
    | some d =>
      let bad := ecc.orElse fun _ => s.clsBadWord q d
      let f (st a : Nat) : FaultInfo := { block := 2, status := st, quire := q, engine := t, addr := a }
      match (s.qmodel q).clsBoundary d, bad with
      | some a, _ => ((stop s).fault (items.map Item.folio) (f 0x10 a) false).loadWaiting
      | none, some a =>
        ((stop s).xlFault q items (f 0x40 a) false (some (F.QUIRE_XL_STATUS_MEMORY_SEEN q))).loadWaiting
      | none, none => s.passRows q t d rows codes wit fails countEcc

/-! ### The Exact Lane (R239 to R243) -/

/-- The exact scores lie within the finite bounds of the estimates (R242). -/
def withinBounds : List Int → List (Int × Option Nat) → Bool
  | s :: ss, (a, some b) :: es => decide ((s - a).natAbs ≤ b) && withinBounds ss es
  | _ :: ss, (_, none) :: es => withinBounds ss es
  | _, _ => true

/-- XL_RERUN_DONE: a re-run ends after `used` ns of the lane; `residue`: a residue check fails; `ecc`: an uncorrectable
word (R239, R242, R243). -/
def doXlRerunDone (id cls used : Nat) (residue : Bool) (ecc : Option Nat) (countEcc : Bool) (s : State) : State :=
  match s.item? id with
  | none => s
  | some i =>
    let q := i.quire
    match i.cls.find? fun c => c.num == cls && c.status == .toXl, (s.qmodel q).cls cls with
    | some r, some d =>
      if i.phase ≠ Phase.admitted || !s.current i then s
      else
        let s := { s with eng := { s.eng with xlUsed := Sparse.upd (fun _ => 0) s.eng.xlUsed q (· + used) } }
        let f (st a : Nat) : FaultInfo := { block := 3, status := st, quire := q, engine := 0xFF, addr := a }
        match (s.qmodel q).clsBoundary d, ecc.orElse fun _ => s.clsBadWord q d with
        | some a, _ => s.fault [i.folio] (f 0x10 a) false
        | none, some a => s.xlFault q [i] (f 0x40 a) false (some (F.QUIRE_XL_STATUS_MEMORY_SEEN q))
        | none, none =>
          let sc := (s.qmodel q).exact ((s.qmodel q).layersOf d) r.x
          let s := s.inc (match i.chan with | .inp => R.QUIRE_XL_RERUN_IN_COUNT q | .outp => R.QUIRE_XL_RERUN_OUT_COUNT q)
          if residue then s.xlFault q [i] (f 0x42 0) false (some (F.QUIRE_XL_STATUS_RESIDUE_SEEN q))
          else if !withinBounds sc r.est then s.xlFault q [i] (f 0x45 0) false (some (F.QUIRE_XL_STATUS_BOUND_SEEN q))
          else (s.updCls id cls fun c => { c with status := .recomputed, scores := sc }).afterCls id countEcc
    | _, _ => s

/-- QUEUED of QUIRE_n_XL_DEMAND: re-runs that wait. -/
def State.xlQueued (s : State) (q : Nat) : Nat :=
  satAt 0xFFFF (sumOf (fun i => (i.cls.filter fun c => c.status == .toXl).length)
    (s.adm.live.filter fun i => i.quire == q && i.phase == .admitted))

/-- XL_DEMAND_WINDOW of a quire: the window of 1 ms that ends now (R241). -/
def doXlDemandWindow (q : Nat) (s : State) : State :=
  if s.tick % 1000000 ≠ 0 then s
  else
    let used := Sparse.get (fun _ => 0) s.eng.xlUsed q
    let booked := Sparse.get (fun _ => 0) s.eng.xlBooked q
    let pm := if used = 0 then 0 else if booked = 0 then 4095 else min 4095 (used * 1000 / booked)
    let s := s.setFld (F.QUIRE_XL_DEMAND_USED_PERMILLE q) pm
    let s := { s with eng := { s.eng with
      xlUsed := Sparse.set (fun _ => 0) s.eng.xlUsed q 0, xlBooked := Sparse.set (fun _ => 0) s.eng.xlBooked q 0 } }
    if booked < used then s.see (F.QUIRE_XL_STATUS_OVER_SEEN q) else s

/-! ### Calibration (R229 to R231, Table 9.4) -/

/-- When the last calibration of a tile, good or failed, ended. -/
def Tile.lastTry (t : Tile) : Nat := max t.calAt (if t.calStart = 0 then 0 else t.calStart + 20000)

/-- AMT_CAL_DUE: the tile's sensor reads `temp`; the tile falls due after 10 ms or on a change of 2 °C (R229). -/
def doAmtCalDue (q t temp : Nat) (s : State) : State :=
  let s := s.updTile q t fun t => { t with temp := temp }
  let tl := s.tile q t
  let moved := tl.valid && decide (tl.tCal + 2 ≤ temp ∨ temp + 2 ≤ tl.tCal)
  if tl.out || tl.calibrating || tl.dueAt.isSome || !(moved || decide (tl.lastTry + 10000000 ≤ s.now)) then s
  else s.updTile q t fun t => { t with dueAt := some s.now }

/-- The first of a group's queue: the tile due longest, the lowest number among equals (R229). -/
def State.calHead (s : State) (q g : Nat) : Option Nat :=
  let due := (List.range 4).filterMap fun k => ((s.tile q (4 * g + k)).dueAt).map fun d => (d, 4 * g + k)
  (minBy (fun (a b : Nat × Nat) => a.1 < b.1) due).map (·.2)

/-- AMT_CAL_START (Table 9.4 step 2): rows of a pass that has not started move to other tiles. -/
def doAmtCalStart (q t : Nat) (s : State) : State :=
  let tl := s.tile q t
  let g := t / 4
  if tl.running || tl.dueAt.isNone || s.calHead q g ≠ some t ||
      (List.range 4).any (fun k => (s.tile q (4 * g + k)).calibrating) then s
  else
    let s := s.updTile q t fun t => { t with rows := [], dueAt := none, calibrating := true, calStart := s.now }
    tl.rows.foldl (fun s r => if s.rowLive r then s.loadRow r.item r.cls [] else s) s

/-- A calibration that exceeds EPS_LIMIT (R231): the third in a row is reported. -/
def State.calFailed (q t : Nat) (s : State) : State :=
  let s := (s.updTile q t fun t => { t with valid := false, disabled := true, failRun := t.failRun + 1 }).see
    (F.QUIRE_AMT_STATUS_CAL_FAIL_SEEN q)
  if (s.tile q t).failRun = 3 then s.fltLog { block := 2, status := 0, quire := q, engine := t, addr := 0 } 0 0xFFFFFFFF else s

/-- A calibration that ended at `at_` with these nine fits, the witness row last (Table 9.4 steps 4 and 5). -/
def State.calEnd (at_ q t : Nat) (cal : List RowCal) (s : State) : State :=
  let worst := cal.foldl (fun m c => max m c.eps16) 0
  let s := s.updTile q t fun t => { t with calibrating := false, eps16 := min 255 worst, tCal := t.temp }
  let s := s.inc (R.QUIRE_AMT_CAL_COUNT q)
  if worst ≤ s.fld (F.QUIRE_AMT_CTRL_EPS_LIMIT q) then
    (s.updTile q t fun t =>
      { t with cal := cal, valid := true, disabled := false, failRun := 0, calAt := at_, firstPass := true }).loadWaiting
  else (s.calFailed q t).loadWaiting

/-- AMT_CAL_DONE: 20 µs after its start a tile's calibration ends. -/
def doAmtCalDone (q t : Nat) (cal : List RowCal) (s : State) : State :=
  let tl := s.tile q t
  if !tl.calibrating || s.now < tl.calStart + 20000 then s else s.calEnd s.now q t cal

/-- AMT_CAL_ALL: every tile of the quire falls due now. -/
def doAmtCalAll (q : Nat) (s : State) : State :=
  (List.range 32).foldl (fun s t =>
    s.updTile q t fun t => if t.out || t.calibrating then t else { t with dueAt := some (t.dueAt.getD s.now) }) s

end Sys2Proof.Machine
end

