-- ==== Sys2Proof/Machine/Dma.lean ====
section
/-!
DEFINITION. What the blocks use of the host interface: the transfer check of the DMA windows (R464, R465), MSI-X with its
moderation (R472 to R474), HIF_INT_STATUS, and in-band interrupts (R478).
-/
namespace Sys2Proof.Machine

/-! ### DMA windows -/

/-- BASE of window w. -/
def State.winBase (s : State) (w : Nat) : Nat := s.rd64 (R.HIF_WIN_BASE_LO w) (R.HIF_WIN_BASE_HI w)

/-- SIZE of window w. -/
def State.winSize (s : State) (w : Nat) : Nat := s.rd64 (R.HIF_WIN_SIZE_LO w) (R.HIF_WIN_SIZE_HI w)

/-- Window w is enabled, owned by function f and permits the direction (R464). -/
def State.winPermits (s : State) (w f : Nat) (write : Bool) : Bool :=
  s.flag (F.HIF_WIN_CTRL_ENABLE w) && s.fld (F.HIF_WIN_CTRL_OWNER w) == f &&
    s.flag (if write then F.HIF_WIN_CTRL_DEV_WRITE w else F.HIF_WIN_CTRL_DEV_READ w)

/-- The status of a transfer of n bytes at offset o in window w for function f (R464): 0, 0x15 or 0x10. -/
def State.dmaStatus (s : State) (w f : Nat) (write : Bool) (o n : Nat) : Nat :=
  if n = 0 || !s.winPermits w f write || s.winSize w ≤ o then 0x15
  else if s.winSize w < o + n then 0x10
  else 0

/-- What a BOUNDARY rejection records (R464). -/
def State.dmaBoundary (w f : Nat) (s : State) : State :=
  let a := (s.winBase w + s.winSize w) % 2 ^ 64
  let s := { s.wr R.HIF_DMA_FAULT_ADDR_LO a with hif := { s.hif with faultHi := a / 2 ^ 32 } }
  let s := ((s.setFld F.HIF_DMA_FAULT_INFO_WINDOW w).setFld F.HIF_DMA_FAULT_INFO_FUNCTION f).setFld F.HIF_DMA_FAULT_INFO_STATUS 0x10
  s.see F.HIF_STATUS_BOUNDARY_SEEN

/-- The check of R464 with what a failure records. -/
def State.dmaCheck (w f : Nat) (write : Bool) (o n : Nat) (s : State) : Nat × State :=
  let st := s.dmaStatus w f write o n
  (st, if st = 0x10 then s.dmaBoundary w f else s)

/-- A transfer that ends with an error completion or poisoned data (R465). -/
def State.dmaErr (s : State) : State := s.see F.HIF_STATUS_DMA_ERR_SEEN

/-- Bytes written into host memory. -/
def State.dmaWrite (w o : Nat) (bs : Bytes) (s : State) : State :=
  { s with dma := { tick := s.tick, win := w, off := o, data := bs } :: s.dma }

/-! ### MSI-X (R472 to R474) -/

/-- The key of a vector of a function. -/
def msixKey (f v : Nat) : Nat := 1024 * f + v

/-- The table entry of a vector. -/
def State.msixEnt (s : State) (k : Nat) : MsixEnt := Sparse.get (fun _ => .reset) s.hif.msix k

/-- Change the table entry of a vector. -/
def State.updMsix (k : Nat) (g : MsixEnt → MsixEnt) (s : State) : State :=
  { s with hif := { s.hif with msix := Sparse.upd (fun _ => .reset) s.hif.msix k g } }

/-- A message goes out on a vector, or stays pending while it is masked; a message sent starts an interval of MOD_US. -/
def State.fireMsix (k modUs : Nat) (s : State) : State :=
  let e := s.msixEnt k
  if e.masked then s.updMsix k fun e => { e with pending := true }
  else
    let m : MsiMsg := { tick := s.tick, func := k / 1024, vec := k % 1024, addr := e.addr, data := e.data }
    { s with hif := { s.hif with
      sent := m :: s.hif.sent
      modUntil := if modUs = 0 then s.hif.modUntil else Sparse.set (fun _ => 0) s.hif.modUntil k (s.now + 1000 * modUs) } }

/-- A cause on a vector: sent at once, or held while an interval of the vector runs (R474). -/
def State.causeMsix (k modUs : Nat) (s : State) : State :=
  if s.now < Sparse.get (fun _ => 0) s.hif.modUntil k then
    { s with hif := { s.hif with modHeld := s.hif.modHeld.filter (fun h => h.1 != k) ++ [(k, modUs)] } }
  else s.fireMsix k modUs

/-- The bit of HIF_INT_STATUS for a BAR 0 offset; none for the offsets that no bit covers. -/
def intBit (off : Nat) : Option Nat :=
  let b := off / 0x100000
  if b ≤ 4 then some b
  else if 8 ≤ b && b ≤ 15 then some 5
  else if 16 ≤ b && b ≤ 22 then some (b - 10)
  else if b = 24 then some 14
  else none

/-- The W1C bits of the register at an offset. -/
def w1cMask (off : Nat) : Nat :=
  match regAt off with
  | some r => r.fields.foldl (fun m f => if f.acc = .w1c then setBitsOf f.hi f.lo (2 ^ (f.hi + 1 - f.lo) - 1) m else m) 0
  | none => 0

/-- HIF_INT_STATUS: the blocks that have a W1C bit at 1 (R472). -/
def State.intStatus (s : State) : Nat :=
  s.regs.foldl (fun m x =>
    match intBit x.1 with
    | some b => if x.2.toNat &&& w1cMask x.1 ≠ 0 then m ||| 2 ^ b else m
    | none => m) 0

/-- Vector 0 of the PF is sent when an enabled bit of HIF_INT_STATUS changes from 0 to 1 (R472). -/
def State.settle (before after : State) : State :=
  let en := after.rd R.HIF_INT_ENABLE
  let rise := (after.intStatus &&& en) &&& (before.intStatus ^^^ (2 ^ 32 - 1))
  if rise = 0 then after else after.causeMsix 0 (after.fld F.HIF_INT_MOD_MOD_US)

/-! ### In-band interrupts (R478) -/

/-- The target raises an IBI, or keeps the cause until ENEC enables it, one of each cause at most. -/
def State.raiseIbi (cause value : Nat) (s : State) : State :=
  if s.flag F.HIF_I3C_STATUS_IBI_EN then
    { s with hif := { s.hif with ibis := { tick := s.tick, cause := cause, value := value } :: s.hif.ibis } }
  else if s.hif.ibiPend.any fun x => x.1 == cause then s
  else { s with hif := { s.hif with ibiPend := s.hif.ibiPend ++ [(cause, value)] } }

end Sys2Proof.Machine
end

