-- ==== Sys2Proof/Machine/Regs.lean ====
section
/-!
DEFINITION. Host writes to registers: access codes (R8, R9, R11), the ranges and conditions of the register tables, the
view of a virtual function (R461), and what follows a write where a chapter says so.
-/
namespace Sys2Proof.Machine

/-- The host link is up: from step 3 of Table 17.3 on and in every halt, not in PS3 (R435, R439). -/
def State.hostLink (s : State) : Bool :=
  s.pins.powered && (decide (3 ≤ s.fld F.SHL_BOOT_STATUS_STEP) || s.flag F.SHL_BOOT_STATUS_HALTED) && s.fld F.PWR_STATE_CURRENT != 3

/-- The host reaches the BARs of a function: the link is up and the function is not in D3hot (R456). -/
def State.hostUp (s : State) (fn : Nat) : Bool := s.hostLink && !s.hif.d3.contains fn

/-- Which window a register of the window area belongs to. -/
def winOf (off : Nat) : Nat := (off - 0x1810000) / 0x20

/-- Which queue pair a register of the configuration area belongs to. -/
def qpOf (off : Nat) : Nat := (off - 0x1820000) / 0x40

/-- A window takes writes of its configuration (R463). -/
def State.winOpen (s : State) (w : Nat) : Bool := !s.flag (F.HIF_WIN_CTRL_ENABLE w) && !s.flag (F.HIF_WIN_CTRL_BUSY w)

/-- The write condition of a field holds for function fn writing x (R9, R461, R463, R466). -/
def State.fieldOk (s : State) (fn off x : Nat) : FieldCheck → Bool
  | .any => true
  | .range lo hi => decide (lo ≤ x ∧ x ≤ hi)
  | .own => false
  | .win => s.winOpen (winOf off)
  | .winPf => s.winOpen (winOf off) && fn == 0
  | .qp => !s.flag (F.HIF_QP_CTRL_ENABLE (qpOf off))
  | .qpPf => !s.flag (F.HIF_QP_CTRL_ENABLE (qpOf off)) && fn == 0
  | .qpMod => !s.flag (F.HIF_QP_CTRL_ENABLE (qpOf off)) && decide (x ≤ 1000)
  | .pf => fn == 0

/-- One field of a write (Table 0.4): the register's new value from its value so far. -/
def State.writeField (s : State) (fn off v : Nat) (cur : Nat) (f : FieldInfo) : Nat :=
  let x := bitsOf f.hi f.lo v
  let c := bitsOf f.hi f.lo cur
  if !s.fieldOk fn off x f.chk then cur
  else match f.acc with
    | .ro | .wo => cur
    | .rw | .rws => setBitsOf f.hi f.lo x cur
    | .lk => if s.dkl.gather = .openW then setBitsOf f.hi f.lo x cur else cur
    | .w1c => setBitsOf f.hi f.lo (c - (c &&& x)) cur
    | .w1s => setBitsOf f.hi f.lo (c ||| x) cur

/-- Conditions over a whole register that leave it (or the named fields) unchanged. -/
def wholeOk (off v : Nat) : Bool :=
  if off = R.DKL_RAIL_LIMIT then
    let mn := bitsOf 9 0 v
    let mx := bitsOf 25 16 v
    decide (600 ≤ mn ∧ mx ≤ 850 ∧ mn ≤ mx)
  else if off = R.PWR_THERM_LIMIT then
    let w := bitsOf 7 0 v
    let st := bitsOf 15 8 v
    let re := bitsOf 23 16 v
    decide (st ≤ 115 ∧ w < st ∧ re + 5 ≤ st)
  else if R.HIF_VF_TENANTS 1 ≤ off && off ≤ R.HIF_VF_TENANTS 31 then decide (bitsOf 9 0 v + bitsOf 26 16 v ≤ 1024)
  else true

/-- MIN_OUT and MAX_OUT of ADM_BAL_LIMIT are written together or not at all (chapter 4). -/
def balFields (cur v : Nat) : Nat :=
  let mn := bitsOf 5 0 v
  let mx := bitsOf 13 8 v
  if 8 ≤ mn ∧ mx ≤ 56 ∧ mn ≤ mx then v else setBitsOf 13 8 (bitsOf 13 8 cur) (setBitsOf 5 0 (bitsOf 5 0 cur) v)

/-- The register after a write: every field by its access code. -/
def State.regAfter (s : State) (fn off v : Nat) : Nat :=
  match regAt off with
  | none => s.rd off
  | some r =>
    let v := if off = R.ADM_BAL_LIMIT then balFields (s.rd off) v else v
    if wholeOk off v then r.fields.foldl (s.writeField fn off v) (s.rd off) else s.rd off

/-- A period written to LDG_SCAN_PERIOD: sweeps use it from the first multiple of it at or after the end of the sweep
under way (R93). -/
def State.newScanPeriod (p : Nat) (s : State) : State :=
  let cur := s.scanPeriod
  let endAt := cur * (s.tick / cur) + cur
  let ns := 1000000 * p
  { s with ldg := { s.ldg with scanP := cur / 1000000, scanPend := some (p, ns * ceilDiv endAt ns) } }

/-- What follows a register write: BURST caps cut levels at the end of the tick (R107), a new scan period is taken up
(R93), PUSH_ENABLE is cleared, a high half of TAIL is kept for its commit (R346). -/
def State.afterWrite (off v : Nat) (s : State) : State :=
  let t := (off - R.ADM_TENANT_BURST 0) / 16
  if R.ADM_TENANT_BURST 0 ≤ off && t < 1024 && off = R.ADM_TENANT_BURST t then
    { s with adm := { s.adm with
      cuts := s.adm.cuts ++ [(s.tick, .inp, t, s.burst .inp t), (s.tick, .outp, t, s.burst .outp t)] } }
  else if off = R.LDG_SCAN_PERIOD then
    if s.fld F.LDG_SCAN_PERIOD_PERIOD_MS * 1000000 = s.scanPeriod && s.ldg.scanPend.isNone then s
    else s.newScanPeriod (s.fld F.LDG_SCAN_PERIOD_PERIOD_MS)
  else if off = R.COL_CTRL then if bitOf 1 v then s else s.setFld F.COL_CTRL_PUSH_ENABLE 0
  else if off = R.COL_TAIL_SEQ_HI then { s with col := { s.col with tailHi := v % 2 ^ 32 } }
  else s

/-- The fields of a register without a command of their own are written (R11), and what follows. -/
def State.writeFields (fn off v : Nat) (s : State) : State :=
  match regAt off with
  | none => s
  | some _ => (s.wr off (s.regAfter fn off v)).afterWrite off v

/-! ### MSI-X tables (R457, R472) -/

/-- A vector is unmasked; a held message is then sent (PCI Express rules, R472). -/
def State.unmask (k : Nat) (s : State) : State :=
  let e := s.msixEnt k
  let s := s.updMsix k fun e => { e with masked := false, pending := false }
  if e.pending then s.fireMsix k (if k = 0 then s.fld F.HIF_INT_MOD_MOD_US else 0) else s

/-- A write of word i of the entry of vector key k. -/
def State.msixWrite (k i v : Nat) (s : State) : State :=
  if i = 0 then s.updMsix k fun e => { e with addr := e.addr / 2 ^ 32 * 2 ^ 32 + v % 2 ^ 32 / 4 * 4 }
  else if i = 1 then s.updMsix k fun e => { e with addr := v % 2 ^ 32 * 2 ^ 32 + e.addr % 2 ^ 32 }
  else if i = 2 then s.updMsix k fun e => { e with data := v % 2 ^ 32 }
  else if bitOf 0 v then s.updMsix k fun e => { e with masked := true }
  else s.unmask k

/-- The PF offset that a virtual function's BAR 0 offset mirrors, for the queue pairs and windows that it owns (R461,
Table 18.5). -/
def State.vfMirror (s : State) (fn off : Nat) : Option Nat :=
  if 0x20000 ≤ off && off < 0x21000 then
    if s.fld (F.HIF_QP_CTRL_OWNER ((off - 0x20000) / 0x40)) = fn then some (off - 0x20000 + 0x1820000) else none
  else if 0x30000 ≤ off && off < 0x30800 then
    if s.fld (F.HIF_WIN_CTRL_OWNER ((off - 0x30000) / 0x20)) = fn then some (off - 0x30000 + 0x1810000) else none
  else if 0x40000 ≤ off && off < 0x80000 then
    if s.fld (F.HIF_QP_CTRL_OWNER ((off - 0x40000) / 0x1000)) = fn then some (off - 0x40000 + 0x1840000) else none
  else none

/-- REGISTER_WRITE: a 32-bit write of function fn at an offset of its BAR 0 (R8, R9, R11, R457, R461). -/
def doRegisterWrite (fn off v : Nat) (s : State) : State :=
  if fn = 0 then
    if 0x1880000 ≤ off && off < 0x1884000 then s.msixWrite (msixKey 0 ((off - 0x1880000) / 16)) (off % 16 / 4) v
    else s.writeFields 0 off v
  else if 0x10000 ≤ off && off < 0x10200 then s.msixWrite (msixKey fn ((off - 0x10000) / 16)) (off % 16 / 4) v
  else match s.vfMirror fn off with
    | some o => s.writeFields fn o v
    | none => s

/-- BAR0_BAD_ACCESS_WRITE: a write of another size or alignment has no effect but ACCESS_SEEN (R458). -/
def doBar0BadAccessWrite (s : State) : State := s.see F.HIF_STATUS_ACCESS_SEEN

/-- MSIX_VECTOR_UNMASK. -/
def doMsixVectorUnmask (fn vec : Nat) (s : State) : State := s.unmask (msixKey fn vec)

/-- MSIX_MOD_INTERVAL_END: a moderation interval ends, and the causes that fell inside it go as one message (R474). -/
def doMsixModIntervalEnd (fn vec : Nat) (s : State) : State :=
  let k := msixKey fn vec
  let til := Sparse.get (fun _ => 0) s.hif.modUntil k
  if til = 0 || s.now < til then s
  else
    let held := s.hif.modHeld.find? fun h => h.1 == k
    let s := { s with hif := { s.hif with
      modUntil := Sparse.set (fun _ => 0) s.hif.modUntil k 0, modHeld := s.hif.modHeld.filter fun h => h.1 != k } }
    match held with
    | some h => s.fireMsix k h.2
    | none => s

end Sys2Proof.Machine
end

