-- ==== Sys2Proof/Machine/ColCmds.lean ====
section
/-!
DEFINITION. Commands and events of the chain (chapter 13): seals, the tail, the push ring and the aperture.
-/
namespace Sys2Proof.Machine

/-! ### Seals (R339 to R341, R344) -/

/-- SEAL_COUNT_TRIGGER: 4,096 Colophons that are not SEAL since the last part 0. -/
def doSealCountTrigger (s : State) : State := if s.sealCount then s.sealIfDue else s

/-- SEAL_TIMER_TRIGGER: 1 ms since the last part 0 with a new Colophon. -/
def doSealTimerTrigger (s : State) : State := if s.sealTimer then s.sealIfDue else s

/-- SEAL_SIGNATURE_DONE: the signature (r, t) over the pending part 0 is checked against the public key; a first failure
signs again, a second enters part 1 as UNSEALED (R340, R341). -/
def doSealSignatureDone (r t : Nat) (s : State) : State :=
  match s.col.pendingSig with
  | none => s
  | some k =>
    let q := (lastPart0 s.chain).1
    let ok := ecdsaVerify s.col.pubKey (s.sealMessage q (lastPart0Tick s.col.startAt s.chain)) r t
    if !ok && k = 0 then { s with col := { s.col with pendingSig := some 1 } }
    else (s.sealPart1 q ok (be 48 r) (be 48 t)).sealIfDue

/-- The seal key is lost: a pending part 1 never enters, the unsealed range opens, and the loss is reported (R344). -/
def State.loseSealKey (s : State) : State :=
  let s := (s.setFld F.COL_STATUS_SEAL_PENDING 0).setFld F.COL_STATUS_KEY_OK 0
  let first := s.col.lastSeal + 1
  let s := { s with col := { s.col with pendingSig := none, hostReq := false, warmReq := false, unsealedFirst := first } }
  (s.see F.COL_STATUS_UNSEALED_SEEN).fltLog { block := 0, status := 0x31, quire := 0xFF, engine := 0xFF, addr := first } 0 0xFFFFFFFF

/-! ### The push ring (R347, R390) -/

/-- Offset of the push ring in its window. -/
def State.pushBase (s : State) : Nat := s.rd64 R.COL_PUSH_BASE_LO R.COL_PUSH_BASE_HI

/-- A write of PUSH_ENABLE 1: the whole ring is checked (R347). -/
def State.pushEnable (s : State) : State :=
  let was := s.flag F.COL_CTRL_PUSH_ENABLE
  let r := s.dmaCheck (s.fld F.COL_CTRL_PUSH_WINDOW) 0 true s.pushBase (128 * 2 ^ s.fld F.COL_CTRL_PUSH_LOG2)
  let s := r.2.setFld F.COL_STATUS_PUSH_RESULT r.1
  if r.1 = 0 then
    let s := s.setFld F.COL_CTRL_PUSH_ENABLE 1
    if was then s else { s with col := { s.col with pushed := s.col.tail } }
  else (s.setFld F.COL_CTRL_PUSH_ENABLE 0).see F.COL_STATUS_PUSH_ERR_SEEN

/-- SEAL_NOW: a request, used or dropped at the end of the first tick in which no part 1 is pending (R339). -/
def State.sealNow (s : State) : State :=
  if !s.flag F.COL_STATUS_KEY_OK || s.col.startAt = 0 && s.chain.isEmpty then s
  else { s with col := { s.col with hostReq := true } }.sealIfDue

/-- A write of COL_CTRL. -/
def State.colCtrl (v : Nat) (s : State) : State :=
  let s := s.writeFields 0 R.COL_CTRL v
  let s := if bitOf 1 v then s.pushEnable else s
  if bitOf 0 v then s.sealNow else s

/-- COL_SEAL_NOW: COL_CTRL is written with SEAL_NOW 1. -/
def doColSealNow (v : Nat) (s : State) : State := s.colCtrl (setBitsOf 0 0 1 v)

/-- COL_PUSH_ENABLE: COL_CTRL is written with PUSH_ENABLE 1. -/
def doColPushEnable (v : Nat) (s : State) : State := s.colCtrl (setBitsOf 1 1 1 v)

/-- What a read of entry n for the host gives; `ecc`: the entry has an uncorrectable error, logged at its first read and
read as 0xFF from then on (R390). -/
def State.readEntry (n : Nat) (ecc : Bool) (s : State) : Bytes × State :=
  let known := s.col.badSeqs.contains n
  if known then (List.replicate 128 0xFF, s)
  else if ecc then
    let s := { s with col := { s.col with badSeqs := s.col.badSeqs ++ [n] } }
    (List.replicate 128 0xFF, (s.see F.FLT_STATUS_COL_ECC_SEEN).fltLog
      { block := 0, status := 0x40, quire := 0xFF, engine := 0xFF, addr := n } 0 0xFFFFFFFF)
  else (((s.entry? n).map fun c => c.bytes n).getD (zeros 128), s)

/-- The push fails: PUSH_ENABLE clears (R347). -/
def State.pushFail (s : State) : State := (s.setFld F.COL_CTRL_PUSH_ENABLE 0).see F.COL_STATUS_PUSH_ERR_SEEN

/-- COL_PUSH_WRITE: the next entry in SEQ order goes to its place in the host ring, not beyond TAIL + 2^PUSH_LOG2. `ecc`:
the entry cannot be read; `fails`: the transfer ends in an error (R347, R390, R465). -/
def doColPushWrite (ecc fails : Bool) (s : State) : State :=
  let n := max s.col.pushed s.col.tail + 1
  let ring := 2 ^ s.fld F.COL_CTRL_PUSH_LOG2
  if !s.flag F.COL_CTRL_PUSH_ENABLE || s.headSeq < n || s.col.tail + ring < n then s
  else
    let w := s.fld F.COL_CTRL_PUSH_WINDOW
    let off := s.pushBase + (n - 1) % ring * 128
    let r := s.dmaCheck w 0 true off 128
    if r.1 ≠ 0 then r.2.pushFail
    else if fails then r.2.dmaErr.pushFail
    else
      let e := r.2.readEntry n ecc
      let s := e.2.dmaWrite w off e.1
      { s with col := { s.col with pushed := n } }

/-! ### The tail and the aperture (R345, R346, R348) -/

/-- COL_TAIL_COMMIT: the write of COL_TAIL_SEQ_LO commits TAIL; STOP ends at 524,288 entries or fewer (R346, R348). -/
def doColTailCommit (lo : Nat) (s : State) : State :=
  let v := s.col.tailHi * 2 ^ 32 + lo % 2 ^ 32
  if v < s.col.tail || s.headSeq < v then s
  else
    let s := { s with col := { s.col with tail := v, badSeqs := s.col.badSeqs.filter fun n => v < n } }
    if s.headSeq - v ≤ 524288 then s.setFld F.COL_STATUS_STOP 0 else s

/-- The SEQ of the entry that an offset of the aperture shows, where the chain has come so far (R345). -/
def State.apertureSeq (s : State) (off : Nat) : Nat :=
  s.col.tail + 1 + (off / 128 + 524288 - s.col.tail % 524288) % 524288

/-- COL_APERTURE_READ: the host reads the 128 bytes of the entry at an offset of the aperture; 0 where it shows none. -/
def doColApertureRead (off : Nat) (ecc : Bool) (s : State) : State :=
  let n := s.apertureSeq off
  if s.headSeq < n then s.answer 2 (0x2000000 + off / 128 * 128) (zeros 128)
  else
    let e := s.readEntry n ecc
    e.2.answer 2 (0x2000000 + off / 128 * 128) e.1

end Sys2Proof.Machine
end

