-- ==== Sys2Proof/Machine/Image.lean ====
section
/-!
DEFINITION. The binding image and the variant image as bytes: how they are read (R352, Tables 14.2 to 14.12) and the
staging check (R353, R354, R357, R359 to R367).
-/
namespace Sys2Proof.Machine

/-! ### Small checks -/

/-- Every byte of a string is 0. -/
def allZero (bs : Bytes) : Bool := bs.all (· == 0)

/-- Whether bytes [off, off + n) are 0: a reserved field. -/
def zeroAt (off n : Nat) (bs : Bytes) : Bool := allZero (slice off n bs)

/-- Two extents [a, a + n) and [b, b + m) share no byte. -/
def disjoint (a n b m : Nat) : Bool := a + n ≤ b || b + m ≤ a || n == 0 || m == 0

/-- A relation holds between every element of a list and every later one. -/
def pairwise {α : Type} (r : α → α → Bool) : List α → Bool
  | [] => true
  | a :: as => as.all (r a) && pairwise r as

/-- A string cut into records of n bytes, `count` of them. -/
def records (n : Nat) : Nat → Bytes → List Bytes
  | 0, _ => []
  | k + 1, bs => padTo n (bs.take n) :: records n k (bs.drop n)

/-- A list as sparse data by position. -/
def Sparse.ofList {α : Type} [DecidableEq α] (d : α) (l : List α) : Sparse α :=
  l.zipIdx.filterMap fun p => if p.1 = d then none else some (p.2, p.1)

/-- An ASCII byte string. -/
def ascii (s : String) : Bytes := s.toList.map fun c => BitVec.ofNat 8 c.toNat

/-! ### The section table (Tables 14.2 to 14.4) -/

/-- A section table entry (Table 14.3). -/
structure SecRow where
  typ : Nat
  quire : Nat
  bank : Nat
  rsvd : Bool
  count : Nat
  off : Nat
  len : Nat
  deriving DecidableEq, Repr

/-- Read a section table entry. -/
def parseSec (b : Bytes) : SecRow :=
  { typ := fieldAt 0 1 b, quire := fieldAt 1 1 b, bank := fieldAt 2 1 b, rsvd := fieldAt 3 1 b != 0, count := fieldAt 4 4 b,
    off := fieldAt 8 8 b, len := fieldAt 16 8 b }

/-- The section table of an image. -/
def parseSecs (img : Bytes) : List SecRow := (records 24 (fieldAt 0xA 2 img) (img.drop 64)).map parseSec

/-- The bytes of a section. -/
def SecRow.bytes (img : Bytes) (s : SecRow) : Bytes := slice s.off s.len img

/-- The section of a type (and quire, bank). -/
def secOf (secs : List SecRow) (typ quire bank : Nat) : Option SecRow :=
  secs.find? fun s => s.typ == typ && s.quire == quire && s.bank == bank

/-- Its bytes, none when there is no such section. -/
def secBytes (img : Bytes) (secs : List SecRow) (typ quire bank : Nat) : Bytes :=
  ((secOf secs typ quire bank).map (SecRow.bytes img)).getD []

/-! ### Records -/

/-- The MANIFEST (Table 14.5). -/
def parseManifest (b : Bytes) : Manifest :=
  { abiMin := fieldAt 0 2 b, abiMax := fieldAt 2 2 b, steppings := fieldAt 4 1 b, profiles := fieldAt 6 2 b,
    declaredIn := fieldAt 8 2 b, declaredOut := fieldAt 0xA 2 b, provenIn := fieldAt 0xC 2 b, provenOut := fieldAt 0xE 2 b,
    cmapId := fieldAt 0x10 4 b, snapBytes := fieldAt 0x14 4 b, stateFormat := fieldAt 0x18 4 b, iddel := fieldAt 0x1C 4 b }

/-- A region record (Table 14.7). -/
def parseRegion (b : Bytes) : Region :=
  { kind := fieldAt 0 1 b, index := fieldAt 1 1 b, pFirst := fieldAt 2 2 b, pCount := fieldAt 4 2 b, base := fieldAt 8 8 b,
    size := fieldAt 0x10 8 b }

/-- n 4-byte costs from an offset. -/
def costsAt (off n : Nat) (b : Bytes) : List Nat := (List.range n).map fun i => fieldAt (off + 4 * i) 4 b

/-- A profile record (Table 14.10). -/
def parseProfile (b : Bytes) : Profile :=
  { num := fieldAt 0 2 b, inQuires := fieldAt 2 1 b, outQuires := fieldAt 3 1 b, inPath := fieldAt 4 4 b, outPath := fieldAt 8 4 b,
    inCls := fieldAt 0x10 8 b, outCls := fieldAt 0x18 8 b, inEns := fieldAt 0x20 32 b, outEns := fieldAt 0x40 32 b,
    inCost := costsAt 0x60 4 b, outCost := costsAt 0x70 5 b }

/-- A slot descriptor (Table 14.9). -/
def parseSlot (b : Bytes) : SlotDesc :=
  { num := fieldAt 0 1 b, cls := fieldAt 1 1 b, region := fieldAt 2 1 b, memOff := fieldAt 4 4 b, memBytes := fieldAt 8 4 b,
    env1 := fieldAt 0xC 4 b, env2 := fieldAt 0x10 4 b, aFirst := fieldAt 0x18 4 b, aCount := fieldAt 0x1C 4 b,
    bFirst := fieldAt 0x20 4 b, bCount := fieldAt 0x24 4 b, cFirst := fieldAt 0x28 4 b, cCount := fieldAt 0x2C 4 b,
    dFirst := fieldAt 0x30 4 b, dCount := fieldAt 0x34 4 b, raw := padTo 64 b }

/-- A QUIRE_CFG record (Table 14.8). -/
def parseQuireCfg (b : Bytes) : QuireCfg :=
  { slots := ((records 64 16 (b.drop 8)).take (fieldAt 0 2 b)).map parseSlot
    features := Sparse.ofList 0 ((records 4 4096 (b.drop 0x408)).map unle)
    witness := Sparse.ofList 0 (int8s (slice 0x4408 1024 b)) }

/-- A table record (Table 14.11). -/
def parseTable (b : Bytes) : TableRec :=
  { defined := bitOf 0 (fieldAt 0 1 b), mask := bitOf 1 (fieldAt 0 1 b), cascade := bitOf 2 (fieldAt 0 1 b), width := fieldAt 1 1 b,
    banks := fieldAt 2 2 b }

/-- A bank record (Table 14.11). -/
def parseBank (b : Bytes) : BankRec :=
  let v := unle b
  { table := bitsOf 5 0 v, inTable := bitOf 6 v, order := bitsOf 15 8 v, gutter := bitsOf 19 16 v }

/-- One unit of an entry record: VALUE, CARE, TAG. -/
def parseUnit (b : Bytes) : Unit3 := { value := fieldAt 0 8 b, care := fieldAt 8 8 b, tag := fieldAt 16 2 b }

/-- The entries of an AMA_BANK section of width w. -/
def parseEntries (w : Nat) (b : Bytes) : List Entry :=
  (records (18 * w) (b.length / (18 * w)) b).map fun r => (records 18 w r).map parseUnit

/-- The width in units of the table of a bank. -/
def bankUnits (tables : Sparse TableRec) (banks : Sparse BankRec) (m : Nat) : Nat :=
  widthUnits (Sparse.get (fun _ => .none) tables (Sparse.get (fun _ => .none) banks m).table).width

/-- The table records of an AMA_TABLES section. -/
def tableRecs (b : Bytes) : List TableRec := (records 8 64 b).map parseTable

/-- The bank records of an AMA_TABLES section, by bank number 32 × q + m. -/
def bankRecs (b : Bytes) : List BankRec := (records 4 256 (b.drop 512)).map parseBank

/-- Read a binding image; the sections are taken where the section table places them (R352). -/
def parseBinding (img : Bytes) : Binding :=
  let secs := parseSecs img
  let one (t : Nat) : Bytes := secBytes img secs t 0xFF 0xFF
  let tables := Sparse.ofList TableRec.none (tableRecs (one 6))
  let banks := Sparse.ofList BankRec.none (bankRecs (one 6))
  { digest := img.drop (img.length - 48)
    manifest := parseManifest (one 1)
    regions := (records 32 ((one 2).length / 32) (one 2)).map parseRegion
    profiles := (records 144 ((one 3).length / 144) (one 3)).map parseProfile
    tenantMap := Sparse.ofList 0 ((records 2 1024 (one 4)).map fun r => bitsOf 9 0 (unle r))
    quires := (List.range 8).map fun q => parseQuireCfg (secBytes img secs 5 q 0xFF)
    tables := tables
    banks := banks
    entries := Sparse.ofList [] ((List.range 256).map fun m =>
      parseEntries (bankUnits tables banks m) (secBytes img secs 7 (m / 32) (m % 32))) }

/-! ### The staging check (R353, R354) -/

/-- The record size of a section type (Table 14.4). -/
def recSize (b : Binding) (s : SecRow) : Nat :=
  match s.typ with
  | 1 => 64 | 2 => 32 | 3 => 144 | 4 => 2 | 5 => 18440 | 6 => 8
  | _ => 18 * bankUnits b.tables b.banks (32 * s.quire + s.bank)

/-- COUNT of a section type (Table 14.4). -/
def countOk (s : SecRow) : Bool :=
  match s.typ with
  | 1 => s.count == 1
  | 2 => 5 ≤ s.count && s.count ≤ 68
  | 3 => 1 ≤ s.count && s.count ≤ 1024
  | 4 => s.count == 1024
  | 5 => s.count == 1
  | 6 => s.count == 192
  | _ => true

/-- The place of a section in the order of R353. -/
def SecRow.order (s : SecRow) : Nat := s.typ * 65536 + s.quire * 256 + s.bank

/-- The form of section i: type, quire and bank, order, bounds, record size (R353, Tables 14.3, 14.4). -/
def secFormOk (b : Binding) (size : Nat) (before : List SecRow) (n : Nat) (s : SecRow) : Bool :=
  1 ≤ s.typ && s.typ ≤ 7 && !s.rsvd &&
  (if s.typ = 5 || s.typ = 7 then s.quire ≤ 7 else s.quire == 0xFF) && (if s.typ = 7 then s.bank ≤ 31 else s.bank == 0xFF) &&
  countOk s && s.off % 8 == 0 && s.len == s.count * recSize b s && 64 + 24 * n ≤ s.off && s.off + s.len + 48 ≤ size &&
  before.all fun r => disjoint r.off r.len s.off s.len && r.order ≤ s.order

/-- The header and the trailer, and one section of each kind that must be there (R352, Table 14.4). -/
def headerOk (img : Bytes) : Bool :=
  let n := fieldAt 0xA 2 img
  let secs := parseSecs img
  let has (t : Nat) : Nat := (secs.filter fun s => s.typ == t).length
  112 ≤ img.length && slice 0 8 img == ascii "ZV64BIND" && fieldAt 8 2 img == 1 && 13 ≤ n && n ≤ 269 && zeroAt 0xC 4 img &&
  fieldAt 0x10 8 img == img.length && zeroAt 0x18 40 img && sha384 (img.take (img.length - 48)) == img.drop (img.length - 48) &&
  [1, 2, 3, 4, 6].all (fun t => has t == 1) && has 5 == 8 &&
  (List.range 8).all (fun q => (secs.filter fun s => s.typ == 5 && s.quire == q).length == 1) &&
  pairwise (fun r s => r.typ != 7 || s.typ != 7 || r.order != s.order) secs

/-- What the device is when an image is checked: its stepping bit, its firmware's binding ABI, and the near tier. -/
structure StageEnv where
  steppingB0 : Bool
  fwAbi : Nat
  capacity : Nat
  catBase : Nat
  catEnd : Nat
  deriving DecidableEq, Repr

/-- The largest value of a list, 0 when empty. -/
def maxOf {α : Type} (f : α → Nat) (l : List α) : Nat := l.foldl (fun m x => max m (f x)) 0

/-- A firmware ABI lies in a binding's range (R355). -/
def Manifest.abiOk (m : Manifest) (abi : Nat) : Bool := m.abiMin ≤ abi && abi ≤ m.abiMax

/-- The MANIFEST (Table 14.5, R354). -/
def manifestOk (e : StageEnv) (b : Binding) (raw : Bytes) : Bool :=
  let m := b.manifest
  let cascaded := b.tables.any fun t => t.2.cascade
  zeroAt 5 1 raw && zeroAt 0x20 32 raw && m.steppings / 4 == 0 && bitOf (if e.steppingB0 then 1 else 0) m.steppings &&
  m.profiles == b.profiles.length && m.abiOk e.fwAbi && 4000 ≤ m.declaredIn && m.declaredIn ≤ 40000 && 800 ≤ m.declaredOut &&
  m.declaredOut ≤ 6400 && m.provenIn ≤ m.declaredIn && m.provenOut ≤ m.declaredOut &&
  m.provenIn * 10 == maxOf (·.inPath) b.profiles && m.provenOut * 10 == maxOf (·.outPath) b.profiles &&
  (m.cmapId != 0) == cascaded && m.snapBytes % 256 == 0

/-- One region record (R357, Table 14.7). -/
def regionOk (e : StageEnv) (raw : Bytes) : Bool :=
  let r := parseRegion raw
  zeroAt 6 2 raw && zeroAt 0x18 8 raw && 1 ≤ r.kind && r.kind ≤ 5 && r.base % 0x200000 == 0 && r.size % 0x200000 == 0 && r.size != 0 &&
  (if r.kind = 5 then
    r.index ≤ 63 && 1 ≤ r.pCount && r.pCount ≤ 1024 && r.pFirst + r.pCount ≤ 1024 && e.catBase ≤ r.base && r.base + r.size ≤ e.catEnd
  else r.index == 0 && r.pFirst == 0 && r.pCount == 0 && e.catEnd ≤ r.base && r.base + r.size ≤ e.capacity)

/-- The REGIONS section (R357). -/
def regionsOk (e : StageEnv) (b : Binding) (raw : Bytes) : Bool :=
  let n (k : Nat) : Nat := (b.regions.filter fun r => r.kind == k).length
  (records 32 b.regions.length raw).all (regionOk e) && [1, 2, 3, 4].all (fun k => n k == 1) && 1 ≤ n 5 && n 5 ≤ 64 &&
  pairwise (fun r s => disjoint r.base r.size s.base s.size && (r.kind != 5 || s.kind != 5 || r.index != s.index)) b.regions

/-- The PROFILES section (R362, Table 14.10). -/
def profilesOk (b : Binding) (raw : Bytes) : Bool :=
  (records 144 b.profiles.length raw).all (fun r =>
    let p := parseProfile r
    p.num ≤ 1023 && p.inQuires != 0 && p.outQuires != 0 && p.inPath % 10 == 0 && p.outPath % 10 == 0 && zeroAt 0xC 4 r && zeroAt 0x84 12 r) &&
  pairwise (fun p q => p.num != q.num) b.profiles && b.profiles.any fun p => p.num == 0

/-- The TENANT_MAP section (R365). -/
def tenantMapOk (b : Binding) (raw : Bytes) : Bool :=
  (records 2 1024 raw).all fun r => unle r / 1024 == 0 && b.profiles.any fun p => p.num == unle r

/-- The limits of the four ranges of a slot: trees, ensembles and split words; classifiers, layers, score slots and declared
thresholds (R194, R196, R197, R220, R221, Table 14.9). -/
def rangeLimits (cls : Nat) : List Nat := if cls = 1 then [16384, 256, 65536, 0] else [64, 512, 256, 4096]

/-- The ranges of a slot as (FIRST, COUNT). -/
def SlotDesc.ranges (d : SlotDesc) : List (Nat × Nat) :=
  [(d.aFirst, d.aCount), (d.bFirst, d.bCount), (d.cFirst, d.cCount), (d.dFirst, d.dCount)]

/-- One slot descriptor (R359, R360, Table 14.9). -/
def slotOk (b : Binding) (i : Nat) (d : SlotDesc) : Bool :=
  d.num == i && (d.cls == 1 || d.cls == 2) && b.regions.any (fun r => r.kind == 5 && r.index == d.region) && zeroAt 3 1 d.raw &&
  zeroAt 0x14 4 d.raw && zeroAt 0x38 8 d.raw && d.memOff % 4096 == 0 && d.memBytes % 4096 == 0 && d.memBytes != 0 &&
  d.memOff + d.memBytes ≤ 224 * 2 ^ 20 && (d.ranges.zip (rangeLimits d.cls)).all (fun r => r.1.1 + r.1.2 ≤ r.2) &&
  (d.cls == 2 || (d.dFirst == 0 && d.dCount == 0))

/-- One feature descriptor (R195, R198, Tables 8.3 and 8.5). -/
def featOk (v : Nat) : Bool :=
  let f := parseFeat v
  !f.rsvd && f.source ≤ 4 && (if f.categorical then f.source != 2 && 1 ≤ f.cats && f.cats ≤ 4096 else f.cats == 0) &&
  (if f.source = 2 || f.source = 3 then f.index ≤ 255 else if f.source = 4 then f.index ≤ 3 else true)

/-- A QUIRE_CFG section (R198, R359, R360). -/
def quireCfgOk (b : Binding) (raw : Bytes) : Bool :=
  let c := parseQuireCfg raw
  let n := fieldAt 0 2 raw
  n ≤ 16 && zeroAt 2 6 raw && zeroAt (8 + 64 * n) (1024 - 64 * n) raw && c.slots.zipIdx.all (fun p => slotOk b p.2 p.1) &&
  pairwise (fun d e => disjoint d.memOff d.memBytes e.memOff e.memBytes &&
    (d.cls != e.cls || (d.ranges.zip e.ranges).all fun r => disjoint r.1.1 r.1.2 r.2.1 r.2.2)) c.slots &&
  c.features.all fun f => featOk f.2

/-- One table record (Table 14.11). -/
def tableOk (banks : List BankRec) (t : Nat) (raw : Bytes) : Bool :=
  let r := parseTable raw
  fieldAt 0 1 raw / 8 == 0 && zeroAt 4 4 raw && r.width ≤ 2 && (r.defined || allZero raw) &&
  r.banks == (banks.filter fun b => b.inTable && b.table == t).length

/-- One bank record (Table 14.11). -/
def bankOk (tables : Sparse TableRec) (raw : Bytes) : Bool :=
  let r := parseBank raw
  let v := unle raw
  !bitOf 7 v && v / 2 ^ 20 == 0 && (r.gutter == 0 || (2 ≤ r.gutter && r.gutter ≤ 10)) &&
  (if r.inTable then (Sparse.get (fun _ => TableRec.none) tables r.table).defined else v == 0)

/-- The AMA_TABLES section (R140, R366). -/
def amaTablesOk (b : Binding) (raw : Bytes) : Bool :=
  let banks := bankRecs raw
  (records 8 64 raw).zipIdx.all (fun p => tableOk banks p.2 p.1) && (records 4 256 (raw.drop 512)).all (bankOk b.tables) &&
  pairwise (fun x y => !x.inTable || !y.inTable || x.table != y.table || x.order != y.order) banks

/-- An AMA_BANK section (R137, R367). -/
def amaBankOk (b : Binding) (m : Nat) : Bool :=
  let r := Sparse.get (fun _ => BankRec.none) b.banks m
  let es := Sparse.get (fun _ => []) b.entries m
  let n := es.length
  r.inTable && n + (if r.gutter = 0 then 0 else n / 2 ^ r.gutter) ≤ 16384 / bankUnits b.tables b.banks m && es.all fun e => e.all Unit3.ok

/-- The content of a section. -/
def secContentOk (e : StageEnv) (b : Binding) (img : Bytes) (s : SecRow) : Bool :=
  let raw := s.bytes img
  match s.typ with
  | 1 => manifestOk e b raw
  | 2 => regionsOk e b raw
  | 3 => profilesOk b raw
  | 4 => tenantMapOk b raw
  | 5 => quireCfgOk b raw
  | 6 => amaTablesOk b raw
  | _ => amaBankOk b (32 * s.quire + s.bank)

/-- The first section that fails, by index. -/
def firstBadSec (e : StageEnv) (b : Binding) (img : Bytes) (n : Nat) : Nat → List SecRow → List SecRow → Option Nat
  | _, _, [] => none
  | i, before, s :: ss =>
    if secFormOk b img.length before n s && secContentOk e b img s then firstBadSec e b img n (i + 1) (before ++ [s]) ss else some i

/-- The staging check of R354: the DETAIL of the first failure, or the binding. -/
def stageCheck (e : StageEnv) (img : Bytes) : Except Nat Binding :=
  if !headerOk img then .error 0xFFFF
  else
    let b := parseBinding img
    let secs := parseSecs img
    match firstBadSec e b img secs.length 0 [] secs with
    | some i => .error i
    | none => .ok b

/-! ### Variant images (Table 14.12) -/

/-- The header field of a range count. -/
def vrntCount (img : Bytes) (i : Nat) : Nat := fieldAt (0x44 + 4 * i) 4 img

/-- D records sorted by score slot and then threshold, with zero reserved fields. -/
def declaredOk (recs : List Bytes) : Bool :=
  recs.all (fun r => zeroAt 2 2 r) &&
  (recs.zip recs.tail).all fun p =>
    fieldAt 0 2 p.1 < fieldAt 0 2 p.2 ||
      (fieldAt 0 2 p.1 == fieldAt 0 2 p.2 && sext 32 (fieldAt 4 4 p.1) ≤ sext 32 (fieldAt 4 4 p.2))

/-- Read a variant image; none when it breaks Table 14.12 or its trailer does not fit (R369 point 4). -/
def parseVariant (img : Bytes) : Option (Bytes × VariantBody) :=
  let cls := fieldAt 0xA 1 img
  let na := vrntCount img 0
  let nb := vrntCount img 1
  let nc := vrntCount img 2
  let nd := vrntCount img 3
  let mem := fieldAt 0x40 4 img
  let sa := if cls = 1 then 8 else 16
  let offB := 0x60 + sa * na
  let offC := offB + 32 * nb
  let offD := offC + 8 * nc
  let offM := offD + 8 * nd
  let recsD := if img.length < offM then [] else records 8 nd (img.drop offD)
  if offM + mem + 48 ≠ img.length || slice 0 8 img != ascii "ZV64VRNT" || fieldAt 8 2 img != 1 || (cls != 1 && cls != 2) ||
      !zeroAt 0xB 5 img || !zeroAt 0x54 12 img || mem % 4096 != 0 || (cls == 1 && nd != 0) || (cls == 2 && nc != 0) || !declaredOk recsD ||
      sha384 (img.take (img.length - 48)) != img.drop (img.length - 48) then none
  else some (img.drop (img.length - 48),
    { cls := cls, slotDigest := slice 0x10 48 img, memBytes := mem, recsA := records sa na (img.drop 0x60),
      recsB := records 32 nb (img.drop offB), recsC := records 8 nc (img.drop offC), recsD := recsD, image := slice offM mem img })

end Sys2Proof.Machine
end

