-- ==== Sys2Proof/Machine/LoadCheck.lean ====
section
/-!
DEFINITION. The checks of LOAD over a binding, a model set and the catalogue (R372): each slot's variant, the nodes and
descriptors of the trees (R198), the classifiers (R221), the profiles' digests (R364).
-/
namespace Sys2Proof.Machine

/-- A model set: slot 16 × q + s and the variant it names. -/
abbrev MSet := Sparse (Option Nat)

/-- The variant named for slot s of quire q. -/
def MSet.at (m : MSet) (q s : Nat) : Option Nat := Sparse.get (fun _ => none) m (16 * q + s)

/-- The variant held under a number. -/
def catGet (cat : Sparse (Option Variant)) (n : Nat) : Option Variant := Sparse.get (fun _ => none) cat n

/-- The variant that a model set gives a slot. -/
def slotVariant (cat : Sparse (Option Variant)) (m : MSet) (q s : Nat) : Option Variant := (m.at q s).bind (catGet cat)

/-- What quire q computes with under a binding and a model set (R371, R373). -/
def buildModel (b : Binding) (cat : Sparse (Option Variant)) (m : MSet) (q : Nat) : QModel :=
  { cfg := b.quires[q]?.getD { slots := [], features := [], witness := [] }
    mem := (List.range 16).map fun s => (slotVariant cat m q s).map fun v => { digest := v.digest, body := v.body } }

/-- The record of a model set, of which its digest is the SHA-384 (R371). -/
def msetRecord (cat : Sparse (Option Variant)) (m : MSet) : Bytes :=
  (List.range 128).flatMap fun k =>
    match Sparse.get (fun _ => none) m k with
    | some n => le 1 1 ++ ((catGet cat n).map (·.digest)).getD (zeros 48)
    | none => zeros 49

/-- [a, a + n) lies in the range (first, count). -/
def within (a n first count : Nat) : Bool := first ≤ a && a + n ≤ first + count

/-! ### One slot (R372) -/

/-- The nodes of a tree slot: its words with their node index; a word of zeros that nothing reaches is unused memory. -/
def slotNodes (d : SlotDesc) (img : Bytes) : List (Nat × Node) :=
  ((records 8 (img.length / 8) img).zipIdx.filter fun p => !allZero p.1).map fun p => (d.memOff / 8 + p.2, parseNode (unle p.1))

/-- A word of a slot's image holds a node: node index i lies in the slot's extent, and its word is not zero. -/
def nodeThere (d : SlotDesc) (img : Bytes) (i : Nat) : Bool :=
  within (8 * i) 8 d.memOff d.memBytes && !allZero (slice (8 * i - d.memOff) 8 img)

/-- The numbers and addresses of a TREES variant lie in the slot's ranges and memory (R372). -/
def treesInSlot (d : SlotDesc) (v : VariantBody) : Bool :=
  (v.recsA.map (parseTree d)).all (fun t => nodeThere d v.image t.root && within t.ens 1 d.bFirst d.bCount) &&
  (v.recsB.map parseEns).all (fun e => within e.firstTree e.trees d.aFirst d.aCount)

/-- The numbers and addresses of a CLASSIFIER variant lie in the slot's ranges and memory (R372). -/
def clsInSlot (d : SlotDesc) (v : VariantBody) : Bool :=
  let layers := v.recsB.map (parseLayer d)
  (v.recsA.map (parseCls d)).all (fun c =>
    let lastN := ((layers[c.firstLayer + c.layers - 1 - d.bFirst]?).map (·.n)).getD 0
    within c.firstLayer c.layers d.bFirst d.bCount && within c.embPtr (2 ^ c.eb * c.k0) d.memOff d.memBytes &&
      within c.firstSlot lastN d.cFirst d.cCount) &&
  layers.all (fun l =>
    within l.wPtr (l.k * l.n) d.memOff d.memBytes && within l.bPtr (4 * l.n) d.memOff d.memBytes && within l.witPtr (4 * l.n) d.memOff d.memBytes) &&
  v.recsD.all fun r => within (fieldAt 0 2 r) 1 d.cFirst d.cCount

/-- The envelope of a slot (R372, Table 14.9). -/
def envelopeOk (d : SlotDesc) (v : VariantBody) : Bool :=
  if d.cls = 1 then
    sumOf (fun (t : TreeDesc) => t.depth + 1) (v.recsA.map (parseTree d)) ≤ d.env1 && v.recsA.length ≤ d.env2
  else
    let ls := v.recsB.map (parseLayer d)
    sumOf (fun (l : LayerDesc) => l.k * l.n) ls ≤ d.env1 && sumOf (fun (l : LayerDesc) => l.n) ls ≤ d.env2

/-- A profile selects a classifier or an ensemble of the slot in quire q. -/
def profileUses (p : Profile) (q : Nat) (d : SlotDesc) (v : VariantBody) : Bool :=
  let sel (quires mask first n : Nat) : Bool := bitOf q quires && (List.range n).any fun i => bitOf (first + i) mask
  if d.cls = 1 then sel p.inQuires p.inEns d.bFirst v.recsB.length || sel p.outQuires p.outEns d.bFirst v.recsB.length
  else sel p.inQuires p.inCls d.aFirst v.recsA.length || sel p.outQuires p.outCls d.aFirst v.recsA.length

/-- The extent of a variant lies in the slot's region, whose profile range holds every profile that uses it (R372). -/
def regionFits (b : Binding) (q : Nat) (d : SlotDesc) (v : Variant) : Bool :=
  b.regions.any fun r => r.kind == 5 && r.index == d.region && within v.addr v.len r.base r.size &&
    b.profiles.all fun p => !profileUses p q d v.body || within p.num 1 r.pFirst r.pCount

/-- The points of R372 for a slot in use. -/
def slotFits (b : Binding) (q : Nat) (d : SlotDesc) (v : Variant) : Bool :=
  let w := v.body
  w.cls == d.cls && w.slotDigest == sha384 d.raw && w.memBytes ≤ d.memBytes && w.recsA.length ≤ d.aCount && w.recsB.length ≤ d.bCount &&
  w.recsC.length ≤ d.cCount && w.recsD.length ≤ d.dCount && (if d.cls = 1 then treesInSlot d w else clsInSlot d w) && envelopeOk d w &&
  regionFits b q d v

/-- Slot s of quire q under a model set: not named, or named, described by the binding, held and fitting (R371, R372). -/
def slotCheck (b : Binding) (cat : Sparse (Option Variant)) (m : MSet) (q s : Nat) : Bool :=
  match m.at q s with
  | none => true
  | some n =>
    match (b.quires[q]?).bind fun c => c.slots[s]?, catGet cat n with
    | some d, some v => slotFits b q d v
    | _, _ => false

/-! ### A quire's trees and classifiers (R198, R221) -/

/-- A node of a slot under R192 to R194 and R198. -/
def nodeOk (q : QModel) (d : SlotDesc) (v : VariantBody) (i : Nat) (n : Node) : Bool :=
  if n.leaf then n.feature == 0 && n.split == 0 && !n.defaultLeft && !n.categorical && !n.rsvd
  else
    let f := q.feat n.feature
    let words := if n.categorical then ceilDiv f.cats 64 else 1
    !n.rsvd && n.low % 2 == 0 && i < n.low && nodeThere d v.image n.low && nodeThere d v.image (n.low + 1) && f.source != 0 &&
    f.categorical == n.categorical && n.split + words ≤ 65536 && within n.split words d.cFirst d.cCount &&
    (n.categorical || q.split n.split < 2 ^ 32)

/-- A node that reads a score slot compares it with a declared threshold (R221). -/
def nodeDeclared (q : QModel) (n : Node) : Bool :=
  let f := q.feat n.feature
  n.leaf || n.categorical || f.source != 2 || (q.thresholds f.index).contains (sext 32 (q.split n.split))

/-- An ensemble descriptor, and its trees, which all name it (R197, R198). -/
def ensOk (q : QModel) (num : Nat) (e : EnsDesc) : Bool :=
  !e.rsvd && e.leafShift ≤ 32 && 1 ≤ e.trees && e.trees ≤ 16384 &&
  (List.range e.trees).all fun i => ((q.tree (e.firstTree + i)).map fun t => t.ens == num).getD false

/-- The tree structures of a slot (R198), with R221's test of its score nodes. -/
def treesOk (q : QModel) (d : SlotDesc) (v : VariantBody) : Bool :=
  let nodes := slotNodes d v.image
  (v.recsA.map (parseTree d)).zipIdx.all (fun p =>
    let t := p.1
    !t.rsvd && t.depth ≤ 24 &&
    ((q.ens t.ens).map fun e => within (d.aFirst + p.2) 1 e.firstTree e.trees).getD false) &&
  (v.recsB.map parseEns).zipIdx.all (fun p => ensOk q (d.bFirst + p.2) p.1) &&
  nodes.all fun n => nodeOk q d v n.1 n.2 && nodeDeclared q n.2

/-- The L1 norm of a column. -/
def l1 (xs : List Int) : Nat := sumOf Int.natAbs xs

/-- A layer descriptor (R221, Table 9.3); `last`: it is its classifier's last layer. -/
def layerOk (q : QModel) (wit : List Int) (l : LayerDesc) (last : Bool) : Bool :=
  let cols := (List.range l.n).map fun j => int8s (q.column l j).bytes
  !l.rsvd && 1 ≤ l.k && l.k ≤ 1024 && 1 ≤ l.n && l.n ≤ 1024 && 9 ≤ l.rshift && l.rshift ≤ 24 &&
  (if last then l.s == 0 && l.m == 0 && l.lo == 0 && l.hi == 0 else l.s ≤ 31 && 1 ≤ l.m && l.m ≤ 32767 && l.lo ≤ l.hi) &&
  l.w1 == maxOf l1 cols &&
  cols.zipIdx.all fun p => dot wit p.1 == q.witSum l p.2 && (q.bias l p.2).natAbs ≤ 2 ^ 31 - 2 ^ 24 - 1

/-- Each layer's input width is the output width of the one before it. -/
def widthsOk : Nat → List LayerDesc → Bool
  | _, [] => true
  | k, l :: ls => l.k == k && widthsOk l.n ls

/-- A classifier descriptor and its layers (R221, Table 9.2). -/
def clsOk (q : QModel) (wit : List Int) (c : ClsDesc) : Bool :=
  let ls := q.layersOf c
  let n := ((ls.getLast?).map (·.n)).getD 0
  !c.rsvd && 1 ≤ c.layers && c.layers ≤ 8 && ls.length == c.layers && 1 ≤ c.k0 && c.k0 ≤ 1024 && 8 ≤ c.eb && c.eb ≤ 16 &&
  c.firstSlot + n ≤ 256 && widthsOk c.k0 ls && ls.zipIdx.all fun p => layerOk q wit p.1 (p.2 + 1 == ls.length)

/-- The score slots that a classifier writes. -/
def slotsOf (q : QModel) (c : ClsDesc) : Nat × Nat := (c.firstSlot, (((q.layersOf c).getLast?).map (·.n)).getD 0)

/-- The classifiers of a quire. -/
def QModel.allCls (q : QModel) : List ClsDesc :=
  (q.used.filter fun p => p.1.cls == 2).flatMap fun p => p.2.body.recsA.map (parseCls p.1)

/-- The classifier structures of a slot (R221). -/
def classifiersOk (q : QModel) (d : SlotDesc) (v : VariantBody) : Bool :=
  let wit := (List.range 1024).map fun i => Sparse.get (fun _ => (0 : Int)) q.cfg.witness i
  (v.recsB.map (parseLayer d)).all (fun l => layerOk q wit l false || layerOk q wit l true) &&
  v.recsA.all fun r =>
    let c := parseCls d r
    clsOk q wit c &&
      (q.allCls.filter fun o => !disjoint (slotsOf q o).1 (slotsOf q o).2 (slotsOf q c).1 (slotsOf q c).2).length ≤ 1

/-- The structures that a slot of a quire holds (R198, R221). -/
def slotContentOk (q : QModel) (s : Nat) : Bool :=
  match q.used.find? fun p => p.1.num == s with
  | some (d, m) => if d.cls = 1 then treesOk q d m.body else classifiersOk q d m.body
  | none => true

/-! ### Profiles (R364) -/

/-- The nodes that a walk from a node index can reach, within the depth that the steps enforce. -/
def reachNodes (q : QModel) (d : SlotDesc) : Nat → Nat → List Node
  | 0, _ => []
  | k + 1, i =>
    let n := parseNode (unle (q.read d (8 * i) 8).bytes)
    if n.leaf then [n] else n :: (reachNodes q d k n.low ++ reachNodes q d k (n.low + 1))

/-- The ensembles, and their trees, that a bitmap selects in a quire. -/
def selEns (q : QModel) (mask : Nat) : List (Nat × EnsDesc) :=
  (List.range 256).filterMap fun e => if bitOf e mask then (q.ens e).map fun d => (e, d) else none

/-- The trees of an ensemble. -/
def treesOf (q : QModel) (e : EnsDesc) : List TreeDesc := (List.range e.trees).filterMap fun i => q.tree (e.firstTree + i)

/-- The classifiers that a bitmap selects in a quire. -/
def selCls (q : QModel) (mask : Nat) : List (Nat × ClsDesc) :=
  (List.range 64).filterMap fun c => if bitOf c mask then (q.cls c).map fun d => (c, d) else none

/-- The internal nodes of the selected ensembles. -/
def selNodes (q : QModel) (ens : Nat) : List Node :=
  (selEns q ens).flatMap fun e => (treesOf q e.2).flatMap fun t => (reachNodes q t.slot 25 t.root).filter fun n => !n.leaf

/-- The features that the selected ensembles read. -/
def selFeats (q : QModel) (ens : Nat) : List Nat := sortNat ((selNodes q ens).map (·.feature))

/-- A record under its number. -/
def numbered (n : Nat) (b : Bytes) : Bytes := le 4 n ++ b

/-- The bytes that the digest of R364 covers in one quire for one direction's bitmaps. -/
def profileBytes (q : QModel) (cls ens : Nat) : Bytes :=
  let cs := selCls q cls
  let es := selEns q ens
  let recA (k n : Nat) : Bytes := ((q.recAt k (·.aFirst) (·.recsA) n).map (·.2)).getD []
  let recB (k n : Nat) : Bytes := ((q.recAt k (·.bFirst) (·.recsB) n).map (·.2)).getD []
  let feats := selFeats q ens
  let words := sortNat ((selNodes q ens).flatMap fun n =>
    if n.categorical then (List.range (ceilDiv (q.feat n.feature).cats 64)).map (n.split + ·) else [n.split])
  let slots := sortNat (cs.map (·.2.slot.num) ++ es.flatMap fun e => (treesOf q e.2).map (·.slot.num))
  cs.flatMap (fun c => numbered c.1 (recA 2 c.1) ++ (List.range c.2.layers).flatMap fun i => recB 2 (c.2.firstLayer + i)) ++
  es.flatMap (fun e => numbered e.1 (recB 1 e.1) ++ (List.range e.2.trees).flatMap fun i => recA 1 (e.2.firstTree + i)) ++
  feats.flatMap (fun f => numbered f (le 4 (Sparse.get (fun _ => 0) q.cfg.features f))) ++
  words.flatMap (fun w => numbered w (le 8 (q.split w))) ++
  cs.flatMap (fun c => (List.range (slotsOf q c.2).2).flatMap fun i =>
    (q.thresholds (c.2.firstSlot + i)).flatMap fun t => numbered (c.2.firstSlot + i) (le 4 (ofInt 32 t))) ++
  slots.flatMap fun s => numbered s (((q.slotMem s).map fun m => m.body.image).getD [])

/-- Directions and score slots of what a bitmap selects in one quire (R364). -/
def selectionOk (q : QModel) (cls ens : Nat) (output : Bool) : Bool :=
  let cs := selCls q cls
  cs.all (fun c => c.2.output == output) && (selEns q ens).all (fun e => e.2.output == output) &&
  (selFeats q ens).all fun f =>
    let d := q.feat f
    d.source != 2 || cs.any fun c => within d.index 1 (slotsOf q c.2).1 (slotsOf q c.2).2

/-- The quires of a mask. -/
def maskQuires (mask : Nat) : List Nat := (List.range 8).filter fun q => bitOf q mask

/-- One direction of a profile over the quires of its mask (R364). -/
def directionOk (models : List QModel) (mask cls ens : Nat) (output : Bool) : Bool :=
  let qs := (maskQuires mask).filterMap fun q => models[q]?
  let ds := qs.map fun q => sha384 (profileBytes q cls ens)
  qs.all (fun q => selectionOk q cls ens output) && ds.all fun d => some d == ds.head?

/-- Both directions of every profile (R364). -/
def profilesAgree (b : Binding) (models : List QModel) : Bool :=
  b.profiles.all fun p => directionOk models p.inQuires p.inCls p.inEns false && directionOk models p.outQuires p.outCls p.outEns true

/-! ### The whole check (R358, R372) -/

/-- A region of a kind. -/
def Binding.region (b : Binding) (kind : Nat) : Option Region := b.regions.find? fun r => r.kind == kind

/-- What a binding may change while streams are live (R358): 1, REGIONS; 0, the MANIFEST. -/
def liveChange (old new : Binding) : Option Nat :=
  if [2, 3, 4].any (fun k =>
    match old.region k, new.region k with
    | some r, some s => r.base != s.base || s.size < r.size
    | _, _ => true) then some 1
  else if old.manifest.stateFormat != new.manifest.stateFormat then some 0
  else none

/-- The slots of the chip in order of quire and slot. -/
def allSlots : List (Nat × Nat) := (List.range 8).flatMap fun q => (List.range 16).map fun s => (q, s)

/-- The DETAIL of a failing slot. -/
def slotDetail (q s : Nat) : Nat := 0x8000 + 16 * q + s

/-- The check of LOAD: the DETAIL of the first failure (R372). `old`: the binding in force, `live`: LDG_LIVE is not 0. The
REGIONS section has index 1, the MANIFEST index 0, PROFILES index 2, by the order of R353. -/
def loadCheck (b : Binding) (m : MSet) (cat : Sparse (Option Variant)) (old : Option Binding) (live : Bool) : Option Nat :=
  let models := (List.range 8).map (buildModel b cat m)
  match allSlots.find? fun p => !slotCheck b cat m p.1 p.2 with
  | some p => some (slotDetail p.1 p.2)
  | none =>
    match allSlots.find? fun p => !((models[p.1]?).map fun q => slotContentOk q p.2).getD true with
    | some p => some (slotDetail p.1 p.2)
    | none =>
      match if live then old.bind fun o => liveChange o b else none with
      | some i => some i
      | none => if profilesAgree b models then none else some 2

end Sys2Proof.Machine
end

