-- ==== Sys2Proof/Machine/BindCmds.lean ====
section
/-!
DEFINITION. The binding, the catalogue and the model set (chapter 14): SHL_BIND_CMD, the writes of SHL_CAT_SIZE and
SHL_MSET, the restore of a previous configuration.
-/
namespace Sys2Proof.Machine

/-! ### What the checks use -/

/-- The firmware image that runs: the one in the active code bank. -/
def State.runImage (s : State) : FwImage := if s.flag F.EPD_STATE_BANK then s.epd.bank1 else s.epd.bank0

/-- GiB of a stack's density code (SHL_CONFIG). -/
def stackGib (code : Nat) : Nat := if code = 2 then 48 else if code = 1 then 24 else 0

/-- The usable capacity of the near tier (R18, R356). -/
def State.nearCap (s : State) : Nat := 2 * min (stackGib s.pwr.stack0) (stackGib s.pwr.stack1) * 2 ^ 30

/-- Where the catalogue begins (Table 14.6). -/
def catStart : Nat := 0x3C000000

/-- Where the catalogue ends. -/
def State.catEnd (s : State) : Nat := catStart + s.fld F.SHL_CAT_SIZE_GIB * 2 ^ 30

/-- What the staging check asks of the part (R354). -/
def State.stageEnv (s : State) : StageEnv :=
  { steppingB0 := !Config.steppingA0, fwAbi := s.runImage.bindingAbi, capacity := s.nearCap, catBase := catStart, catEnd := s.catEnd }

/-- The model set in the SHL_MSET_q_s registers (R371). -/
def State.msetRegs (s : State) : MSet :=
  Sparse.ofList none (allSlots.map fun p =>
    if s.flag (F.SHL_MSET_USE p.1 p.2) then some (s.fld (F.SHL_MSET_VARIANT p.1 p.2)) else none)

/-- SHL_MSET_q_s take the values of a model set. -/
def State.showMset (m : MSet) (s : State) : State :=
  allSlots.foldl (fun s p =>
    match m.at p.1 p.2 with
    | some v => (s.setFld (F.SHL_MSET_USE p.1 p.2) 1).setFld (F.SHL_MSET_VARIANT p.1 p.2) v
    | none => if s.flag (F.SHL_MSET_USE p.1 p.2) then s.wr (R.SHL_MSET p.1 p.2) 0 else s) s

/-! ### The command register -/

/-- A command ends with a status and DETAIL. -/
def State.bindEnd (status detail : Nat) (s : State) : State :=
  let s := ((s.setFld F.SHL_BIND_RESULT_STATUS status).setFld F.SHL_BIND_RESULT_BUSY 0).setFld F.SHL_BIND_RESULT_DETAIL detail
  { s with bnd := { s.bnd with op := none } }

/-- A command runs. -/
def State.bindRun (op : BindOp) (s : State) : State :=
  let s := ((s.setFld F.SHL_BIND_RESULT_STATUS 0).setFld F.SHL_BIND_RESULT_BUSY 1).setFld F.SHL_BIND_RESULT_DETAIL 0xFFFF
  { s with bnd := { s.bnd with op := some op } }

/-- A command is discarded while one runs, refused in lockdown (R449), else taken. -/
def State.bindCmd (f : State → State) (s : State) : State :=
  if s.flag F.SHL_BIND_RESULT_BUSY then s else if s.lockdown then s.bindEnd 0x30 0xFFFF else f s

/-- SHL_BIND_SRC. -/
def State.bindSrc (s : State) : Nat := s.rd64 R.SHL_BIND_SRC_LO R.SHL_BIND_SRC_HI

/-- The open window holds what a LOAD loaded, and that is no longer what a seal would take in (R375). -/
def State.goStale (s : State) : State := if s.bnd.loaded.isSome then { s with bnd := { s.bnd with stale := true } } else s

/-- BIND_STAGE: the copy into the free stage buffer starts; a binding staged before is gone (R354). -/
def doBindStage (win : Nat) : State → State := State.bindCmd fun s =>
  let r := s.dmaCheck win 0 false s.bindSrc 64
  if r.1 ≠ 0 then r.2.bindEnd r.1 0xFFFF
  else
    let s := r.2.goStale
    State.bindRun (.stage win s.bindSrc) { s with bnd := { s.bnd with staged := none } }

/-- BIND_STAGE_DONE: the staging check over the copied image (R354). -/
def doBindStageDone (data : DmaIn) (s : State) : State :=
  match s.bnd.op with
  | some (.stage win src) =>
    match data with
    | .error => s.dmaErr.bindEnd 0x15 0xFFFF
    | .ok bs =>
      let n := fieldAt 0x10 8 bs
      if !s.winPermits win 0 false then s.bindEnd 0x15 0xFFFF
      else if n < 112 || 256 * 2 ^ 20 < n then s.bindEnd 0x13 0xFFFF
      else
        let r := s.dmaCheck win 0 false src n
        if r.1 ≠ 0 then r.2.bindEnd r.1 0xFFFF
        else match stageCheck r.2.stageEnv (padTo n bs) with
          | .error d => r.2.bindEnd 0x13 d
          | .ok b => ({ r.2 with bnd := { r.2.bnd with staged := some b } }).bindEnd 0 0xFFFF
  | _ => s

/-- BIND_DISCARD: the staged binding, if any, is removed (R354). -/
def doBindDiscard : State → State := State.bindCmd fun s =>
  let s := s.goStale
  ({ s with bnd := { s.bnd with staged := none } }).bindEnd 0 0xFFFF

/-! ### LOAD (R372 to R376) -/

/-- The table record of a bank under a binding; none for a bank in no table. -/
def Binding.bankTable (b : Binding) (m : Nat) : Option TableRec :=
  let r := Sparse.get (fun _ => BankRec.none) b.banks m
  if r.inTable then some (Sparse.get (fun _ => TableRec.none) b.tables r.table) else none

/-- Bank m has other records under binding b than under `old` (R374). -/
def bankDiffers (old : Option Binding) (b : Binding) (m : Nat) : Bool :=
  let rec0 := (old.map fun o => Sparse.get (fun _ => BankRec.none) o.banks m).getD BankRec.none
  let es0 := (old.map fun o => Sparse.get (fun _ => ([] : List Entry)) o.entries m).getD []
  rec0 != Sparse.get (fun _ => BankRec.none) b.banks m || (old.bind fun o => o.bankTable m) != b.bankTable m ||
    es0 != Sparse.get (fun _ => ([] : List Entry)) b.entries m

/-- The banks that LOAD rewrites (R374). -/
def rewrites (old : Option Binding) (b : Binding) : List Nat := (List.range 256).filter (bankDiffers old b)

/-- A bank's copy for the save area, with the quire's journal and command when the journal names the bank (R374). -/
def Ama.saveOf (a : Ama) (m : Nat) : AmaSave :=
  let q := m / 32
  { bank := m, slots := a.bankSlots m, failed := a.failed.contains m
    journal := if (a.jrn q).state != 0 && (a.jrn q).bank == m % 32 then some (a.jrn q, a.updOf q) else none }

/-- Copy banks into the save area, those that are not in it (R374). -/
def Ama.save (a : Ama) (ms : List Nat) : Ama :=
  { a with saves := a.saves ++ (ms.filter fun m => !a.saves.any fun x => x.bank == m).map a.saveOf }

/-- Write a bank back from its copy: cells and shadows from the saved shadows, VALID bits, marks and journal (R374, R378). -/
def Ama.unsave (a : Ama) (x : AmaSave) : Ama :=
  let a := (a.clearBank x.bank).putSlots x.bank (x.slots.map fun p => (p.1, { p.2 with cells := p.2.units.cells }))
  let a := if x.failed then { a with failed := a.failed ++ [x.bank] } else a
  match x.journal with
  | some j => (a.setJrn (x.bank / 32) j.1).setUpd (x.bank / 32) j.2
  | none => a

/-- Write a bank from a binding (R173). -/
def Ama.loadBank (b : Binding) (a : Ama) (m : Nat) : Ama :=
  let r := Sparse.get (fun _ => BankRec.none) b.banks m
  (a.clearBank m).putSlots m (placeEntries (bankUnits b.tables b.banks m) r.gutter (Sparse.get (fun _ => []) b.entries m))

/-- The binding that a LOAD takes (R372). -/
def State.loadBinding (s : State) (fromStage : Bool) : Option Binding := if fromStage then s.bnd.staged else s.bnd.cur

/-- The models that a LOAD writes. -/
def State.loadModels (s : State) (b : Binding) (m : MSet) : List QModel := (List.range 8).map (buildModel b s.bnd.cat m)

/-- The quires that a LOAD writes: their slots, QUIRE_CFG or banks differ (R373). -/
def State.loadQuires (s : State) (b : Binding) (m : MSet) : List Nat :=
  let new := s.loadModels b m
  (List.range 8).filter fun q => s.bnd.models[q]? != new[q]? || (rewrites s.bnd.cur b).any fun k => k / 32 == q

/-- Numbers joined without repeats. -/
def joinNat (a b : List Nat) : List Nat := sortNat (a ++ b)

/-- The writes of a LOAD that does not succeed: its quires and banks are no longer as they were sealed. -/
def State.loadSpoils (b : Binding) (m : MSet) (s : State) : State :=
  { s with
    bnd := { s.bnd with dirty := joinNat s.bnd.dirty (s.loadQuires b m), loadFailed := true, loaded := none }
    ama := s.ama.save (rewrites s.bnd.cur b) }

/-- A LOAD stops: by a seal, or a warm or quire reset (R378, R379). -/
def State.stopLoad (s : State) : State :=
  match s.bnd.op with
  | some (.load m fromStage) =>
    match s.loadBinding fromStage with
    | some b => (s.loadSpoils b m).bindEnd 0x15 0xFFFF
    | none => s.bindEnd 0x15 0xFFFF
  | _ => s

/-- BIND_LOAD: only in the open window, with a binding staged or in force, and not during a handover (R372, R419).
The banks it rewrites are copied first (R374). -/
def doBindLoad : State → State := State.bindCmd fun s =>
  let staged := s.bnd.staged.isSome
  if s.dkl.gather ≠ .openW || (!staged && s.bnd.cur.isNone) || s.epd.handover.isSome then s.bindEnd 0x15 0xFFFF
  else
    let s := match s.loadBinding staged with
      | some b => { s with ama := s.ama.save (rewrites s.bnd.cur b) }
      | none => s
    s.bindRun (.load s.msetRegs staged)

/-- The writes of a successful LOAD (R373, R374): models, banks; a bank that an earlier LOAD of the window rewrote and whose
records are those in force again is written back from its copy. -/
def State.loadWrites (b : Binding) (m : MSet) (fromStage : Bool) (s : State) : State :=
  let qs := s.loadQuires b m
  let ms := rewrites s.bnd.cur b
  let a := s.ama.save ms
  let back := a.saves.filter fun x => !ms.contains x.bank
  let a := back.foldl Ama.unsave a
  let a := { ms.foldl (Ama.loadBank b) a with saves := a.saves.filter fun x => ms.contains x.bank }
  let models := s.loadModels b m
  { s with
    ama := a
    bnd := { s.bnd with
      models := models, dirty := joinNat s.bnd.dirty qs, loadFailed := false, stale := false
      quireOut := s.bnd.quireOut.filter fun q => !qs.contains q
      badWords := s.bnd.badWords.filter fun w => !qs.contains w.1
      loadedVars := joinNat s.bnd.loadedVars (m.filterMap (·.2))
      loaded := some { binding := b, mset := m, msetDigest := sha384 (msetRecord s.bnd.cat m), models := models, fromStage := fromStage } } }

/-- BIND_LOAD_DONE: the checks and the writes of LOAD (R372 to R375). -/
def doBindLoadDone (s : State) : State :=
  match s.bnd.op with
  | some (.load m fromStage) =>
    match s.loadBinding fromStage with
    | none => s
    | some b =>
      match loadCheck b m s.bnd.cat s.bnd.cur (s.liveCount != 0) with
      | some d => (s.loadSpoils b m).bindEnd 0x13 d
      | none => ((s.loadWrites b m fromStage).inc R.SHL_BIND_LOAD_COUNT).bindEnd 0 0xFFFF
  | _ => s

/-! ### The restore (R378, R379) -/

/-- CONFIG_RESTORE_DONE: the previous contents of quire q stand again, banks from the save area, models from the binding and
model set in force; a command suspended there runs on (R374). -/
def doConfigRestoreDone (q : Nat) (s : State) : State :=
  if !s.bnd.restoring.contains q then s
  else
    let mine := s.ama.saves.filter fun x => x.bank / 32 == q
    let a := mine.foldl Ama.unsave s.ama
    let model := match s.bnd.cur with
      | some b => buildModel b s.bnd.cat s.bnd.mset q
      | none => { cfg := { slots := [], features := [], witness := [] }, mem := [] }
    State.resumeUpds [q] [] { s with
      ama := { a with saves := a.saves.filter fun x => x.bank / 32 != q }
      bnd := { s.bnd with
        models := s.bnd.models.zipIdx.map fun p => if p.2 = q then model else p.1
        restoring := s.bnd.restoring.filter (· != q)
        quireOut := s.bnd.quireOut.filter (· != q)
        badWords := s.bnd.badWords.filter fun w => w.1 != q } }

/-! ### The catalogue (R368 to R370) -/

/-- The variants held. -/
def Bnd.variants (b : Bnd) : List Variant := b.cat.filterMap (·.2)

/-- The TENANT_MODEL regions that CAT_ADD may use (R369). -/
def State.catRegions (s : State) : List Region :=
  let of (b : Option Binding) : List Region := ((b.map (·.regions)).getD []).filter fun r => r.kind == 5
  of s.bnd.cur ++ if s.dkl.gather = .openW then of (s.bnd.loaded.map (·.binding)) else []

/-- CAT_ADD: the checks of R369 in their order, then the copy starts. -/
def doCatAdd (win variant : Nat) : State → State := State.bindCmd fun s =>
  let dest := s.rd64 R.SHL_CAT_DEST_LO R.SHL_CAT_DEST_HI
  let n := s.rd R.SHL_BIND_LEN
  let inside := s.catRegions.filter fun r => r.base ≤ dest && dest < r.base + r.size
  match inside.find? fun r => r.base + r.size < dest + n with
  | some r => ({ s with bnd := { s.bnd with faultAddr := r.base + r.size } }).bindEnd 0x10 0xFFFF
  | none =>
    if inside.isEmpty || s.bnd.variants.any (fun v => !disjoint v.addr v.len dest n) || (catGet s.bnd.cat variant).isSome then
      s.bindEnd 0x15 0xFFFF
    else
      let r := s.dmaCheck win 0 false s.bindSrc n
      if r.1 ≠ 0 then r.2.bindEnd r.1 0xFFFF else r.2.bindRun (.catAdd variant win s.bindSrc n dest)

/-- CAT_ADD_DONE: the image is entered, or rejected for its format or trailer (R369 point 4). -/
def doCatAddDone (data : DmaIn) (s : State) : State :=
  match s.bnd.op with
  | some (.catAdd variant win _ n dest) =>
    match data with
    | .error => s.dmaErr.bindEnd 0x15 0xFFFF
    | .ok bs =>
      if !s.winPermits win 0 false then s.bindEnd 0x15 0xFFFF
      else match parseVariant (padTo n bs) with
        | none => s.bindEnd 0x13 0xFFFF
        | some (digest, body) =>
          let region := ((s.catRegions.find? fun r => r.base ≤ dest && dest < r.base + r.size).map (·.index)).getD 0
          let v : Variant := { num := variant, addr := dest, len := n, region := region, digest := digest, body := body }
          ({ s with bnd := { s.bnd with cat := Sparse.set (fun _ => none) s.bnd.cat variant (some v) } }).bindEnd 0 0xFFFF
  | _ => s

/-- CAT_REMOVE: refused for a variant named in force or by a model set loaded in this window, or not held (R370). -/
def doCatRemove (variant : Nat) : State → State := State.bindCmd fun s =>
  let named := s.bnd.mset.any (fun p => p.2 == some variant) || s.bnd.loadedVars.contains variant
  if named || (catGet s.bnd.cat variant).isNone then s.bindEnd 0x15 0xFFFF
  else ({ s with bnd := { s.bnd with cat := Sparse.set (fun _ => none) s.bnd.cat variant none } }).bindEnd 0 0xFFFF

/-- CAT_SIZE_WRITE: taken only at gathering ID 0 in OPEN, in range and within the capacity (R368). -/
def doCatSizeWrite (v : Nat) (s : State) : State :=
  let g := bitsOf 6 0 v
  if s.fld F.DKL_GATHER_ID_ID = 0 && s.dkl.gather = .openW && 1 ≤ g && g ≤ 64 && catStart + g * 2 ^ 30 ≤ s.nearCap then
    s.setFld F.SHL_CAT_SIZE_GIB g
  else s

/-- MSET_WRITE: an LK write of SHL_MSET_q_s, which makes a loaded configuration STALE (R9, R371, R375). -/
def doMsetWrite (q slot v : Nat) (s : State) : State :=
  if s.dkl.gather ≠ .openW then s
  else ((s.setFld (F.SHL_MSET_VARIANT q slot) (bitsOf 11 0 v)).setFld (F.SHL_MSET_USE q slot) (bitsOf 15 15 v)).goStale

end Sys2Proof.Machine
end

