-- ==== Sys2Proof/Machine/Firmware.lean ====
section
/-!
DEFINITION. The firmware image: the manifest of Table 16.3 and the checks of R411 and R423, and the non-volatile store's
cells: pages, erase counts, spares (R404 to R409).
-/
namespace Sys2Proof.Machine

/-! ### The manifest (Table 16.3) -/

/-- CHUNKS. -/
def fwChunks (c0 : Bytes) : Nat := fieldAt 0xA 2 c0

/-- Bytes before the signature: the header and the digest table. -/
def fwSigned (c0 : Bytes) : Nat := 0x200 + 48 * (fwChunks c0 - 1)

/-- SHA-384 of the manifest up to the end of its signature (R413). -/
def fwDigest (c0 : Bytes) : Bytes := sha384 (slice 0 (fwSigned c0 + 96) c0)

/-- CHUNK_DIGEST of chunk c. -/
def chunkDigest (c0 : Bytes) (c : Nat) : Bytes := slice (0x200 + 48 * (c - 1)) 48 c0

/-- An offset and length of a code range lies in the body, in its ranges (Table 16.3). -/
def codeRangeOk (chunks off len lo hi : Nat) : Bool :=
  off % 65536 == 0 && off != 0 && lo ≤ len && len ≤ hi && off + len ≤ 65536 * chunks

/-- Step 1 of R411: MAGIC, FORMAT, CHUNKS, the ranges and the reserved fields. -/
def fwFormOk (c : Bytes) : Bool :=
  let n := fwChunks c
  slice 0 8 c == ascii "ZV64FWIM" && fieldAt 8 2 c == 1 && 2 ≤ n && n ≤ 256 && fieldAt 0x11 1 c ≤ 1 && fieldAt 0x14 1 c / 4 == 0 &&
  zeroAt 0x15 1 c && codeRangeOk n (fieldAt 0x24 4 c) (fieldAt 0x28 4 c) 1 8388608 &&
  codeRangeOk n (fieldAt 0x2C 4 c) (fieldAt 0x30 4 c) 4 262144 &&
  disjoint (fieldAt 0x24 4 c) (fieldAt 0x28 4 c) (fieldAt 0x2C 4 c) (fieldAt 0x30 4 c) && zeroAt 0x34 12 c && zeroAt 0xB0 336 c

/-- Step 2: the fused key and the signature. -/
def fwAuthOk (c : Bytes) : Bool :=
  let pub := slice 0x50 96 c
  let n := fwSigned c
  sha384 pub == be 48 Config.fwKeyDigest.toNat &&
  ecdsaVerify pub (slice 0 n c) (unbe (slice n 48 c)) (unbe (slice (n + 48) 48 c))

/-- Step 3: hardware type and unit. -/
def fwUnitOk (c : Bytes) : Bool :=
  fieldAt 0x12 2 c == 0x64 && slice 0x40 16 c == (if fieldAt 0x11 1 c = 1 then unitIdBytes else zeros 16)

/-- The checks of R411 in their order: 0 when all pass. `fuses`, `conf`: the fuse counter and the confirmed version. -/
def fwCheck (fuses conf : Nat) (c : Bytes) : Nat :=
  if !fwFormOk c then 0x14
  else if !fwAuthOk c || !fwUnitOk c then 0x16
  else if fieldAt 0x10 1 c < fuses || fieldAt 0xC 4 c < conf then 0x12
  else 0

/-- What the device keeps of an image: the manifest's figures and the tag in the Quire Supervisor code. -/
def fwImage (c0 : Bytes) (qsvTag : Nat) : FwImage :=
  { version := fieldAt 0xC 4 c0, secVersion := fieldAt 0x10 1 c0, bindingAbi := fieldAt 0x16 2 c0, settingsFormat := fieldAt 0x1C 2 c0,
    steppings := fieldAt 0x14 1 c0, bundleTag := fieldAt 0x20 4 c0, qsvTag := qsvTag, digest := fwDigest c0 }

/-- STEPPINGS lists the part's stepping (R418, R423). -/
def steppingListed (steppings : Nat) : Bool := bitOf (if Config.steppingA0 then 0 else 1) steppings

/-! ### The cells of the store -/

/-- Page p of the store. -/
def Nvm.page (n : Nvm) (p : Nat) : Bytes := Sparse.get blankPage n.pages p

/-- The bytes of k pages from page p. -/
def Nvm.readPages (n : Nvm) (p : Nat) : Nat → Bytes
  | 0 => []
  | k + 1 => n.page p ++ n.readPages (p + 1) k

/-- Bytes [addr, addr + len) of the store. -/
def Nvm.read (n : Nvm) (addr len : Nat) : Bytes :=
  slice (addr % 256) len (n.readPages (addr / 256) (ceilDiv (addr % 256 + len) 256))

/-- Logical block b. -/
def Nvm.block (n : Nvm) (b : Nat) : Bytes := n.readPages (256 * b) 256

/-- The physical block under logical block b is retired and a spare mapped, erased, with its own count (R408); none
when no spare is left (R409). -/
def Nvm.takeSpare (b : Nat) (n : Nvm) : Option Nvm :=
  if n.spares = 0 then none
  else some { n with spares := n.spares - 1, retired := n.retired + 1, erases := Sparse.set (fun _ => 0) n.erases b 1 }

/-- The pages of logical block b are blank. -/
def Nvm.blank (b : Nat) (n : Nvm) : Nvm := { n with pages := n.pages.filter fun p => p.1 / 256 != b }

/-- Erase logical block b; `bad`: its read-back verify fails. None when a retirement finds no spare: the old content
stays (R408, R409). -/
def Nvm.eraseBlock (bad : Bool) (b : Nat) (n : Nvm) : Option Nvm :=
  let c := Sparse.get (fun _ => 0) n.erases b
  if 10000 ≤ c || bad then (n.takeSpare b).map (Nvm.blank b)
  else some { n.blank b with erases := Sparse.set (fun _ => 0) n.erases b (c + 1) }

/-- Program page p; `bad`: its verify fails, so that the block moves to a spare first (R408). -/
def Nvm.programPage (bad : Bool) (p : Nat) (bs : Bytes) (n : Nvm) : Option Nvm :=
  (if bad then n.takeSpare (p / 256) else some n).map fun n => { n with pages := Sparse.set blankPage n.pages p (padTo 256 bs) }

/-- Erase blocks in order; false when one found no spare. -/
def Nvm.eraseAll (bad : NvmBad) : List Nat → Nvm → Nvm × Bool
  | [], n => (n, true)
  | b :: bs, n =>
    match n.eraseBlock (bad.blocks.contains b) b with
    | some n => Nvm.eraseAll bad bs n
    | none => ({ n with readOnly := true }, false)

/-- What a page holds after a program that found no spare: not known; the n-th such page. -/
def tornPage (n : Nat) : Bytes := (List.range 256).map (Config.tornByte n)

/-- Program pages in order; false when one found no spare, which leaves that page partly programmed (R409). `torn`: the
index of the free value that page takes. -/
def Nvm.programAll (bad : NvmBad) (torn : Nat) : List (Nat × Bytes) → Nvm → Nvm × Bool
  | [], n => (n, true)
  | p :: ps, n =>
    match n.programPage (bad.pages.contains p.1) p.1 p.2 with
    | some n => Nvm.programAll bad torn ps n
    | none => ({ n with readOnly := true, pages := Sparse.set blankPage n.pages p.1 (tornPage torn) }, false)

/-- A byte string as pages from page p on. -/
def asPages (p : Nat) (bs : Bytes) : List (Nat × Bytes) :=
  (records 256 (ceilDiv bs.length 256) bs).zipIdx.map fun x => (p + x.2, x.1)

end Sys2Proof.Machine
end

