-- ==== Sys2Proof/Machine/NvmCmds.lean ====
section
/-!
DEFINITION. NVM_CMD (R404 to R409) and the EPD commands of the resident loader (R410 to R418, R428, R429).
-/
namespace Sys2Proof.Machine

/-! ### NVM_CMD -/

/-- The store after an operation of the cells, with what NVM_STATUS shows of it (R408, R409). -/
def State.setNvm (r : Nvm × Bool) (s : State) : State :=
  let old := s.nvm
  let s := { s with nvm := r.1 }
  let s := if old.retired < r.1.retired then s.see F.NVM_STATUS_RETIRE_SEEN else s
  if r.2 then s else s.see F.NVM_STATUS_READ_ONLY_SEEN

/-- Program pages of the store; a free value stands by for a page that is left partly programmed (R409). -/
def State.nvmProgram (bad : NvmBad) (ps : List (Nat × Bytes)) (s : State) : Bool × State :=
  let r := s.nvm.programAll bad s.free ps
  (r.2, { s.setNvm r with free := s.free + 1 })

/-- Erase blocks of the store. -/
def State.nvmErase (bad : NvmBad) (bs : List Nat) (s : State) : Bool × State :=
  let r := s.nvm.eraseAll bad bs
  (r.2, s.setNvm r)

/-- An NVM command ends. -/
def State.nvmEnd (status : Nat) (s : State) : State :=
  let s := (s.setFld F.NVM_RESULT_STATUS status).setFld F.NVM_RESULT_BUSY 0
  { s with nvm := { s.nvm with op := none } }

/-- The area of Table 16.2 that a host command may reach and that holds an address: its end. READ reaches the firmware image
and the user area, PROGRAM and ERASE the user area. -/
def nvmArea (read : Bool) (addr : Nat) : Option Nat :=
  if 352 * 65536 ≤ addr && addr < 992 * 65536 then some (992 * 65536)
  else if read && 16 * 65536 ≤ addr && addr < 272 * 65536 then some (272 * 65536)
  else none

/-- Points 1 and 2 of R405: the range begins in an area the command may reach and does not end beyond it. -/
def State.nvmRange (read : Bool) (s : State) : Nat × State :=
  let a := s.fld F.NVM_ADDR_ADDR
  match nvmArea read a with
  | none => (0x15, s)
  | some e => if e < a + s.rd R.NVM_LEN then (0x10, s.wr R.NVM_FAULT_ADDR e) else (0, s)

/-- A command of NVM_CMD: discarded while one runs; the checks of R405 in their order, then it runs. `dma`: the direction of
its host transfer; `form`: point 5; `last`: point 6. -/
def State.nvmCmd (op win : Nat) (dma : Option Bool) (form : Nat → Nat → Bool) (last : State → Nat) (s : State) : State :=
  if s.flag F.NVM_RESULT_BUSY then s
  else if s.lockdown && op ≠ 1 then s.nvmEnd 0x30
  else
    let a := s.fld F.NVM_ADDR_ADDR
    let n := s.rd R.NVM_LEN
    let host := s.rd64 R.NVM_HOST_LO R.NVM_HOST_HI
    let r := s.nvmRange (op == 1)
    if r.1 ≠ 0 then r.2.nvmEnd r.1
    else
      let d := match dma with
        | some w => s.dmaCheck win 0 w host n
        | none => (0, s)
      if d.1 ≠ 0 then d.2.nvmEnd d.1
      else if op ≠ 1 && s.nvm.readOnly then s.nvmEnd 0x18
      else if !form a n then s.nvmEnd 0x15
      else if last s ≠ 0 then s.nvmEnd (last s)
      else
        let s := (s.setFld F.NVM_RESULT_STATUS 0).setFld F.NVM_RESULT_BUSY 1
        { s with nvm := { s.nvm with op := some { op := op, addr := a, len := n, win := win, host := host } } }

/-- NVM_READ. -/
def doNvmRead (win : Nat) : State → State :=
  State.nvmCmd 1 win (some true) (fun a n => a % 4 == 0 && n % 4 == 0 && n ≤ 2 ^ 20) (fun _ => 0)

/-- NVM_PROGRAM: NOT_BLANK when the range holds a byte other than 0xFF (R405, R406). -/
def doNvmProgram (win : Nat) : State → State :=
  State.nvmCmd 2 win (some false) (fun a n => a % 256 == 0 && n % 256 == 0 && n ≤ 65536)
    (fun s => if (s.nvm.read (s.fld F.NVM_ADDR_ADDR) (s.rd R.NVM_LEN)).all (· == 0xFF) then 0 else 0x11)

/-- NVM_ERASE. -/
def doNvmErase : State → State := State.nvmCmd 3 0 none (fun a n => a % 65536 == 0 && n % 65536 == 0) (fun _ => 0)

/-- NVM_OP_DONE: the operation and its verify (R407 to R409). `data`: what the host transfer of a PROGRAM brought, and for a
READ only whether its writes ended well; `bad`: what fails its verify. -/
def doNvmOpDone (data : DmaIn) (bad : NvmBad) (s : State) : State :=
  match s.nvm.op with
  | none => s
  | some o =>
    if o.op = 3 then
      let r := s.nvmErase bad ((List.range (o.len / 65536)).map (o.addr / 65536 + ·))
      r.2.nvmEnd (if r.1 then 0 else 0x18)
    else match data with
      | .error => s.dmaErr.nvmEnd 0x15
      | .ok bs =>
        if !s.winPermits o.win 0 (o.op == 1) then s.nvmEnd 0x15
        else if o.op = 1 then (s.dmaWrite o.win o.host (s.nvm.read o.addr o.len)).nvmEnd 0
        else
          let r := s.nvmProgram bad (asPages (o.addr / 256) (padTo o.len bs))
          r.2.nvmEnd (if r.1 then 0 else 0x18)

/-! ### The update journal (R415) -/

/-- The journal is written: the older copy is replaced by a record with the next sequence number. -/
def State.journal (phase : Nat) (digest : Bytes) (cursor : Nat) (s : State) : State :=
  { s with epd := { s.epd with
    older := s.epd.journal
    journal := { seq := s.epd.journal.seq + 1, phase := phase, digest := digest, cursor := cursor } } }

/-- PHASE changes, in the register and in the journal. -/
def State.epdPhase (phase : Nat) (s : State) : State :=
  (s.setFld F.EPD_STATE_PHASE phase).journal phase s.epd.journal.digest s.epd.journal.cursor

/-- An EPD command ends. -/
def State.epdEnd (status detail : Nat) (s : State) : State :=
  let s := ((s.setFld F.EPD_RESULT_STATUS status).setFld F.EPD_RESULT_BUSY 0).setFld F.EPD_RESULT_DETAIL detail
  { s with epd := { s.epd with op := none } }

/-- A command of EPD_CMD: discarded while one runs, refused in lockdown (R449), in limp mode when R425 does not let it work,
and when it writes a store that is read-only (R409). -/
def State.epdCmd (inLimp writes : Bool) (f : State → State) (s : State) : State :=
  if s.flag F.EPD_RESULT_BUSY then s
  else if s.lockdown then s.epdEnd 0x30 0xFFFF
  else if s.limp && !inLimp then s.epdEnd 0x32 0xFFFF
  else if writes && s.nvm.readOnly then s.epdEnd 0x18 0xFFFF
  else f s

/-! ### CHECK, WRITE, RESUME (R411 to R414) -/

/-- EPD_SRC. -/
def State.epdSrc (s : State) : Nat := s.rd64 R.EPD_SRC_LO R.EPD_SRC_HI

/-- Chunk 0 is read from the host and checked: its bytes, or the status of the first failure (R411, R464, R465). -/
def State.chunk0 (win : Nat) (data : DmaIn) (s : State) : Except Nat Bytes × State :=
  let r := s.dmaCheck win 0 false s.epdSrc 65536
  if r.1 ≠ 0 then (.error r.1, r.2)
  else match data with
    | .error => (.error 0x15, r.2.dmaErr)
    | .ok bs =>
      let c := padTo 65536 bs
      let st := fwCheck s.epd.fuses s.epd.conf c
      (if st = 0 then .ok c else .error st, r.2)

/-- EPD_CHECK: the manifest checks alone. `data`: chunk 0. -/
def doEpdCheck (win : Nat) (data : DmaIn) : State → State := State.epdCmd true false fun s =>
  let r := s.chunk0 win data
  match r.1 with
  | .error st => r.2.epdEnd st 0xFFFF
  | .ok _ => r.2.epdEnd 0 0xFFFF

/-- PHASE lets WRITE and RESUME run (R414). -/
def State.epdWritable (s : State) : Bool := s.fld F.EPD_STATE_PHASE ≤ 3

/-- The loop of R412 runs from the journal's cursor. -/
def State.epdRun (win : Nat) (c : Bytes) (s : State) : State :=
  let s := ((s.setFld F.EPD_RESULT_STATUS 0).setFld F.EPD_RESULT_BUSY 1).setFld F.EPD_RESULT_DETAIL 0xFFFF
  { s with epd := { s.epd with op := some (.write win s.epdSrc c) } }

/-- A write stops: the phase is SUSPENDED, DETAIL names the chunk (R412). -/
def State.epdStop (status chunk : Nat) (s : State) : State := (s.epdPhase 2).epdEnd status chunk

/-- EPD_WRITE: the manifest is checked, the journal opened and block 16 erased (R411, R412, R414). `data`: chunk 0. -/
def doEpdWrite (win : Nat) (data : DmaIn) (bad : NvmBad) : State → State := State.epdCmd true true fun s =>
  if !s.epdWritable then s.epdEnd 0x15 0xFFFF
  else
    let r := s.chunk0 win data
    match r.1 with
    | .error st => r.2.epdEnd st 0xFFFF
    | .ok c =>
      let s := (r.2.setFld F.EPD_STATE_PHASE 1).journal 1 (fwDigest c) 1
      let e := s.nvmErase bad [16]
      if e.1 then e.2.epdRun win c else e.2.epdStop 0x18 0

/-- EPD_RESUME: a suspended write goes on when the manifest is the journal's (R413). `data`: chunk 0. -/
def doEpdResume (win : Nat) (data : DmaIn) : State → State := State.epdCmd true true fun s =>
  if s.fld F.EPD_STATE_PHASE ≠ 1 && s.fld F.EPD_STATE_PHASE ≠ 2 then s.epdEnd 0x15 0xFFFF
  else
    let r := s.chunk0 win data
    match r.1 with
    | .error st => r.2.epdEnd st 0xFFFF
    | .ok c =>
      if fwDigest c ≠ s.epd.journal.digest then r.2.epdEnd 0x15 0xFFFF
      else (r.2.epdPhase 1).epdRun win c

/-- The last step of R412: chunk 0 goes into block 16. -/
def State.epdFinish (c0 : Bytes) (bad : NvmBad) (s : State) : State :=
  let r := s.nvmProgram bad (asPages (16 * 256) c0)
  if r.1 then (r.2.epdPhase 3).epdEnd 0 0xFFFF else r.2.epdStop 0x18 0

/-- One body chunk, the one at the journal's cursor: read, compared, its block erased, programmed (R412). False when the
write has stopped. -/
def State.epdChunk (win src : Nat) (c0 : Bytes) (data : DmaIn) (bad : NvmBad) (s : State) : Bool × State :=
  let c := s.epd.journal.cursor
  let r := s.dmaCheck win 0 false (src + 65536 * c) 65536
  if r.1 ≠ 0 then (false, r.2.epdStop r.1 c)
  else match data with
    | .error => (false, r.2.dmaErr.epdStop 0x15 c)
    | .ok bs =>
      let b := padTo 65536 bs
      if sha384 b ≠ chunkDigest c0 c then (false, r.2.epdStop 0x16 c)
      else
        let e := r.2.nvmErase bad [16 + c]
        if !e.1 then (false, e.2.epdStop 0x18 c)
        else
          let p := e.2.nvmProgram bad (asPages (256 * (16 + c)) b)
          if p.1 then (true, p.2.journal 1 p.2.epd.journal.digest (c + 1)) else (false, p.2.epdStop 0x18 c)

/-- Body chunks in order, then the end when the last is written. -/
def State.epdChunks (win src : Nat) (c0 : Bytes) (bad : NvmBad) : List DmaIn → State → State
  | [], s => if fwChunks c0 ≤ s.epd.journal.cursor then s.epdFinish c0 bad else s
  | d :: ds, s =>
    if fwChunks c0 ≤ s.epd.journal.cursor then s.epdFinish c0 bad
    else
      let r := s.epdChunk win src c0 d bad
      if r.1 then State.epdChunks win src c0 bad ds r.2 else r.2

/-- EPD_WRITE_DONE: the body chunks read from the host since the last report, from the cursor on; with the last of them the
write ends in WRITTEN, a chunk that fails stops it (R412). -/
def doEpdWriteDone (chunks : List DmaIn) (bad : NvmBad) (s : State) : State :=
  match s.epd.op with
  | some (.write win src c0) => s.epdChunks win src c0 bad chunks
  | none => s

/-! ### ARM, preload, DISARM (R418) -/

/-- Chunk 0 of the image in the store, none when block 16 holds no manifest. -/
def Nvm.chunk0 (n : Nvm) : Option Bytes :=
  let c := n.block 16
  if slice 0 8 c == ascii "ZV64FWIM" then some c else none

/-- EPD_ARM: the preload of the new code starts. -/
def doEpdArm : State → State := State.epdCmd false true fun s =>
  match s.nvm.chunk0 with
  | some c =>
    if s.fld F.EPD_STATE_PHASE = 3 && !s.flag F.EPD_STATE_UNCONFIRMED && steppingListed (fieldAt 0x14 1 c) then
      (s.epdPhase 4).epdEnd 0 0xFFFF
    else s.epdEnd 0x15 0xFFFF
  | none => s.epdEnd 0x15 0xFFFF

/-- The chunks that a code range takes part in. -/
def codeChunks (off len : Nat) : List Nat := (List.range (ceilDiv len 65536)).map (off / 65536 + ·)

/-- Every chunk of the code agrees with its digest. -/
def Nvm.codeOk (n : Nvm) (c0 : Bytes) : Bool :=
  (codeChunks (fieldAt 0x24 4 c0) (fieldAt 0x28 4 c0) ++ codeChunks (fieldAt 0x2C 4 c0) (fieldAt 0x30 4 c0)).all fun c =>
    sha384 (n.block (16 + c)) == chunkDigest c0 c

/-- The tag in the Quire Supervisor code of the image in the store. -/
def Nvm.qsvTag (n : Nvm) (c0 : Bytes) : Nat := fieldAt 0 4 (n.read (16 * 65536 + fieldAt 0x2C 4 c0) 4)

/-- The image in the store. -/
def Nvm.image (n : Nvm) : FwImage :=
  match n.chunk0 with
  | some c => fwImage c (n.qsvTag c)
  | none => .none

/-- The idle code bank takes an image. -/
def State.setIdleBank (i : FwImage) (s : State) : State :=
  if s.flag F.EPD_STATE_BANK then { s with epd := { s.epd with bank0 := i } } else { s with epd := { s.epd with bank1 := i } }

/-- EPD_PRELOAD_DONE: READY, or back to WRITTEN with AUDIT_FAIL when a chunk does not agree with its digest. `upset`: a chunk
was read wrong. -/
def doEpdPreloadDone (upset : Bool) (s : State) : State :=
  if s.fld F.EPD_STATE_PHASE ≠ 4 then s
  else match s.nvm.chunk0 with
    | some c =>
      if upset || !s.nvm.codeOk c then (s.epdPhase 3).setFld F.EPD_RESULT_STATUS 0x17
      else (s.setIdleBank s.nvm.image).epdPhase 5
    | none => (s.epdPhase 3).setFld F.EPD_RESULT_STATUS 0x17

/-- EPD_DISARM: PRELOADING and READY go back to WRITTEN. -/
def doEpdDisarm : State → State := State.epdCmd false false fun s =>
  if s.fld F.EPD_STATE_PHASE = 4 || s.fld F.EPD_STATE_PHASE = 5 then (s.epdPhase 3).epdEnd 0 0xFFFF else s.epdEnd 0x15 0xFFFF

/-! ### Settings (R428, R429) -/

/-- The settings format written: the running image's, in limp mode the confirmed one. -/
def State.setFormat (s : State) : Nat := if s.limp then s.epd.confFormat else s.runImage.settingsFormat

/-- The 240 bytes of EPD_SET_DATA. -/
def State.setData (s : State) : Bytes := (List.range 60).flatMap fun k => le 4 (s.rd (R.EPD_SET_DATA k))

/-- A settings record takes the place of the older one of its key and format. -/
def putSetting (r : SetRec) (l : List SetRec) : List SetRec := l.filter (fun x => x.key != r.key || x.format != r.format) ++ [r]

/-- EPD_SET of a user key, in two formats while the image is UNCONFIRMED. -/
def doEpdSet (key : Nat) : State → State := State.epdCmd true true fun s =>
  if 0x8000 ≤ key then s.epdEnd 0x15 0xFFFF
  else
    let r (f : Nat) : SetRec :=
      { key := key, format := f, seq := s.epd.setSeq + 1, len := s.fld F.EPD_SET_LEN_LEN, data := s.setData }
    let l := putSetting (r s.setFormat) s.epd.settings
    let l := if s.flag F.EPD_STATE_DUAL then putSetting (r s.epd.confFormat) l else l
    State.epdEnd 0 0xFFFF { s with epd := { s.epd with settings := l, setSeq := s.epd.setSeq + 1 } }

/-- The current record of a user key: the one with the highest SEQ. -/
def Epd.setting (e : Epd) (key : Nat) : Option SetRec :=
  minBy (fun a b => b.seq < a.seq) (e.settings.filter fun r => r.key == key)

/-- EPD_GET of a user key: its data and LEN, or LEN 0 when none is stored. -/
def doEpdGet (key : Nat) : State → State := State.epdCmd true false fun s =>
  if 0x8000 ≤ key then s.epdEnd 0x15 0xFFFF
  else match s.epd.setting key with
    | none => (s.setFld F.EPD_SET_LEN_LEN 0).epdEnd 0 0xFFFF
    | some r =>
      let s := (List.range 60).foldl (fun s k => s.wr (R.EPD_SET_DATA k) (wordOfBytes k r.data)) s
      (s.setFld F.EPD_SET_LEN_LEN r.len).epdEnd 0 0xFFFF

end Sys2Proof.Machine
end

