-- ==== Sys2Proof/Machine/GatherCmds.lean ====
section
/-!
DEFINITION. The Deckle block's own commands (chapter 2): the reference clock, the margin governor, the gathering boundary
from BEGIN to the switch, and the firmware handover that runs in its open window (R419 to R422).
-/
namespace Sys2Proof.Machine

/-! ### The reference clock (R36) -/

/-- REF_CLOCK_LOST: the internal oscillator takes over and admission stops. -/
def doRefClockLost (s : State) : State :=
  let s := (s.setFld F.DKL_STATUS_REF_LOST 1).see F.DKL_STATUS_REF_LOST_SEEN
  { s with dkl := { s.dkl with refStop := true } }

/-- REF_CLOCK_RELOCK: lock returns; the timebase does not jump. -/
def doRefClockRelock (s : State) : State := s.setFld F.DKL_STATUS_REF_LOST 0

/-- REF_LOST_SEEN_CLEAR: after lock has returned, admission starts again. -/
def doRefLostSeenClear (s : State) : State :=
  let s := s.setFld F.DKL_STATUS_REF_LOST_SEEN 0
  if s.flag F.DKL_STATUS_REF_LOST then s else { s with dkl := { s.dkl with refStop := false } }

/-! ### The margin governor (R49 to R51) -/

/-- The rows of Table 2.2. -/
inductive MarginRow where
  | lower | held | raise | raiseLow | throttle | halt
  deriving DecidableEq, Repr

/-- The row of an evaluation: the lowest whose condition holds. `m`: the margin in 0.1 %; `full`: 1 ms above 20 % is
complete; `top`: the rail can rise no further. -/
def marginRow (m : Int) (full top : Bool) : MarginRow :=
  if m < 0 then .halt
  else if m < 50 then if top then .throttle else .raiseLow
  else if m < 150 then .raise
  else if 200 < m && full then .lower
  else .held

/-- The setpoint after an evaluation: outside the limits one step toward them, else as the row says, in steps of 5 mV. -/
def railAfter (mn mx set : Nat) (r : MarginRow) : Nat :=
  if set < mn then set + 5
  else if mx < set then set - 5
  else match r with
    | .lower => if mn + 5 ≤ set then set - 5 else set
    | .held | .throttle => set
    | .raise | .raiseLow | .halt => if set + 5 ≤ mx then set + 5 else set

/-- THROTTLE and HALT after an evaluation (R51). -/
def State.marginStatus (m : Int) (r : MarginRow) (s : State) : State :=
  let halt := s.flag F.DKL_STATUS_HALT
  let thr := s.flag F.DKL_STATUS_THROTTLE
  let halt' := r == .halt || (halt && m < 50)
  let thr' := !halt' && (r == .throttle || (thr && m < 100))
  let s := (s.setFld F.DKL_STATUS_HALT (b2n halt')).setFld F.DKL_STATUS_THROTTLE (b2n thr')
  let s := if halt' && !halt then s.see F.DKL_STATUS_HALT_SEEN else s
  if thr' && !thr then s.see F.DKL_STATUS_THROTTLE_SEEN else s

/-- MARGIN_EVAL: the governor's evaluation, every 10 µs; `m`: the smallest margin in 0.1 %, `domain`: where it is (R49 to
R51); VID follows the setpoint (R487). -/
def doMarginEval (m : Int) (domain : Nat) (s : State) : State :=
  let due := match s.dkl.lastEval with
    | some t => decide (t + 10000 ≤ s.now)
    | none => true
  if !due then s
  else
    let mn := s.fld F.DKL_RAIL_LIMIT_MIN_MV
    let mx := s.fld F.DKL_RAIL_LIMIT_MAX_MV
    let set := s.fld F.DKL_RAIL_SETPOINT_MV
    let since := s.dkl.above20.getD s.now
    let r := marginRow m (decide (since + 1000000 ≤ s.now)) (decide (mx < set + 5))
    let new := railAfter mn mx set r
    let above := if m ≤ 200 then none else if new < set then some s.now else some since
    let s := { s with dkl := { s.dkl with lastEval := some s.now, above20 := above }, pins := { s.pins with vid := (new - 600) / 5 } }
    let s := (s.setFld F.DKL_RAIL_SETPOINT_MV new).setFld F.DKL_RAIL_AT_MAX (b2n (new == mx))
    let s := (s.setFld F.DKL_MARGIN_MARGIN (ofInt 16 m)).setFld F.DKL_MARGIN_DOMAIN domain
    s.marginStatus m r

/-! ### BEGIN and the drain (R60 to R62) -/

/-- The last ID is in use (R61). -/
def State.exhausted (s : State) : Bool := s.fld F.DKL_GATHER_ID_ID == 0xFFFFFFFF

/-- The gathering state changes. -/
def State.setGather (g : GState) (s : State) : State := { s with dkl := { s.dkl with gather := g } }

/-- GATHER_BEGIN: in SEALED the drain starts in the next tick, or 10 ms after the last seal (R60). -/
def doGatherBegin (s : State) : State :=
  if s.lockdown || s.dkl.gather ≠ .sealed || s.dkl.beginAt.isSome || s.exhausted then s
  else
    let next := (s.dkl.lastSeal.getD 0) + 10000000
    if s.tick < next then { s with dkl := { s.dkl with gather := .pending, beginAt := some next } }
    else { s with dkl := { s.dkl with beginAt := some (s.tick + 10) } }

/-- DRAIN_START: at T_b admission stops and running AMA commands suspend (R62, R184). -/
def doDrainStart (s : State) : State :=
  match s.dkl.beginAt with
  | some t =>
    if (s.dkl.gather = .sealed || s.dkl.gather = .pending) && t ≤ s.tick then (s.setGather .draining).suspendUpds else s
  | none => s

/-- The open window begins: LK fields become writable, with what they were at hand for a revert (R62, R63); a firmware
handover starts in phase READY (R419). -/
def State.openWindow (s : State) : State :=
  let s := { s with dkl := { s.dkl with gather := .openW, openFrom := s.tick, noLimit := false, beginAt := none, saved := s.regs } }
  let s := s.see F.HIF_EVENT_GATHER_OPEN
  if s.fld F.EPD_STATE_PHASE = 5 then State.epdPhase 6 { s with epd := { s.epd with handover := some s.now } } else s

/-- QUIESCENCE_DONE: after T_d, once every item inside the gate has released; work with the old tag is dropped (R62, R65). -/
def doQuiescenceDone (s : State) : State :=
  if s.dkl.gather = .draining && s.drainEnd ≤ s.tick && s.adm.live.all (fun i => i.phase != .admitted) then
    State.openWindow { s with eng := { s.eng with samples := [], waitRows := [] } }
  else s

/-! ### The switch (R63, R64, R377, R378) -/

/-- Step 1 of Table 2.5: LK fields lock; a LOAD that runs stops (R378). -/
def State.beginSeal (timer : Bool) (at_ : Nat) (s : State) : State :=
  let s := s.stopLoad
  { s with dkl := { s.dkl with gather := .sealing, sealTimer := timer, sealAt := at_ } }

/-- A seal begins, or waits for the handover's end (R419). -/
def State.askSeal (timer : Bool) (s : State) : State :=
  if s.epd.handover.isSome then
    if s.epd.sealWait.isSome then s else { s with epd := { s.epd with sealWait := some timer } }
  else s.beginSeal timer s.tick

/-- GATHER_SEAL: SEAL has effect only in OPEN, and not without an ID to take (R60, R61). -/
def doGatherSeal (s : State) : State :=
  if s.lockdown || s.dkl.gather ≠ .openW || s.exhausted then s else s.askSeal false

/-- The open window has a limit and has reached it (R63, R64). -/
def State.limitReached (s : State) : Bool :=
  s.dkl.gather == .openW && !s.dkl.noLimit && !s.exhausted && s.dkl.openFrom + 1000 * s.fld F.DKL_OPEN_LIMIT_LIMIT_US ≤ s.now

/-- OPEN_LIMIT_EXPIRY: a timer seal begins. -/
def doOpenLimitExpiry (s : State) : State := if s.limitReached then s.askSeal true else s

/-- OPEN_LIMIT_WRITE: the limit of the present window changes at once; one that has passed leads to the timer seal in the
next tick (R63). -/
def doOpenLimitWrite (v : Nat) (s : State) : State :=
  let x := bitsOf 15 0 v
  if 10 ≤ x && x ≤ 50000 then s.setFld F.DKL_OPEN_LIMIT_LIMIT_US x else s

/-- The bits of the LK fields of the register at an offset. -/
def lkMask (off : Nat) : Nat :=
  match regAt off with
  | some r => r.fields.foldl (fun m f => if f.acc = .lk then setBitsOf f.hi f.lo (2 ^ (f.hi + 1 - f.lo) - 1) m else m) 0
  | none => 0

/-- Every LK field takes its value in `old` (Table 2.5 step 3). -/
def State.revertLk (old : RegFile) (s : State) : State :=
  (s.regs.map (·.1) ++ old.map (·.1)).foldl (fun s off =>
    let k := lkMask off
    if k = 0 then s else s.wr off ((s.rd off &&& (k ^^^ (2 ^ 32 - 1))) ||| (old.rd off &&& k))) s

/-- The binding that a seal would put in force. -/
def State.sealBinding (s : State) : Option Binding := (s.bnd.loaded.map (·.binding)).orElse fun _ => s.bnd.cur

/-- The checks of a seal (R44, R355, R375, R377, R425). -/
def State.sealOk (s : State) : Bool :=
  !s.limp && !s.bnd.stale && !s.bnd.loadFailed &&
  match s.sealBinding with
  | some b =>
    b.manifest.abiOk s.runImage.bindingAbi && b.manifest.provenIn ≤ s.fld F.DKL_DELAY_IN_DELAY &&
      b.manifest.provenOut ≤ s.fld F.DKL_DELAY_OUT_DELAY
  | none => false

/-- What LOAD loaded is in force (R371, R377); the copies of rewritten banks are discarded, and a command suspended in one ends
(R374). Quires marked RESTORE_NEEDED are restored (R379). -/
def State.adopt (s : State) : State :=
  let again := s.bnd.quireOut
  let s := match s.bnd.loaded with
    | some l =>
      let s := s.resumeUpds (List.range 8) (s.ama.saves.map AmaSave.bank)
      { s with
        ama := { s.ama with saves := [] }
        bnd := { s.bnd with
          cur := some l.binding, mset := l.mset, msetDigest := l.msetDigest, msetId := fieldAt 0 4 l.msetDigest
          staged := if l.fromStage then none else s.bnd.staged } }
    | none => s.resumeUpds (List.range 8) []
  let s := { s with bnd := { s.bnd with loaded := none, loadedVars := [], dirty := [], restoring := again } }
  s.showMset s.bnd.mset

/-- The previous configuration comes back, and what a LOAD has written is restored (Table 2.5 step 3, R378, R379). -/
def State.revert (s : State) : State :=
  let back := joinNat s.bnd.dirty s.bnd.quireOut
  let s := s.revertLk s.dkl.saved
  let s := { s with bnd := { s.bnd with
    loaded := none, loadedVars := [], stale := false, loadFailed := false, dirty := [], restoring := back } }
  let s := s.resumeUpds ((List.range 8).filter fun q => !back.contains q) []
  s.showMset s.bnd.mset

/-- A gathering begins: its ID, the fairness tags, the engine split and the cascade (R61, R110, R111, R154). -/
def State.newGathering (s : State) : State :=
  let id := s.fld F.DKL_GATHER_ID_ID + 1
  let s := s.setFld F.DKL_GATHER_ID_ID id
  let s := if id = 0xFFFFFFFF then s.setFld F.DKL_GATHER_STATUS_EXHAUSTED 1 else s
  let s := { s with
    dkl := { s.dkl with gather := .sealed, lastSeal := some s.tick, beginAt := none, noLimit := false }
    adm := { s.adm with
      vIn := 0, vOut := 0, tagsIn := [], tagsOut := [], nOut := List.replicate 8 (s.fld F.ADM_BAL_LIMIT_INIT), fence := none } }
  s.cascSeal

/-- The GATHERING Colophon (R331), with V and D of the gathering that closed; D returns to zero (R171). -/
def State.gatherCol (prev result : Nat) (reverted timer : Bool) (s : State) : State :=
  let m := s.bnd.cur.map (·.manifest)
  let s := s.colophon s.tick rankGather 0 result 0 (s.fld F.DKL_GATHER_ID_ID) 0 0
    (.gathering prev result (b2n reverted + 2 * b2n timer) (s.fld F.DKL_DELAY_IN_DELAY) (s.fld F.DKL_DELAY_OUT_DELAY)
      ((m.map (·.provenIn)).getD 0) ((m.map (·.provenOut)).getD 0) s.bnd.msetId s.runImage.version
      (slice 0 16 ((s.bnd.cur.map (·.digest)).getD [])) s.ama.ver s.ama.digest)
  { s with ama := { s.ama with digest := zeros 48 } }

/-- RESULT, REVERTED and TIMER (R63). -/
def State.sealResult (result : Nat) (reverted timer : Bool) (s : State) : State :=
  ((s.setFld F.DKL_GATHER_STATUS_RESULT result).setFld F.DKL_GATHER_STATUS_REVERTED (b2n reverted)).setFld F.DKL_GATHER_STATUS_TIMER
    (b2n timer)

/-- A restore that begins is counted (R378). -/
def State.countRestore (s : State) : State := if s.bnd.restoring.isEmpty then s else s.inc R.SHL_BIND_RESTORE_COUNT

/-- GATHER_SWITCH_DONE: steps 2 to 5 of Table 2.5. A failed seal of the window after a cold reset leaves it open (R64). -/
def doGatherSwitchDone (s : State) : State :=
  if s.dkl.gather ≠ .sealing then s
  else
    let timer := s.dkl.sealTimer
    let ok := !timer && s.sealOk
    if !ok && s.dkl.noLimit then (s.setGather .openW).sealResult 0x13 false false
    else
      let prev := s.fld F.DKL_GATHER_ID_ID
      let result := if ok || timer then 0 else 0x13
      let s := if ok then s.adopt else s.revert
      let s := ((s.sealResult result (!ok) timer).countRestore).newGathering
      (s.gatherCol prev result (!ok) timer).see F.HIF_EVENT_GATHER_SEALED

/-! ### The handover (R419 to R422) -/

/-- A seal that waited begins in the tick after the handover's end (R419). -/
def State.endHandover (s : State) : State :=
  let w := s.epd.sealWait
  let s := { s with epd := { s.epd with handover := none, sealWait := none } }
  match w with
  | some timer => s.beginSeal timer (s.tick + 10)
  | none => s

/-- The Supervisors are reloaded from the running bank: one whose code tag is not BUNDLE_TAG is held (R421). -/
def State.reloadQsvs (quires : Nat) (s : State) : State :=
  let i := s.runImage
  let held := s.fld F.EPD_STATE_QSV_HELD
  let keep := held &&& (quires ^^^ 0xFF)
  s.setFld F.EPD_STATE_QSV_HELD (keep ||| if i.qsvTag = i.bundleTag then 0 else quires)

/-- Steps 3 to 5 of Table 16.4: the banks switch and the new firmware runs. -/
def State.switchBanks (s : State) : State :=
  let s := s.setFld F.EPD_STATE_BANK (1 - s.fld F.EPD_STATE_BANK)
  let s := (s.reloadQsvs 0xFF).epdPhase 7
  let s := (s.setFld F.EPD_STATE_UNCONFIRMED 1).setFld F.EPD_STATE_DUAL 1
  ((s.wr R.EPD_RUN_VERSION s.runImage.version).see F.EPD_STATUS_HANDOVER_SEEN).see F.HIF_EVENT_HANDOVER_DONE

/-- HANDOVER_DONE: SWITCHED, or back to the old firmware when the new one does not accept the handover record (R419,
R420). -/
def doHandoverDone (recordOk : Bool) (s : State) : State :=
  if s.epd.handover.isNone then s
  else if recordOk then s.switchBanks.endHandover
  else ((s.epdPhase 3).setFld F.EPD_RESULT_STATUS 0x15).endHandover

end Sys2Proof.Machine
end

