-- ==== Sys2Proof/Machine/Aes.lean ====
section
/-!
DEFINITION. AES-256-GCM decryption (FIPS 197, SP 800-38D), with which the sealed key is read (R452).
-/
namespace Sys2Proof.Machine

/-- Multiplication by x in GF(2^8) of AES. -/
def aesX (b : Byte) : Byte := (b <<< 1) ^^^ if b.msb then 0x1B else 0

/-- Multiplication in GF(2^8), over n bits of the second factor. -/
def aesMul (a : Byte) : Nat → Nat → Byte
  | 0, _ => 0
  | n + 1, k => (if k % 2 = 1 then a else 0) ^^^ aesMul (aesX a) n (k / 2)

/-- The inverse in GF(2^8), 0 for 0: the 254th power. -/
def aesInv (a : Byte) : Byte :=
  let m (x y : Byte) : Byte := aesMul x 8 y.toNat
  let a2 := m a a
  let a4 := m a2 a2
  let a8 := m a4 a4
  let a16 := m a8 a8
  let a32 := m a16 a16
  let a64 := m a32 a32
  m (m (m a2 a4) (m a8 a16)) (m (m a32 a64) (m a64 a64))

/-- SubBytes of one byte. -/
def aesSub (a : Byte) : Byte :=
  let b := aesInv a
  b ^^^ b.rotateLeft 1 ^^^ b.rotateLeft 2 ^^^ b.rotateLeft 3 ^^^ b.rotateLeft 4 ^^^ 0x63

/-- The exclusive or of two byte strings of equal length. -/
def xorBytes (a b : Bytes) : Bytes := a.zipWith (· ^^^ ·) b

/-- The next words of the key schedule: `prev` holds the last eight, oldest first, `i` is the number of the next word, and
`rc` the round constant. -/
def aesExpand : Nat → Nat → Byte → List Bytes → List Bytes
  | 0, _, _, _ => []
  | n + 1, i, rc, prev =>
    let last := prev[7]?.getD []
    let t :=
      if i % 8 = 0 then xorBytes ((last.drop 1 ++ last.take 1).map aesSub) [rc, 0, 0, 0]
      else if i % 8 = 4 then last.map aesSub
      else last
    let w := xorBytes (prev[0]?.getD []) t
    w :: aesExpand n (i + 1) (if i % 8 = 0 then aesX rc else rc) (prev.drop 1 ++ [w])

/-- The 15 round keys of 16 bytes of a 32-byte key. -/
def aesKeys (key : Bytes) : List Bytes :=
  let ws := (List.range 8).map fun i => slice (4 * i) 4 key
  let all := ws ++ aesExpand 52 8 1 ws
  (List.range 15).map fun r => (all.drop (4 * r)).take 4 |>.flatten

/-- ShiftRows: byte r of column c comes from column c + r. -/
def aesShift (s : Bytes) : Bytes := (List.range 16).map fun i => s[(i + 4 * (i % 4)) % 16]?.getD 0

/-- MixColumns of one column. -/
def aesMixCol (col : Bytes) : Bytes :=
  (List.range 4).map fun r =>
    let b : Nat → Byte := fun k => col[(r + k) % 4]?.getD 0
    aesX (b 0) ^^^ aesX (b 1) ^^^ b 1 ^^^ b 2 ^^^ b 3

/-- MixColumns. -/
def aesMix (s : Bytes) : Bytes := (List.range 4).flatMap fun c => aesMixCol (slice (4 * c) 4 s)

/-- The rounds from the second round key on; the last has no MixColumns. -/
def aesRounds : List Bytes → Bytes → Bytes
  | [], s => s
  | [k], s => xorBytes (aesShift (s.map aesSub)) k
  | k :: ks, s => aesRounds ks (xorBytes (aesMix (aesShift (s.map aesSub))) k)

/-- One block of 16 bytes enciphered under round keys. -/
def aesBlock (keys : List Bytes) (b : Bytes) : Bytes :=
  match keys with
  | [] => b
  | k :: ks => aesRounds ks (xorBytes b k)

/-- Multiplication in GF(2^128) of GCM, bit 0 of a block being its most significant one: over n bits of x from the top. -/
def gcmMul (x : BitVec 128) : Nat → BitVec 128 → BitVec 128
  | 0, _ => 0
  | n + 1, v =>
    let v' := (v >>> 1) ^^^ if v.getLsbD 0 then 0xE1000000000000000000000000000000#128 else 0
    (if x.getLsbD n then v else 0) ^^^ gcmMul x n v'

/-- A 16-byte block as a number, the first byte highest. -/
def gcmBlock (b : Bytes) : BitVec 128 := BitVec.ofNat 128 (unbe (padTo 16 b))

/-- GHASH over blocks. -/
def ghash (h : BitVec 128) (blocks : List (BitVec 128)) : BitVec 128 := blocks.foldl (fun y b => gcmMul (y ^^^ b) 128 h) 0

/-- The blocks of a byte string, the last padded with zeros. -/
def gcmBlocks (bs : Bytes) : List (BitVec 128) := (List.range (ceilDiv bs.length 16)).map fun i => gcmBlock (slice (16 * i) 16 bs)

/-- The counter block of a 12-byte nonce. -/
def gcmCounter (nonce : Bytes) (n : Nat) : Bytes := nonce ++ be 4 n

/-- The cipher stream applied to a text. -/
def gcmCrypt (keys : List Bytes) (nonce text : Bytes) : Bytes :=
  xorBytes text ((List.range (ceilDiv text.length 16)).flatMap fun i => aesBlock keys (gcmCounter nonce (i + 2)))

/-- The tag over the additional data and the ciphertext. -/
def gcmTag (keys : List Bytes) (nonce aad cipher : Bytes) : Bytes :=
  let h := gcmBlock (aesBlock keys (zeros 16))
  let lens := gcmBlock (be 8 (8 * aad.length) ++ be 8 (8 * cipher.length))
  let y := ghash h (gcmBlocks aad ++ gcmBlocks cipher ++ [lens])
  xorBytes (be 16 y.toNat) (aesBlock keys (gcmCounter nonce 1))

/-- AES-256-GCM decryption: the plaintext, or none when the tag fails. -/
def gcmOpen (key nonce aad cipher tag : Bytes) : Option Bytes :=
  let keys := aesKeys key
  if gcmTag keys nonce aad cipher = tag then some (gcmCrypt keys nonce cipher) else none

/-- AES-256-GCM encryption: the ciphertext and its tag. -/
def gcmSeal (key nonce aad plain : Bytes) : Bytes × Bytes :=
  let keys := aesKeys key
  let c := gcmCrypt keys nonce plain
  (c, gcmTag keys nonce aad c)

end Sys2Proof.Machine
end

