-- ==== Sys2Proof/Machine/KeyStore.lean ====
section
/-!
DEFINITION. The sealed key in the non-volatile store (R451, R452): key records, their checks, the kill mark, a new record.
-/
namespace Sys2Proof.Machine

/-- Where the copy of the key record in block 344 or 345 begins. -/
def keyAt (block : Nat) : Nat := 65536 * block

/-- The copy is valid: MAGIC and CRC check (R451). -/
def keyCopyOk (r : Bytes) : Bool := slice 0 8 r == ascii "ZV64KEYS" && fieldAt 0x3FC 4 r == crc32 (slice 0 0x3FC r)

/-- The first 1,024 bytes of a copy. -/
def Nvm.keyCopy (n : Nvm) (block : Nat) : Bytes := n.read (keyAt block) 1024

/-- A copy whose KILL page holds any byte other than 0xFF is killed (R451). -/
def Nvm.keyKilled (n : Nvm) (block : Nat) : Bool := (n.read (keyAt block + 0x400) 256).any (· != 0xFF)

/-- The key record: the valid copy with the higher SEQ (R451). -/
def Nvm.keyRec (n : Nvm) : Option Bytes :=
  let a := n.keyCopy 344
  let b := n.keyCopy 345
  if keyCopyOk a && keyCopyOk b then some (if fieldAt 0xC 4 a < fieldAt 0xC 4 b then b else a)
  else if keyCopyOk a then some a
  else if keyCopyOk b then some b
  else none

/-- The unsealed key: the private scalar, PUB_X ‖ PUB_Y, KEY_EPOCH and the endorsement record. -/
structure SealKey where
  scalar : Nat
  pub : Bytes
  epoch : Nat
  endorse : Bytes
  deriving DecidableEq, Repr

/-- The private scalar gives the public key. -/
def scalarOk (d : Nat) (pub : Bytes) : Bool :=
  0 < d && d < p384n &&
    match ecMul (some (p384gx, p384gy)) 384 d with
    | some (x, y) => be 48 x ++ be 48 y == pub
    | none => false

/-- The endorsement key. -/
def endorseKey : Bytes := be 96 Config.endorsePub.toNat

/-- The endorsement record names this key and unit, and its signature verifies under the fused endorsement key (R452). -/
def endorseOk (rec pub : Bytes) : Bool :=
  slice 0x20 96 rec == pub && slice 8 16 rec == unitIdBytes &&
    ecdsaVerify endorseKey (slice 0 0x80 rec) (unbe (slice 0x80 48 rec)) (unbe (slice 0xB0 48 rec))

/-- The additional authenticated data: MAGIC ‖ UNIT_ID ‖ KEY_EPOCH (R452). -/
def keyAad (r : Bytes) : Bytes := slice 0 8 r ++ unitIdBytes ++ slice 8 4 r

/-- The checks of a key record after its validity and kill marks (R452); none stands for code 0x81. -/
def openKey (r : Bytes) : Option SealKey :=
  match gcmOpen (be 32 Config.keyEncKey.toNat) (slice 0x10 12 r) (keyAad r) (slice 0x20 48 r) (slice 0x50 16 r) with
  | none => none
  | some p =>
    let pub := slice 0x60 96 r
    let en := slice 0xC0 256 r
    if scalarOk (unbe p) pub && endorseOk en pub then
      some { scalar := unbe p, pub := pub, epoch := fieldAt 8 4 r, endorse := en }
    else none

/-- Step 9 of Table 17.3: the key, or its lockdown code (R452). -/
def Nvm.unseal (n : Nvm) : Except Nat SealKey :=
  match n.keyRec with
  | none => .error 0x82
  | some r =>
    if [344, 345].any (fun b => fieldAt 8 4 (n.keyCopy b) == fieldAt 8 4 r && n.keyKilled b) then .error 0x80
    else match openKey r with
      | none => .error 0x81
      | some k => .ok k

/-- The kill mark in every copy: the KILL page is programmed with zeros (R447, R451; the mark's bytes are DESIGN CHOICE). -/
def Nvm.kill (n : Nvm) : Nvm :=
  { n with pages := [344, 345].foldl (fun m b => Sparse.set blankPage m (256 * b + 4) (zeros 256)) n.pages }

/-- KEY_EPOCH of the next key pair: one above the record's, or 1 when none exists (R453). -/
def Nvm.nextEpoch (n : Nvm) : Nat := match n.keyRec with | some r => (fieldAt 8 4 r + 1) % 2 ^ 32 | none => 1

/-- SEQ of the next record: one above the record's. -/
def Nvm.nextKeySeq (n : Nvm) : Nat := match n.keyRec with | some r => (fieldAt 0xC 4 r + 1) % 2 ^ 32 | none => 1

/-- Bytes 0x00 to 0x7F of the endorsement record of a key. -/
def endorseReq (epoch : Nat) (pub : Bytes) : Bytes := ascii "ZV64ENDR" ++ unitIdBytes ++ le 4 epoch ++ zeros 4 ++ padTo 96 pub

/-- A key record with its scalar sealed under a nonce (Table 17.8). -/
def newKeyRec (seq : Nat) (nonce : Bytes) (k : SealKey) : Bytes :=
  let head := ascii "ZV64KEYS" ++ le 4 k.epoch ++ le 4 seq ++ padTo 12 nonce ++ zeros 4
  let e := gcmSeal (be 32 Config.keyEncKey.toNat) (padTo 12 nonce) (keyAad head) (be 48 k.scalar)
  let r := padTo 0x3FC (head ++ e.1 ++ e.2 ++ padTo 96 k.pub ++ padTo 256 k.endorse)
  r ++ le 4 (crc32 r)

end Sys2Proof.Machine
end

