-- ==== Sys2Proof/Machine/BootCmds.lean ====
section
/-!
DEFINITION. Resets and starts (chapter 17): what a cold, a warm and a quire reset keep and lose (R430 to R434), the cold start
of Table 17.3 (R435, R436), the audit of the firmware (R423, R424).
-/
namespace Sys2Proof.Machine

/-! ### Cold reset (R431, R432) -/

/-- What survives a cold reset of the loader: the journal, the confirmed version and format, fuses and settings. -/
def Epd.kept (e : Epd) : Epd :=
  { Epd.new with
    journal := e.journal, older := e.older, conf := e.conf, confFormat := e.confFormat, fuses := e.fuses, terminal := e.terminal,
    fuseRetry := e.fuseRetry, settings := e.settings, setSeq := e.setSeq }

/-- A cold reset with this cause of SHL_RESET_CAUSE: every part takes its reset state but the non-volatile store, the fuses, the
pins and what has already left the part; the timebase is held at 0. -/
def State.coldReset (cause : Nat) (s : State) : State :=
  State.setFld F.SHL_RESET_CAUSE_COLD cause
    { State.reset with
      pending := s.pending, free := s.free, nvm := { s.nvm with readOnly := false, op := none }, epd := s.epd.kept
      pins := { s.pins with vid := 30 }, out := s.out, dma := s.dma, reads := s.reads
      casc := { Casc.off with sent := s.casc.sent }
      hif := { Hif.cold with sent := s.hif.sent, ibis := s.hif.ibis } }

/-- POWER_ON: the rails are in range, the always-on domain runs, VID is driven to 30 (R487, R489). -/
def doPowerOn (s : State) : State :=
  if s.pins.powered then s
  else { s with pins := { s.pins with powered := true, resetLow := true, perstLow := true } }.coldReset 0

/-- POWER_DOWN: all volatile state is lost (R490). -/
def doPowerDown (s : State) : State :=
  let s := s.coldReset 0
  { s with pins := { s.pins with powered := false, tripLow := false, jtag := .bypass } }

/-- RESET_N_LOW: held low for `ns`; from 10 µs on a cold reset (R493). -/
def doResetNLow (ns : Nat) (s : State) : State :=
  if ns < 10000 then s else { s with pins := { s.pins with resetLow := true } }.coldReset 1

/-- PERST_N_LOW: held low for `ns`; from 1 µs on a cold reset (R479, R493). -/
def doPerstNLow (ns : Nat) (s : State) : State :=
  if ns < 1000 then s else { s with pins := { s.pins with perstLow := true } }.coldReset 2

/-- BROWN_OUT: a fixed rail below 92 % for `ns`; from 20 µs on a cold reset (Table 17.1). -/
def doBrownOut (ns : Nat) (s : State) : State := if ns < 20000 then s else s.coldReset 4

/-- CRITICAL_TEMP: THERM_TRIP_N is driven, a cold reset follows (R445, R493). -/
def doCriticalTemp (s : State) : State := { s with pins := { s.pins with tripLow := true } }.coldReset 5

/-- The guard of SHL_RESET_CMD. -/
def resetGuard : Nat := 0xB007

/-- SHL_RESET_COLD: the command COLD with its GUARD. -/
def doShlResetCold (guard : Nat) (s : State) : State := if guard = resetGuard then s.coldReset 3 else s

/-! ### Tiles and Supervisors at a start -/

/-- A tile without calibration or rows is calibrated, `c.age` before `tEnd`. -/
def State.calFresh (c : CalIn) (tEnd q t : Nat) (s : State) : State :=
  let at_ := tEnd - c.age
  (s.updTile q t fun _ => { Tile.blank with temp := c.temp, calStart := at_ - 20000 }).calEnd at_ q t c.rows

/-- Every tile of these quires is calibrated by `tEnd`; `cals` are in order of 32 × quire + tile. -/
def State.calQuires (cals : List CalIn) (tEnd : Nat) (qs : List Nat) (s : State) : State :=
  qs.foldl (fun s q => (List.range 32).foldl (fun s t =>
    s.calFresh (cals[32 * q + t]?.getD { temp := 0, age := 0, rows := [] }) tEnd q t) s) s

/-! ### The audit (R416, R417, R423, R424) -/

/-- What the audit and the compatibility check find: 0, or LIMP_CAUSE. `upset`: a chunk was read wrong. -/
def State.audit (upset : Bool) (s : State) : Nat :=
  match s.nvm.chunk0 with
  | none => 0x17
  | some c =>
    let body := (List.range (fwChunks c - 1)).all fun k => sha384 (s.nvm.block (17 + k)) == chunkDigest c (k + 1)
    if upset || fwCheck s.epd.fuses s.epd.conf c ≠ 0 || !body then 0x17
    else if !steppingListed (fieldAt 0x14 1 c) then 0x32
    else
      let abi := Config.epdAbi.toNat
      let f := s.epd.confFormat
      if fieldAt 0x18 2 c ≤ abi && abi ≤ fieldAt 0x1A 2 c && fieldAt 0x1E 2 c ≤ f && f ≤ fieldAt 0x1C 2 c then 0 else 0x17

/-- The fuse counter rises to v; `upTo`: the value it reached when a fuse did not read back blown (R416, R417). -/
def State.raiseFuses (v : Nat) (upTo : Option Nat) (s : State) : State :=
  if s.epd.terminal || v ≤ s.epd.fuses then { s with epd := { s.epd with fuseRetry := none } }
  else
    let r := match upTo with | some t => max s.epd.fuses (min t v) | none => v
    let s := { s with epd := { s.epd with
      fuses := r, terminal := r == 255, fuseRetry := if r = v then none else some v } }
    if r = v then s else s.see F.EPD_STATUS_FUSE_SEEN

/-- The image in the store becomes CONFIRMED (R424, R429). -/
def State.confirm (i : FwImage) (s : State) : State :=
  let s := s.epdPhase 0
  { s with epd := { s.epd with
    conf := i.version, confFormat := i.settingsFormat, settings := s.epd.settings.filter fun r => r.format == i.settingsFormat } }

/-- Step 8 of Table 17.3: the image passes and is loaded into code bank 0, or limp mode begins (R423, R424). A phase from WRITTEN
on has an image that is not confirmed yet (Table 16.6). -/
def State.loadFirmware (upset : Bool) (fuseTo : Option Nat) (s : State) : State :=
  let ph := s.epd.journal.phase
  let cause := s.audit upset
  if cause ≠ 0 then
    let s := s.raiseFuses (s.epd.fuseRetry.getD 0) fuseTo
    let s := s.setFld F.EPD_STATE_PHASE (if ph = 0 then 0 else if ph < 3 then 2 else 3)
    let s := (s.setFld F.EPD_STATE_LIMP 1).setFld F.EPD_STATE_LIMP_CAUSE cause
    s.see F.EPD_STATUS_LIMP_SEEN
  else
    let i := s.nvm.image
    let sv := if ph = 0 then 0 else i.secVersion
    let s := s.raiseFuses (max sv (s.epd.fuseRetry.getD 0)) fuseTo
    let s := if ph = 0 then s else s.confirm i
    { s with epd := { s.epd with bank0 := i } }

/-! ### The cold start (R435, R436) -/

/-- The start stops after step n with a reason. -/
def State.halt (step reason : Nat) (s : State) : State :=
  ((s.setFld F.SHL_BOOT_STATUS_STEP step).setFld F.SHL_BOOT_STATUS_HALTED 1).setFld F.SHL_BOOT_STATUS_REASON reason

/-- The start halts in lockdown (R436, R449). -/
def State.haltLocked (step : Nat) (s : State) : State := (s.halt step 5).setFld F.SEC_STATE_MODE 1

/-- A tamper code is latched unless one is (R446); an in-band interrupt reports it (R478). -/
def State.latchCode (code tick : Nat) (s : State) : State :=
  if s.fld F.SEC_STATE_LOCK_CODE ≠ 0 then s
  else
    let s := s.setFld F.SEC_STATE_LOCK_CODE code
    { s with sec := { s.sec with tick := tick } }.raiseIbi 1 code

/-- Codes of the sensors by their bit in SEC_TAMPER. -/
def sensorCode (b : Nat) : Nat := if b < 4 then b + 1 else b + 12

/-- The kill mark is written (R447). -/
def State.killKey (s : State) : State := { s with nvm := s.nvm.kill }.setFld F.SEC_STATE_KILLED 1

/-- Step 4: a sensor active, or one that fired in reset, halts the start in lockdown; class A kills (R446, R447). -/
def State.startTamper (sensors : Nat) (s : State) : Option State :=
  let on := (List.range 8).filter fun b => bitOf b sensors
  let s := s.setFld F.SEC_TAMPER_ACTIVE sensors
  let s := on.foldl (fun s b => s.latchCode (sensorCode b) s.tick) s
  let s := if on.any (· < 4) then s.killKey else s
  if s.fld F.SEC_STATE_LOCK_CODE = 0 then none else some (s.haltLocked 3)

/-- Step 9: the key reaches the volatile key store, or the code of R452 stands. -/
def State.unsealKey (s : State) : State :=
  match s.nvm.unseal with
  | .ok k =>
    let s := { s with
      sec := { s.sec with key := some k.scalar }
      col := { s.col with pubKey := k.pub, keyEpoch := k.epoch, endorse := k.endorse } }
    s.setFld F.SEC_STATE_KEY_LOADED 1
  | .error code =>
    let s := s.setFld F.SEC_STATE_LOCK_CODE code
    (if code = 0x80 then s.setFld F.SEC_STATE_KILLED 1 else s).haltLocked 8

/-- Step 13: ports with ENABLE 1 start training. -/
def State.trainPorts (s : State) : State :=
  (List.range 16).foldl (fun s p => if s.flag (F.SPN_PORT_CTRL_ENABLE p) then s.fullTrain p else s) s

/-- Steps 13 to 15: ports, calibration, READY. -/
def State.startEnd (cals : List CalIn) (s : State) : State :=
  let s := (s.setFld F.SHL_BOOT_STATUS_STEP 13).trainPorts
  let s := if s.limp then s else s.calQuires cals s.now (List.range 8)
  let s := (s.setFld F.SHL_BOOT_STATUS_STEP 15).setFld F.SHL_BOOT_STATUS_READY 1
  (s.see F.HIF_EVENT_BOOT_READY).raiseIbi 3 0

/-- Steps 10 to 12. -/
def State.startCore (chainId : Bytes) (s : State) : State :=
  let s := { s with col := { s.col with chainId := chainId, startAt := s.now } }
  (s.wr R.EPD_RUN_VERSION s.runImage.version).reloadQsvs 0xFF

/-- Steps 7 and 8: the store, the journal and the firmware. -/
def State.startStore (c : ColdIn) (s : State) : State :=
  let s := { s with nvm := { s.nvm with readOnly := s.nvm.spares == 0 } }
  let s := if c.journalTorn then { s with epd := { s.epd with journal := s.epd.older } } else s
  s.loadFirmware c.auditUpset (c.fuseTo.map BitVec.toNat)

/-- Steps 7 to 15. -/
def State.startRest (c : ColdIn) (s : State) : State :=
  let s := s.startStore c
  if s.limp then (s.setFld F.SHL_BOOT_STATUS_REASON 6).startEnd c.cals
  else
    let s := s.unsealKey
    if s.lockdown then s else (s.startCore (be 16 c.chainId.toNat)).startEnd c.cals

/-- Steps 5 and 6: the stacked memory and the near tier. -/
def State.startMemory (c : ColdIn) (s : State) : State :=
  if !c.selfTestOk then s.halt 4 3
  else
    let s := { s with pwr := { s.pwr with stack0 := c.stack0.val, stack1 := c.stack1.val } }
    if c.stack0.val = 0 || c.stack1.val = 0 then s.halt 5 1
    else if !c.trainOk then s.halt 5 2
    else s.startRest c

/-- COLD_START: the cold start of Table 17.3 after a cold reset, as far as it comes. It ends at the present time of the new
timebase. -/
def doColdStart (c : ColdIn) (s : State) : State :=
  if s.fld F.SHL_BOOT_STATUS_STEP ≠ 0 || s.flag F.SHL_BOOT_STATUS_HALTED then s
  else
    let s := { s with pins := { s.pins with resetLow := false, perstLow := false } }
    let s := (s.setFld F.HIF_LINK_SPEED c.speed.val).setFld F.HIF_LINK_WIDTH c.width.val
    if !c.endpaperOk then s.halt 2 4
    else match s.startTamper c.sensors.toNat with
      | some s => s
      | none => s.startMemory c

/-! ### Warm reset (R432 to R434, R349, R379, R387, R479) -/

/-- Registers of the HIF and PWR blocks. -/
def inHifPwr (off : Nat) : Bool := (0x1800000 ≤ off && off < 0x1900000) || (0x1400000 ≤ off && off < 0x1410000)

/-- A register of HIF or PWR after a warm reset: fields other than RWS take reset values; RO fields keep what they show, but for
queue pairs and windows, which are off (Table 17.2, R479). -/
def warmReg (off v : Nat) : Nat :=
  match regAt off with
  | none => v
  | some r =>
    let v := r.fields.foldl (fun v f =>
      match f.acc with
      | .ro | .rws => v
      | _ => setBitsOf f.hi f.lo (bitsOf f.hi f.lo (resetOf off).toNat) v) v
    if 0x1810000 ≤ off && off < 0x1840000 then (resetOf off).toNat else v

/-- The HIF and PWR blocks at a warm reset: registers, MSI-X tables, held messages, queue pairs; `dStates`: PCI Express brings
every function back to D0. -/
def State.warmHif (dStates : Bool) (s : State) : State :=
  let s := s.regs.foldl (fun s x => if inHifPwr x.1 then s.wr x.1 (warmReg x.1 x.2.toNat) else s) s
  { s with hif := { s.hif with
      msix := [], modUntil := [], modHeld := [], qps := [], d3 := if dStates then [] else s.hif.d3 } }

/-- A LOAD or a restore that a reset cut (R379): LOADED clears and the quires begun are marked RESTORE_NEEDED. -/
def State.cutLoad (s : State) : State :=
  let begun := match s.bnd.op with
    | some (.load m fromStage) => match s.loadBinding fromStage with | some b => s.loadQuires b m | none => []
    | _ => []
  match s.bnd.op with
  | some (.load ..) =>
    { s with bnd := { s.bnd with
      quireOut := joinNat s.bnd.quireOut (joinNat begun s.bnd.dirty), dirty := [], loaded := none, loadedVars := [], stale := false
      } }.bindEnd 0x15 0xFFFF
  | _ => s

/-- A restore of these quires is cut. -/
def State.cutRestore (qs : List Nat) (s : State) : State :=
  let cut := s.bnd.restoring.filter fun q => qs.contains q
  { s with bnd := { s.bnd with
    quireOut := joinNat s.bnd.quireOut cut, restoring := s.bnd.restoring.filter fun q => !qs.contains q } }

/-- Table 16.6 for a warm reset. -/
def State.warmEpd (switched : Bool) (s : State) : State :=
  let ph := s.fld F.EPD_STATE_PHASE
  let s := { s with epd := { s.epd with op := none, handover := none, sealWait := none } }
  if ph = 1 then (s.epdPhase 2).epdEnd 0x15 s.epd.journal.cursor
  else if ph = 4 || ph = 5 then s.epdPhase 3
  else if ph = 6 then if switched then s.switchBanks else s.epdPhase 3
  else s

/-- The engines at the start after a reset of these quires: no work, every tile calibrated by `tEnd`. -/
def State.freshEngines (cals : List CalIn) (tEnd : Nat) (qs : List Nat) (s : State) : State :=
  let gone (id : Nat) : Bool := match s.item? id with | some i => qs.contains i.quire | none => true
  let s := { s with eng := { s.eng with
    samples := s.eng.samples.filter fun x => !qs.contains x.quire
    waitRows := s.eng.waitRows.filter fun w => !gone w.1 } }
  s.calQuires cals tEnd qs

/-- Folios with an item that is admitted and not past the gate (R383). -/
def State.flightFolios (p : Item → Bool) (s : State) : List Nat :=
  sortNat ((s.adm.live.filter fun i => i.phase == .admitted && p i).map Item.folio)

/-- The gathering state after a warm start: OPEN, DKL_OPEN_LIMIT running but before the first seal (Table 17.2, R61). What a
window held before it stays the configuration to revert to. -/
def State.warmOpen (s : State) : State :=
  let saved := if s.dkl.gather = .openW || s.dkl.gather = .sealing then s.dkl.saved else s.regs
  { s with dkl := { s.dkl with gather := .openW, openFrom := s.tick, beginAt := none, sealTimer := false, saved := saved } }

/-- The part 0 that waits is signed again and its part 1 enters first; a signature that fails its check was tried twice (R341,
R349). -/
def State.resign (w : WarmIn) (s : State) : State :=
  if s.col.pendingSig.isNone then s
  else
    let s := { s with now := max s.now w.tSign }
    let q := (lastPart0 s.chain).1
    let ok := ecdsaVerify s.col.pubKey (s.sealMessage q (lastPart0Tick s.col.startAt s.chain)) w.r.toNat w.sg.toNat
    s.sealPart1 q ok (be 48 w.r.toNat) (be 48 w.sg.toNat)

/-- The heartbeats toward partner n that fall due up to `tEnd` are sent at their times (R304). -/
def State.heartbeatsTo (tEnd n : Nat) (s : State) : State :=
  let p := s.partner n
  let due := (tEnd - p.tAttach) / 50000 + 1
  let s' := (List.range due).foldl (fun (s : State) k =>
    if k < p.hbSent then s
    else ({ s with now := p.tAttach + 50000 * k }).post n 0 (.heartbeat (k % 2 ^ 32) (p.tAttach + 50000 * k))) s
  ({ s' with now := s.now }).updPartner n fun p =>
    { p with hbSent := max p.hbSent due, windows := (tEnd - p.tAttach) / 50000, hbSeen := true, missed := 0 }

/-- Heartbeats run on through a warm reset that ends at `tEnd`: the device sends its own, and the partners' count in every
window (R433). -/
def State.heartbeatsOver (tEnd : Nat) (s : State) : State :=
  s.parts.table.foldl (fun s x => if x.2.state.on then s.heartbeatsTo tEnd x.1 else s) s

/-- The core's part of a warm reset and its start (R434); the Colophons enter in the first tick after every Quire Supervisor is
reloaded (R387). -/
def State.warmCore (w : WarmIn) (s : State) : State :=
  let t0 := s.tick
  let ns := s.flightFolios fun _ => true
  let s := s.cutLoad.cutRestore (List.range 8)
  let s := ((s.warmEpd w.switched).advance (max (s.tick + 10) w.tLoad)).reloadQsvs 0xFF
  let s := (List.range 8).foldl (fun s q => s.rollForward q (w.badJournals.any fun b => b.val == q)) s
  let s := { s with pvc := .empty, dkl := { s.dkl with gather := if s.dkl.gather = GState.sealing then GState.openW else s.dkl.gather } }
  let s := s.setFld F.PVC_CMD_RESULT_BUSY 0
  let s := s.resign w
  let s := s.faultAt ns { block := 0x0B, status := 0x48, quire := 0xFF, engine := 0xFF, addr := 0 } false t0
  let s := ({ s with col := { s.col with warmReq := true } }).sealIfDue
  let tEnd := max s.now w.tEnd
  (({ s with now := tEnd }).freshEngines w.cals tEnd (List.range 8)).warmOpen.heartbeatsOver tEnd

/-- Every reset ends the power state in force (R432); ports that PS2 disabled train again. -/
def State.endPowerState (s : State) : State :=
  let was := s.fld F.PWR_STATE_CURRENT
  let s := (s.setFld F.PWR_STATE_CURRENT 0).setFld F.PWR_STATE_BUSY 0
  let s := { s with pwr := { s.pwr with target := 0, stopFrom := none, waking := false } }
  if was = 2 then s.trainPorts else s

/-- A warm reset with this cause of SHL_RESET_CAUSE: HIF and PWR fields, then the core where firmware runs. It has no effect
before the host link is up, in PS3, or in lockdown but for HIF and PWR fields. -/
def State.warmReset (cause : Nat) (link : Option (Nat × Nat)) (w : WarmIn) (s : State) : State :=
  if !s.hostLink then s
  else
    let s := s.setFld F.SHL_RESET_CAUSE_WARM cause
    let s := s.setFld F.SHL_RESET_CAUSE_WARM_COUNT (min 0xFFFF (s.fld F.SHL_RESET_CAUSE_WARM_COUNT + 1))
    let s := s.warmHif (cause = 3)
    let s := match link with
      | some l => (s.setFld F.HIF_LINK_SPEED l.1).setFld F.HIF_LINK_WIDTH l.2
      | none => s
    if s.lockdown || s.limp || !s.flag F.SHL_BOOT_STATUS_READY then s
    else (s.warmCore w).endPowerState

/-- SHL_RESET_WARM: the command WARM with its GUARD. -/
def doShlResetWarm (guard : Nat) (w : WarmIn) (s : State) : State :=
  if guard = resetGuard then s.warmReset 1 none w else s

/-- SCP_WATCHDOG_EXPIRY. -/
def doScpWatchdogExpiry (w : WarmIn) (s : State) : State := s.warmReset 2 none w

/-- PCIE_HOT_RESET: the link trains again with this speed and width. -/
def doPcieHotReset (speed width : Nat) (w : WarmIn) (s : State) : State := s.warmReset 3 (some (speed, width)) w

/-- PCIE_LINK_DOWN: the link trains again with this speed and width, both 0 while it stays down. -/
def doPcieLinkDown (speed width : Nat) (w : WarmIn) (s : State) : State := s.warmReset 3 (some (speed, width)) w

/-- PF_FLR: the PF comes back to D0. -/
def doPfFlr (w : WarmIn) (s : State) : State :=
  let s' := s.warmReset 4 none w
  { s' with hif := { s'.hif with d3 := s'.hif.d3.filter (· != 0) } }

/-! ### Quire reset (R434) -/

/-- The item has engine work in quire q: it computes there (R383). -/
def Item.worksIn (q : Nat) (i : Item) : Bool :=
  i.quire == q && i.doneAt.isNone && i.hitEnt.isNone && i.kind != .endItem

/-- A quire reset of these quires that ends at tEnd. -/
def State.quireReset (qs : List Nat) (tEnd : Nat) (badJournals : List (Fin 8)) (cals : List CalIn) (s : State) : State :=
  if s.lockdown || s.limp || !s.flag F.SHL_BOOT_STATUS_READY || s.fld F.PWR_STATE_CURRENT = 3 || qs.isEmpty then s
  else
    let mask := qs.foldl (fun m q => m ||| 2 ^ q) 0
    let s := s.setFld F.SHL_RESET_CAUSE_QUIRE_SEEN (s.fld F.SHL_RESET_CAUSE_QUIRE_SEEN ||| mask)
    let s := qs.foldl (fun s q => s.fault (s.flightFolios (Item.worksIn q))
      { block := 0x0A, status := 0x47, quire := q, engine := 0xFF, addr := 0 } false) s
    let s := (s.cutLoad.cutRestore qs).reloadQsvs mask
    let s := qs.foldl (fun s q => s.rollForward q (badJournals.any fun b => b.val == q)) s
    let s := { s with bnd := { s.bnd with
      resetting := (s.bnd.resetting.filter fun (x : Nat × Nat) => !qs.contains x.1) ++ qs.map fun q => (q, tEnd) } }
    s.freshEngines cals tEnd qs

/-- SHL_RESET_QUIRE: the command QUIRE with its GUARD and its quires. -/
def doShlResetQuire (guard quires tEnd : Nat) (badJournals : List (Fin 8)) (cals : List CalIn) (s : State) : State :=
  if guard = resetGuard then s.quireReset ((List.range 8).filter fun q => bitOf q quires) tEnd badJournals cals else s

/-- QSV_WATCHDOG_EXPIRY. -/
def doQsvWatchdogExpiry (q tEnd : Nat) (badJournals : List (Fin 8)) (cals : List CalIn) (s : State) : State :=
  s.quireReset [q] tEnd badJournals cals

/-- QSV_MEMORY_ERROR. -/
def doQsvMemoryError (q tEnd : Nat) (badJournals : List (Fin 8)) (cals : List CalIn) (s : State) : State :=
  s.quireReset [q] tEnd badJournals cals

end Sys2Proof.Machine
end

