-- ==== Sys2Proof/Machine/PowerCmds.lean ====
section
/-!
DEFINITION. Power states (R439 to R444), thermal limits (R445), tamper and lockdown (R446 to R450), re-provisioning (R453).
-/
namespace Sys2Proof.Machine

/-! ### Power states -/

/-- An item is admitted and has not passed the gate. -/
def State.anyAdmitted (s : State) : Bool := s.adm.live.any fun i => i.phase == .admitted

/-- A request for PS2 or PS3 is refused (R441). -/
def State.deepRefused (s : State) : Bool :=
  s.liveCount != 0 || !s.pendingFaults.isEmpty || !(s.dkl.gather == .sealed || s.dkl.gather == .openW)

/-- PWR_STATE.RESULT. -/
def State.pwrResult (r : Nat) (s : State) : State := s.setFld F.PWR_STATE_RESULT r

/-- PWR_STATE_REQUEST: a write of PWR_STATE_CMD (R440, R441, R449). A start that has no firmware running refuses it. -/
def doPwrStateRequest (target : Nat) (s : State) : State :=
  if s.lockdown then s.pwrResult 0x30
  else if s.limp || !s.flag F.SHL_BOOT_STATUS_READY || (2 ≤ target && s.deepRefused) then s.pwrResult 0x15
  else
    let s := s.pwrResult 0
    let stop := if target = 0 && s.fld F.PWR_STATE_CURRENT = 0 then none else some (s.pwr.stopFrom.getD (s.tick + 10))
    let s := { s with pwr := { s.pwr with target := target, stopFrom := stop } }
    s.setFld F.PWR_STATE_BUSY (b2n (target != s.fld F.PWR_STATE_CURRENT))

/-- PWR_STATE shows a new state. -/
def State.enterState (n : Nat) (s : State) : State :=
  (s.setFld F.PWR_STATE_CURRENT n).setFld F.PWR_STATE_BUSY (b2n (n != s.pwr.target))

/-- Every port becomes DISABLED, with the loss of its partners (R268, R441, R448). -/
def State.disablePorts (s : State) : State := (List.range 16).foldl (fun s p => s.portDisable p) s

/-- Entering PS2: DETACH with REASON 1 to every partner, then the ports go (R441). -/
def State.enterPs2 (s : State) : State :=
  let s := s.parts.onNumbers.foldl (fun s n => s.post n 0 (.detach 1)) s
  s.disablePorts.enterState 2

/-- Entering PS3: a seal with TRIGGER 2 covers what is not covered, and its part 1 is waited for (R442). -/
def State.enterPs3 (s : State) : State :=
  if s.col.pendingSig.isSome then s
  else if s.canSeal && 1 ≤ (lastPart0 s.chain).2 then s.sealPart0 2
  else (s.enterState 3).setFld F.HIF_LINK_SPEED 0 |>.setFld F.HIF_LINK_WIDTH 0

/-- The contents of model memory and of the AMA banks from the binding and the model set in force (R443). -/
def State.reloadCore (s : State) : State :=
  let cleared := (List.range 256).foldl Ama.clearBank { s.ama with saves := [] }
  match s.bnd.cur with
  | some b =>
    { s with
      ama := (List.range 256).foldl (Ama.loadBank b) cleared
      bnd := { s.bnd with
        models := (List.range 8).map (buildModel b s.bnd.cat s.bnd.mset), loaded := none, loadedVars := [], stale := false
        dirty := [], restoring := [], quireOut := [], badWords := [] } }
  | none => { s with ama := cleared, bnd := { s.bnd with models := [], loaded := none, loadedVars := [], dirty := [], badWords := [] } }

/-- Commands of the update ports that PS3 cut end as superseded by the reload (R184, R443). -/
def State.endUpds (s : State) : State :=
  (List.range 8).foldl (fun s q => if (s.ama.updOf q).isSome then s.updEnd q 0x27 else s) s

/-- The end of the exit from PS3 (R443): contents reloaded, cache empty, gathering state OPEN. -/
def State.wakeCore (s : State) : State :=
  let s := s.endUpds.reloadCore
  let s := { s with pvc := .empty, pwr := { s.pwr with waking := false } }
  (s.setFld F.PVC_CMD_RESULT_BUSY 0).warmOpen

/-- Reaching PS0: every tile is calibrated and admission starts again (R440). -/
def State.enterPs0 (cals : List CalIn) (s : State) : State :=
  let s := if s.pwr.waking then s.wakeCore else s
  let s := s.freshEngines cals s.now (List.range 8)
  { s with pwr := { s.pwr with stopFrom := none } }.enterState 0

/-- Leaving PS3: firmware and Supervisors reload, the host link trains (R443). -/
def State.leavePs3 (p : PwrIn) (s : State) : State :=
  let s := (s.reloadQsvs 0xFF).enterState 2
  let s := (s.setFld F.HIF_LINK_SPEED p.speed.val).setFld F.HIF_LINK_WIDTH p.width.val
  { s with pwr := { s.pwr with waking := true } }

/-- PWR_TRANSITION_DONE: one step toward the target (R439 to R443). PS1 waits for the admitted items. -/
def doPwrTransitionDone (p : PwrIn) (s : State) : State :=
  if s.lockdown || !s.flag F.PWR_STATE_BUSY then s
  else
    let c := s.fld F.PWR_STATE_CURRENT
    if c < s.pwr.target then
      if c = 0 then (if s.anyAdmitted then s else s.enterState 1)
      else if c = 1 then s.enterPs2
      else s.enterPs3
    else if c = 3 then s.leavePs3 p
    else if c = 2 then (s.enterState 1).trainPorts
    else s.enterPs0 p.cals

/-- The exit from PS3 starts (R443). -/
def State.wake (s : State) : State :=
  if s.fld F.PWR_STATE_CURRENT = 3 then
    { s with pwr := { s.pwr with target := 0 } }.setFld F.PWR_STATE_BUSY 1
  else s

/-- WAKE_N_LOW: held low for `ns`; from 1 µs on it wakes PS3, in other states it does nothing (R493). -/
def doWakeNLow (ns : Nat) (s : State) : State := if ns < 1000 then s else s.wake

/-! ### Thermal limits (R445) -/

/-- A thermal stop begins: admission stops in the next tick. -/
def State.thermalStop (tj : Nat) (s : State) : State :=
  if s.flag F.PWR_STATE_THERM_STOP then s
  else
    let s := (s.setFld F.PWR_STATE_THERM_STOP 1).see F.PWR_STATUS_STOP_SEEN
    { s with pwr := { s.pwr with thermFrom := some (s.tick + 10) } }.raiseIbi 2 tj

/-- THERMAL_READING: the hottest junction reading and its sensor. -/
def doThermalReading (tj sensor : Nat) (s : State) : State :=
  let s := (s.setFld F.PWR_THERM_TJ tj).setFld F.PWR_THERM_SENSOR sensor
  let cool := if tj ≤ s.fld F.PWR_THERM_LIMIT_RESUME then some (s.pwr.coolFrom.getD s.now) else none
  let s := { s with pwr := { s.pwr with coolFrom := cool } }
  let s := if s.fld F.PWR_THERM_LIMIT_WARN ≤ tj then s.see F.PWR_STATUS_WARN_SEEN else s
  if s.fld F.PWR_THERM_LIMIT_STOP ≤ tj then s.thermalStop tj else s

/-- THERMAL_RESUME: 10 ms at or below RESUME end a thermal stop; every tile is calibrated. -/
def doThermalResume (cals : List CalIn) (s : State) : State :=
  match s.pwr.coolFrom with
  | some t =>
    if s.flag F.PWR_STATE_THERM_STOP && t + 10000000 ≤ s.now then
      let s := s.setFld F.PWR_STATE_THERM_STOP 0
      let s := { s with pwr := { s.pwr with thermFrom := none } }
      if s.fld F.PWR_STATE_CURRENT = 0 && !s.lockdown && !s.limp then s.freshEngines cals s.now (List.range 8) else s
    else s
  | none => s

/-- THERM_TRIP_RELEASE: THERM_TRIP_N, held low for `ns`, is released after 10 ms once the hottest sensor reads 115 °C or less
(R493). -/
def doThermTripRelease (ns hottest : Nat) (s : State) : State :=
  if 10000000 ≤ ns && hottest ≤ 115 then { s with pins := { s.pins with tripLow := false } } else s

/-! ### Tamper (R446 to R450) -/

/-- Codes of class A (Table 17.6). -/
def classA (code : Nat) : Bool := 1 ≤ code && code ≤ 4

/-- The bit of SEC_TAMPER of a code. -/
def sensorBit (code : Nat) : Nat := if code < 0x10 then code - 1 else code - 12

/-- The volatile key store is zeroised, with a new key that re-provisioning has drawn (R447, R453). -/
def State.zeroise (s : State) : State :=
  let s := if s.sec.newKey.isSome then s.setFld F.SEC_STATE_MODE 1 else s
  let had := s.sec.key.isSome
  let s := { s with sec := { s.sec with key := none, newKey := none } }.setFld F.SEC_STATE_KEY_LOADED 0
  if had then s.loseSealKey else s

/-- The tick after the latest T_rel of an admitted item, or after this one (R448). -/
def State.lockTick (s : State) : Nat :=
  (s.adm.live.filter fun i => i.phase == .admitted).foldl (fun m i => max m i.tRel) s.tick + 10

/-- The response in the phase in which a sensor fires (Table 17.7). -/
def State.tamperPhase (s : State) : State :=
  if s.lockdown || s.fld F.SHL_BOOT_STATUS_STEP = 0 then s
  else if s.flag F.SHL_BOOT_STATUS_HALTED then
    (s.setFld F.SEC_STATE_MODE 1).setFld F.SHL_BOOT_STATUS_REASON 5
  else if s.fld F.PWR_STATE_CURRENT = 3 then
    ((s.setFld F.SEC_STATE_MODE 1).setFld F.PWR_STATE_CURRENT 0).setFld F.PWR_STATE_BUSY 0
  else if s.sec.tamper then s
  else { s with sec := { s.sec with tamper := true, lockAt := s.lockTick } }

/-- The sensors of class B are armed from t0 to the next fall of RESET_N or PERST_N (R491). -/
def State.armed (s : State) (code : Nat) : Bool := classA code || (s.fld F.SHL_BOOT_STATUS_STEP != 0 && !s.pins.resetLow && !s.pins.perstLow)

/-- The code names a sensor of Table 17.6. -/
def sensorKnown (code : Nat) : Bool := classA code || (0x10 ≤ code && code ≤ 0x13)

/-- TAMPER_EVENT: a sensor fires, or (`active` false) reads clear again: ACTIVE is live (R446, R447). -/
def doTamperEvent (code : Nat) (active : Bool) (s : State) : State :=
  if !sensorKnown code || !s.armed code then s
  else
    let mask := 2 ^ sensorBit code
    let a := s.fld F.SEC_TAMPER_ACTIVE
    if !active then s.setFld F.SEC_TAMPER_ACTIVE (if bitOf (sensorBit code) a then a - mask else a)
    else
      let s := (s.setFld F.SEC_TAMPER_ACTIVE (a ||| mask)).latchCode code s.tick
      let s := if classA code then s.killKey else s
      s.zeroise.tamperPhase

/-- Every live folio that the loss of the ports has left is orphaned, in folio index order (R448). -/
def State.orphanAll (s : State) : State :=
  ((s.ldg.folios.filter fun x => x.2.state.live).map (·.1)).foldl (fun s n => s.orphan n (s.folio n).gw 3) s

/-- LOCKDOWN_ENTRY: the tick after the latest T_rel (R448, R449). -/
def doLockdownEntry (s : State) : State :=
  if s.sec.tamper && !s.lockdown && s.sec.lockAt ≤ s.tick then
    let s := s.disablePorts.orphanAll.setFld F.SEC_STATE_MODE 1
    { s with pwr := { s.pwr with target := s.fld F.PWR_STATE_CURRENT } }.setFld F.PWR_STATE_BUSY 0
  else s

/-! ### Re-provisioning (R453) -/

/-- SEC_PROV_RESULT. -/
def State.provEnd (st : Nat) (s : State) : State := (s.setFld F.SEC_PROV_RESULT_STATUS st).setFld F.SEC_PROV_RESULT_BUSY 0

/-- Re-provisioning may run: lockdown for the key's sake, and no sensor active. -/
def State.provOk (s : State) : Bool :=
  let c := s.fld F.SEC_STATE_LOCK_CODE
  s.lockdown && (c == 0x80 || c == 0x81 || c == 0x82) && s.fld F.SEC_TAMPER_ACTIVE == 0

/-- PUB_X ‖ PUB_Y of a scalar. -/
def pubOf (d : Nat) : Bytes :=
  match ecMul (some (p384gx, p384gy)) 384 d with
  | some (x, y) => be 48 x ++ be 48 y
  | none => zeros 96

/-- SEC_PROV_BEGIN: a new key pair, the request record and its attestation. The entropy source gives the scalar, brought into the
range of private keys; the unit attestation key gives the 96 bytes of the signature. -/
def doSecProvBegin (draw : Nat) (attest : Bytes) (s : State) : State :=
  if !s.provOk then s.provEnd 0x15
  else
    let d := draw % (p384n - 1) + 1
    let pub := pubOf d
    let epoch := s.nvm.nextEpoch
    let s := { s with sec := { s.sec with newKey := some (d, pub, epoch) } }
    let s := s.wrWords (R.SEC_PROV_REQ 0) 32 (endorseReq epoch pub)
    ((s.wrWords (R.SEC_PROV_ATTEST 0) 24 (padTo 96 attest)).setFld F.SEC_STATE_MODE 2).provEnd 0

/-- SIG_R ‖ SIG_S as SEC_PROV_SIG holds them. -/
def State.provSig (s : State) : Bytes := (List.range 24).flatMap fun k => le 4 (s.rd (R.SEC_PROV_SIG k))

/-- A block of the key store is erased and written with a record. -/
def State.writeKeyBlock (bad : NvmBad) (rec_ : Bytes) (b : Nat) (s : State) : Bool × State :=
  let e := s.nvmErase bad [b]
  if e.1 then e.2.nvmProgram bad (asPages (256 * b) rec_) else e

/-- SEC_PROV_COMMIT: the endorsement is verified, then blocks 345 and 344 are written. `nonce` is drawn from the entropy source. -/
def doSecProvCommit (nonce : Bytes) (bad : NvmBad) (s : State) : State :=
  match s.sec.newKey with
  | none => s.provEnd 0x15
  | some (d, pub, epoch) =>
    if !s.provOk then s.provEnd 0x15
    else
      let en := endorseReq epoch pub ++ s.provSig ++ zeros 32
      if !endorseOk en pub then s.provEnd 0x16
      else if s.nvm.readOnly || s.nvm.spares = 0 then s.provEnd 0x18
      else
        let r := newKeyRec s.nvm.nextKeySeq nonce { scalar := d, pub := pub, epoch := epoch, endorse := en }
        let a := s.writeKeyBlock bad r 345
        if !a.1 then a.2.provEnd 0x18
        else
          let b := a.2.writeKeyBlock bad r 344
          if !b.1 then b.2.provEnd 0x18
          else
            let s := { b.2 with sec := { b.2.sec with newKey := none } }
            (s.setFld F.SEC_STATE_MODE 1).provEnd 0

/-- SEC_PROV_ABORT: the new key is zeroised and nothing is written. -/
def doSecProvAbort (s : State) : State :=
  if !s.provOk then s.provEnd 0x15
  else
    let s := { s with sec := { s.sec with newKey := none } }
    (s.setFld F.SEC_STATE_MODE 1).provEnd 0

end Sys2Proof.Machine
end

