-- ==== Sys2Proof/Machine/Views.lean ====
section
/-!
DEFINITION. What registers read as: the read-only registers that show structured state (the register tables of every
chapter), pages of bytes shown in registers (R501), the high halves that a read of a low half latches (R35), and the
host's reads of BAR 0 and BAR 2 (R457 to R461).
-/
namespace Sys2Proof.Machine

/-- The element of a register array that an offset names. -/
def elem (base n stride off : Nat) : Option Nat :=
  let k := (off - base) / stride
  if base ≤ off && k < n && off == base + k * stride then some k else none

/-! ### Shell and binding -/

/-- SHL_ID (R15, chapter 0). -/
def shlId : Nat :=
  0x0064 * 2 ^ 16 + (if Config.steppingA0 then 0xA0 else 0xB0) * 2 ^ 8 + Config.metalFix.toNat * 2 ^ 4

/-- SHL_CONFIG (R18, chapter 1). -/
def State.shlConfig (s : State) : Nat :=
  s.pwr.stack0 + s.pwr.stack1 * 2 ^ 4 + 8 * 2 ^ 8 + 16 * 2 ^ 12 + b2n (s.pwr.stack0 != s.pwr.stack1) * 2 ^ 17 + 0xE0 * 2 ^ 24

/-- The manifest of the binding in force. -/
def State.manifest? (s : State) : Option Manifest := s.bnd.cur.map (·.manifest)

/-- SHL_BIND_STATUS (R375, R378, R379). -/
def State.bindStatus (s : State) : Nat :=
  b2n s.bnd.staged.isSome + 2 * b2n s.bnd.loaded.isSome + 4 * b2n s.bnd.stale + 8 * b2n (!s.bnd.restoring.isEmpty) +
  16 * b2n s.bnd.cur.isSome + 256 * sumOf (fun q => 2 ^ q) s.bnd.quireOut + 65536 * s.runImage.bindingAbi

/-- Registers of the shell that show other state. -/
def State.shlView (s : State) (off : Nat) : Option Nat :=
  if off = R.SHL_ID then some shlId
  else if off = R.SHL_CONFIG then some s.shlConfig
  else if off = R.SHL_CASCADE_CMAP then some ((s.manifest?.map (·.cmapId)).getD 0)
  else if off = R.SHL_AMA_VER_LO then some s.ama.ver
  else if off = R.SHL_BIND_STATUS then some s.bindStatus
  else if off = R.SHL_MSET_ID then some s.bnd.msetId
  else if off = R.SHL_CAT_USED then some s.bnd.variants.length
  else if off = R.SHL_BIND_FAULT_ADDR_LO then some s.bnd.faultAddr
  else match elem (R.SHL_AMA_DIGEST 0) 12 4 off with
  | some k => some (wordOfBytes k s.ama.digest)
  | none => match elem (R.SHL_BIND_DIGEST 0) 12 4 off with
  | some k => some (wordOfBytes k ((s.bnd.cur.map (·.digest)).getD []))
  | none => match elem (R.SHL_STAGE_DIGEST 0) 12 4 off with
  | some k => some (wordOfBytes k ((s.bnd.staged.map (·.digest)).getD []))
  | none => (elem (R.SHL_MSET_DIGEST 0) 12 4 off).map fun k => wordOfBytes k s.bnd.msetDigest

/-! ### Deckle, ledger, admission, prefix cache -/

/-- Registers of the Deckle block that show other state. -/
def State.dklView (s : State) (off : Nat) : Option Nat :=
  if off = R.DKL_TIME_LO then some s.now
  else if off = R.DKL_PROVEN_IN then some ((s.manifest?.map (·.provenIn)).getD 0)
  else if off = R.DKL_PROVEN_OUT then some ((s.manifest?.map (·.provenOut)).getD 0)
  else if off = R.DKL_GATHER_STATUS then
    some (setBitsOf F.DKL_GATHER_STATUS_STATE.hi F.DKL_GATHER_STATUS_STATE.lo s.dkl.gather.code (s.rd off))
  else none

/-- LDG_LIVE and LDG_FREE. -/
def State.ldgView (s : State) (off : Nat) : Option Nat :=
  if off = R.LDG_LIVE then some s.liveCount
  else if off = R.LDG_FREE then some s.ldg.freeCount
  else if off = R.LDG_STATUS then some (s.rd off + b2n (s.ldg.freeCount == 0))
  else none

/-- ADM_BAL_STATUS. -/
def State.balStatus (s : State) : Nat :=
  s.adm.totalOut % 128 + 128 * b2n s.adm.fence.isSome + 256 * s.adm.moveQuire + 2048 * b2n s.adm.moveToOut + 4096 * s.adm.streak

/-- Registers of admission that show other state. -/
def State.admView (s : State) (off : Nat) : Option Nat :=
  if off = R.ADM_BAL_STATUS then some s.balStatus
  else if off = R.ADM_OCC then some (s.occ .inp + 65536 * s.occ .outp)
  else if off = R.ADM_SPLIT then some (sumOf (fun q => s.adm.groups q .outp * 16 ^ q) (List.range 8))
  else if off = R.ADM_WAIT_IN_SUM_LO then some s.adm.waitIn
  else if off = R.ADM_WAIT_OUT_SUM_LO then some s.adm.waitOut
  else none

/-- PVC_CAP and PVC_SNAP_BYTES. -/
def State.pvcView (s : State) (off : Nat) : Option Nat :=
  if off = R.PVC_CAP then some s.pvcEntries
  else if off = R.PVC_SNAP_BYTES then some ((s.manifest?.map (·.snapBytes)).getD 0)
  else (elem (R.PVC_EPOCH 0) 256 4 off).map fun n => sumOf (fun j => s.pvc.epochAt s.tick (4 * n + j) * 256 ^ j) (List.range 4)

/-! ### Quires -/

/-- The slots in use of quire q that hold tree ensembles. -/
def State.treeSlots (s : State) (q : Nat) : List (SlotDesc × SlotMem) := (s.qmodel q).used.filter fun p => p.1.cls == 1

/-- QUIRE_n_TWE_m_OCC. -/
def State.tweOcc (s : State) (q m : Nat) : Nat :=
  let mine := s.eng.samples.filter fun x => x.quire == q && x.twe == m
  let fenced : Bool := match s.adm.fence with | some (fq, g, _) => fq == q && g == m | none => false
  min 512 (mine.filter fun x => x.started).length + 1024 * b2n (decide (8 - s.adm.groups q .outp ≤ m)) + 2048 * b2n fenced +
    65536 * satAt 0xFFFF (mine.filter fun x => !x.started).length

/-- QUIRE_n_AMT_t_STATE; AGE is 0 before the first calibration. -/
def State.amtState (s : State) (q t : Nat) : Nat :=
  let x := s.tile q t
  x.eps16 % 256 + 256 * (x.tCal % 128) + 65536 * b2n (x.validAt s.now) + 131072 * b2n x.disabled + 262144 * b2n x.calibrating +
    524288 * b2n x.stale + 1048576 * (if x.calAt = 0 then 0 else satAt 0xFFF ((s.now - x.calAt) / 10000))

/-- QUIRE_n_AMA_BANK_m_CFG. -/
def State.bankCfg (s : State) (q m : Nat) : Nat :=
  let b := s.bankRec (32 * q + m)
  let t := s.tableRec b.table
  if b.inTable then t.width + 4 + 8 * b.table + 512 * b2n t.mask + 1024 * b.order + 262144 * b2n t.cascade else 0

/-- QUIRE_n_AMA_JOURNAL_0. -/
def AmaJournal.word0 (j : AmaJournal) : Nat := j.state + 4 * (j.bank % 32) + 128 * b2n j.dir + 256 * j.substep + 1024 * b2n j.good

/-- Registers of a quire that show other state: offset o within the quire's block. -/
def State.quireView (s : State) (q o : Nat) : Option Nat :=
  if o = 0x10000 then some (sumOf (fun p => p.2.body.memBytes / 8) (s.treeSlots q))
  else if o = 0x10004 then
    some (sumOf (fun p => p.2.body.recsA.length) (s.treeSlots q) + 65536 * sumOf (fun p => p.2.body.recsB.length) (s.treeSlots q))
  else if o = 0x10080 then some (Sparse.get (fun _ => 0) s.eng.visits q)
  else if o = 0x30288 then some (s.ama.resOf q).ver
  else if o = 0x302A8 then some (s.ama.resOf q).ver0
  else if o = 0x30290 then some (s.ama.resOf q).tick0
  else if o = 0x30298 then some (s.ama.resOf q).tick1
  else if o = 0x30300 then some (s.ama.jrn q).word0
  else if o = 0x30304 then some ((s.ama.jrn q).cursor + 65536 * (s.ama.jrn q).target)
  else if o = 0x30308 then some ((s.ama.jrn q).gutter + 16384 * (s.ama.jrn q).width)
  else if o = 0x30318 then some (sumOf (fun m => if s.ama.failed.contains (32 * q + m) then 2 ^ m else 0) (List.range 32))
  else if o = 0x3031C then
    some (sumOf (fun m => if (s.ama.bankSlots (32 * q + m)).any (fun x => x.2.quar) then 2 ^ m else 0) (List.range 32))
  else match elem 0x10010 8 4 o with
  | some m => some (s.tweOcc q m)
  | none => match elem 0x20100 32 4 o with
  | some t => some (s.amtState q t)
  | none => (elem 0x30000 32 4 o).map fun m => s.bankCfg q m

/-! ### TSU, Spine, partners -/

/-- Registers of the Token Selection Unit that show other state. -/
def State.tsuView (s : State) (off : Nat) : Option Nat :=
  if off = R.TSU_COUNT_CAP then some s.countCap
  else if off = R.TSU_COUNT_USED then some s.countUsed
  else (elem (R.TSU_EXP2 0) 1024 4 off).map exp2

/-- SPN_PARTNER_n_INFO. -/
def Partner.info (p : Partner) : Nat :=
  p.state.code + (if p.state = .none && p.tAttach = 0 then 0 else 16 * p.kind.code) + 128 * b2n (bitOf 0 p.caps.flags) +
    256 * p.at_.port + 4096 * p.at_.ep + 65536 * (p.caps.pageKib % 128) + 2 ^ 24 * p.missed + 2 ^ 28 * p.loss

/-- FT_USED: pages that entries with LOC 0b10 hold at partner n (R327). -/
def State.ftUsed (s : State) (n : Nat) : Nat :=
  sumOf (fun x => if x.2.ft = n then (x.2.pages.filter fun (p : Page) => p.loc == .far).length else 0) s.ldg.folios

/-- The registers of partner number n: offset o within its 64 bytes. -/
def State.partnerView (s : State) (n o : Nat) : Option Nat :=
  let p := s.partner n
  if o = 0 then some p.info
  else if o = 4 then some (s.ldg.folios.filter fun x => x.2.state.live && s.isBound x.1 n).length
  else if o = 8 then some (s.refs n)
  else if o = 0xC then some p.caps.maxStreams
  else if o = 0x10 then some p.caps.ftPages
  else if o = 0x14 then some (s.ftUsed n)
  else if o = 0x18 then some p.caps.maxBody
  else if o = 0x30 then some p.tAttach
  else if o = 0x38 then some p.gaps
  else (elem 0x20 4 4 o).map fun k => wordOfBytes k p.unitId

/-- Registers of a Spine port that show other state: offset o within its 256 bytes. -/
def State.portView (s : State) (p o : Nat) : Option Nat :=
  if o = 8 then some ((s.port p).locked % 256 + 256 * ((s.port p).failed % 256))
  else if o = 0x30 then some (s.port p).txCount
  else if o = 0x38 then some (s.port p).rxCount
  else none

/-- Partner numbers in a state. -/
def State.countState (s : State) (f : PState → Bool) : Nat := ((List.range 48).filter fun n => f (s.partner n).state).length

/-- Registers of the Spine and the partners that show other state. -/
def State.spnView (s : State) (off : Nat) : Option Nat :=
  let o := off - 0x1100000
  if o < 0x1000 then s.portView (o / 256) (o % 256)
  else if o < 0x1C00 then s.partnerView ((o - 0x1000) / 64) (o % 64)
  else if off = R.SPN_PARTNER_SUMMARY then some (s.countState PState.on + 256 * s.countState (fun x => x == .cooling))
  else if off = R.SPN_KV_HOLD_CAP then some s.holdCap
  else if off = R.SPN_KV_HOLD_USED then some s.holdUsed
  else (elem (R.SPN_UNIT_ID 0) 4 4 off).map fun k => wordOfBytes k unitIdBytes

/-! ### Chain, faults, power, store -/

/-- COL_UNSEALED_LAST: the last Colophon of the chain while an unsealed range is open (R344). -/
def State.unsealedLast (s : State) : Nat := if s.col.unsealedFirst = 0 then 0 else s.headSeq

/-- Registers of the chain that show other state. -/
def State.colView (s : State) (off : Nat) : Option Nat :=
  if off = R.COL_USED then some (s.headSeq - s.col.tail)
  else if off = R.COL_HEAD_SEQ_LO then some s.headSeq
  else if off = R.COL_TAIL_SEQ_LO then some s.col.tail
  else if off = R.COL_LAST_SEAL_LO then some s.col.lastSeal
  else if off = R.COL_UNSEALED_FIRST_LO then some s.col.unsealedFirst
  else if off = R.COL_UNSEALED_LAST_LO then some s.unsealedLast
  else if off = R.COL_KEY_EPOCH then some s.col.keyEpoch
  else match elem (R.COL_CHAIN_ID 0) 4 4 off with
  | some k => some (wordOfBytes k s.col.chainId)
  | none => match elem (R.COL_PUBKEY 0) 24 4 off with
  | some k => some (wordOfBytes k s.col.pubKey)
  | none => (elem (R.COL_ENDORSE 0) 64 4 off).map fun k => wordOfBytes k s.col.endorse

/-- FLT_PENDING and FLT_CENSUS_NEXT (R392), and PENDING of FLT_STATUS. -/
def State.fltView (s : State) (off : Nat) : Option Nat :=
  if off = R.FLT_STATUS then some (s.rd off + b2n !s.pendingFaults.isEmpty)
  else if off = R.FLT_PENDING then some s.pendingFaults.length
  else if off = R.FLT_CENSUS_NEXT then some (match s.pendingFaults with | n :: _ => n + 2 ^ 31 | [] => 0)
  else none

/-- The bindings whose domains are kept on: in force, or loaded (R438). -/
def State.onBindings (s : State) : List (Binding × List QModel) :=
  (match s.bnd.cur with | some b => [(b, s.bnd.models)] | none => []) ++
    (match s.bnd.loaded with | some l => [(l.binding, l.models)] | none => [])

/-- A model memory domain of 56 MiB holds part of a slot in use. -/
def State.memDomain (s : State) (q j : Nat) : Bool :=
  let lo := j * 56 * 2 ^ 20
  s.onBindings.any fun b => match b.2[q]? with
    | some m => m.used.any fun p => p.1.memOff < lo + 56 * 2 ^ 20 && lo < p.1.memOff + p.1.memBytes
    | none => false

/-- A domain of eight AMA banks has a bank in a table. -/
def State.bankDomain (s : State) (q j : Nat) : Bool :=
  s.onBindings.any fun b => b.1.banks.any fun x => x.2.inTable && x.1 / 32 == q && x.1 % 32 / 8 == j

/-- PS1 or a thermal stop has switched engine groups, analogue supplies, Exact Lanes and the TSU off (R439, R445). -/
def State.coreOff (s : State) : Bool := decide (1 ≤ s.fld F.PWR_STATE_CURRENT) || s.flag F.PWR_STATE_THERM_STOP

/-- Domain b is on (R437, R438, Table 17.5). Before the start ends every domain is on, as the reset value says. In PS2 the
domains that hold what PS2 keeps stay on; in lockdown the core is off (R449). -/
def State.domainOn (s : State) (b : Nat) : Bool :=
  let ps := s.fld F.PWR_STATE_CURRENT
  let q := b / 19
  let r := b % 19
  if 3 ≤ ps then false
  else if s.lockdown && (b < 152 || b == 157 || b == 158 || (159 ≤ b && b ≤ 182) || b == 185) then false
  else if !s.flag F.SHL_BOOT_STATUS_READY then decide (b < 196)
  else if b < 152 then
    if r ≤ 8 || r == 13 then !s.coreOff
    else if r ≤ 12 then s.bankDomain q (r - 9)
    else if r ≤ 17 then s.memDomain q (r - 14)
    else decide (ps < 2)
  else if b == 157 || b == 158 then !s.coreOff
  else if 159 ≤ b && b ≤ 166 then decide (ps < 2)
  else if 167 ≤ b && b ≤ 182 then decide (ps < 2) && s.flag (F.SPN_PORT_CTRL_ENABLE (b - 167))
  else if b == 185 then decide (ps < 2) && s.flag F.SHL_CASCADE_CTRL_ENABLE
  else if b == 187 then decide (ps < 2)
  else decide (b < 196)

/-- PWR_DOMAIN_n. -/
def State.pwrDomain (s : State) (n : Nat) : Nat :=
  sumOf (fun i => if s.domainOn (32 * n + i) then 2 ^ i else 0) (List.range 32)

/-- The manifest in block 16, when its header is one. -/
def State.storedImage (s : State) : Option FwImage :=
  let c := s.nvm.block 16
  if fwFormOk c then some (fwImage c 0) else none

/-- Registers of the store and the loader that show other state. -/
def State.nvmView (s : State) (off : Nat) : Option Nat :=
  if off = R.NVM_WEAR then some (s.nvm.spares + 256 * (s.nvm.retired % 256) + 65536 * b2n s.nvm.readOnly)
  else if off = R.NVM_MAX_ERASE then some (s.nvm.erases.foldl (fun m x => max m x.2) 0)
  else if off = R.EPD_CURSOR then some s.epd.journal.cursor
  else if off = R.EPD_CONF_VERSION then some s.epd.conf
  else if off = R.EPD_NVM_VERSION then some ((s.storedImage.map (·.version)).getD 0)
  else if off = R.EPD_SECVER then
    some (s.epd.fuses + 256 * b2n s.epd.terminal + 65536 * (s.storedImage.map (·.secVersion)).getD 0)
  else if off = R.EPD_ABI then some Config.epdAbi.toNat
  else if off = R.EPD_SETTINGS then
    some (s.setFormat + 65536 * (if s.flag F.EPD_STATE_DUAL then s.epd.confFormat else 0))
  else none

/-! ### MSI-X as the host reads it (R457, R472) -/

/-- Word i of a table entry: address, address, data, vector control. -/
def MsixEnt.word (e : MsixEnt) (i : Nat) : Nat :=
  if i = 0 then e.addr % 2 ^ 32 else if i = 1 then e.addr / 2 ^ 32 else if i = 2 then e.data else b2n e.masked

/-- The table and the pending bits of function f: offsets from the table's and the PBA's start, n vectors. -/
def State.msixTable (s : State) (f o : Nat) : Nat := (s.msixEnt (msixKey f (o / 16))).word (o % 16 / 4)
def State.msixPba (s : State) (f n o : Nat) : Nat :=
  sumOf (fun i => if 8 * o + i < n && (s.msixEnt (msixKey f (8 * o + i))).pending then 2 ^ i else 0) (List.range 32)

/-! ### BAR 0 and BAR 2 -/

/-- What a register shows of other state, by block (Table 18.10). -/
def State.view? (s : State) (off : Nat) : Option Nat :=
  let b := off / 0x100000
  if b = 0 then s.shlView off
  else if b = 1 then s.dklView off
  else if b = 2 then s.ldgView off
  else if b = 3 then s.admView off
  else if b = 4 then s.pvcView off
  else if 8 ≤ b && b ≤ 15 then s.quireView (b - 8) (off % 0x100000)
  else if b = 16 then s.tsuView off
  else if b = 17 then s.spnView off
  else if b = 18 then s.colView off
  else if b = 19 then s.fltView off
  else if b = 20 then (elem 0x1400010 4 4 off).map s.pwrDomain
  else if b = 21 then if off = R.SEC_TAMPER_TICK_LO then some s.sec.tick else none
  else if b = 22 then s.nvmView off
  else if off = R.HIF_DMA_FAULT_ADDR_LO then some (s.rd off + 2 ^ 32 * s.hif.faultHi)
  else if off = R.HIF_INT_STATUS then some s.intStatus
  else if 0x1880000 ≤ off && off < 0x1884000 then some (s.msixTable 0 (off - 0x1880000))
  else if 0x1890000 ≤ off && off < 0x1890080 then some (s.msixPba 0 1024 (off - 0x1890000))
  else none

/-- A register of PF BAR 0 as a 32-bit read gives it; write-only fields hold 0, and an offset that no chapter assigns
reads as 0 (R457). -/
def State.readReg (s : State) (off : Nat) : Nat := ((s.view? off).getD (s.rd off)) % 2 ^ 32

/-- Offsets of the low halves whose read latches the register after them. -/
def loWhole : List Nat :=
  [R.SHL_AMA_VER_LO, R.SHL_BIND_FAULT_ADDR_LO, R.DKL_TIME_LO, R.ADM_WAIT_IN_SUM_LO, R.ADM_WAIT_OUT_SUM_LO, R.COL_HEAD_SEQ_LO,
   R.COL_TAIL_SEQ_LO, R.COL_LAST_SEAL_LO, R.COL_UNSEALED_FIRST_LO, R.COL_UNSEALED_LAST_LO, R.SEC_TAMPER_TICK_LO,
   R.HIF_DMA_FAULT_ADDR_LO]

/-- A read of this low half latches its high half. -/
def latches (off : Nat) : Bool :=
  loWhole.contains off ||
    (let b := off / 0x100000
     let o := off % 0x100000
     if 8 ≤ b && b ≤ 15 then [0x10080, 0x30288, 0x302A8, 0x30290, 0x30298].contains o
     else if b = 17 then
       if o < 0x1000 then o % 256 == 0x30 || o % 256 == 0x38 else decide (o < 0x1C00) && o % 64 == 0x30
     else false)

/-- A read of LO latches HI; COL_HEAD_SEQ_LO also latches the head (R35, R346). -/
def State.latchHi (off : Nat) (s : State) : State :=
  if latches off then
    let v := (s.view? off).getD 0
    let s := if off = R.COL_HEAD_SEQ_LO then s.wrWords (R.COL_HEAD_DIGEST 0) 12 (s.headAt s.headSeq) else s
    s.wr (off + 4) (v / 2 ^ 32)
  else s

/-- What function fn reads at an offset of its BAR 0, and the PF offset that was read (R461). -/
def State.bar0Read (s : State) (fn off : Nat) : Nat × Option Nat :=
  if fn = 0 then (s.readReg off, some off)
  else if off = 0 then (fn, none)
  else if off = 4 then (s.rd (R.HIF_VF_TENANTS fn), none)
  else if 0x10000 ≤ off && off < 0x10200 then (s.msixTable fn (off - 0x10000), none)
  else if 0x18000 ≤ off && off < 0x18004 then (s.msixPba fn 32 (off - 0x18000), none)
  else match s.vfMirror fn off with
    | some o => (s.readReg o, some o)
    | none => (0, none)

/-- READ_LO_LATCH_HI: a 32-bit read of function fn at an aligned offset of its BAR 0, with the latch of a high half
that the register's Meaning column names (R35, R458). -/
def doReadLoLatchHi (fn off : Nat) (s : State) : State :=
  let off := off / 4 * 4
  let r := s.bar0Read fn off
  let s := s.answer 0 off (le 4 r.1)
  match r.2 with
  | some o => s.latchHi o
  | none => s

/-- The folio that BAR 2 shows at an offset below 0x0200_0000 (R69, R460). -/
def State.bar2Folio (s : State) (off : Nat) : Bytes := s.folioBytes (off / 512)

end Sys2Proof.Machine
end

