-- ==== Sys2Proof/Machine/HostCmds.lean ====
section
/-!
DEFINITION. The host interface's own commands (chapter 18): DMA windows, queue pairs and their commands, resets of a virtual
function, D-states; the I3C sideband (R475 to R478); the commit of cancels with the completion of a queue's cancel.
-/
namespace Sys2Proof.Machine

/-! ### DMA windows (R463) -/

/-- Function fn may write the entries of an owner (R461). -/
def ownsFor (fn owner : Nat) : Bool := fn == 0 || fn == owner

/-- WIN_ENABLE: HIF_WIN_w_CTRL is written with ENABLE 1. -/
def doWinEnable (fn w v : Nat) (s : State) : State :=
  if !ownsFor fn (s.fld (F.HIF_WIN_CTRL_OWNER w)) then s
  else
    let s := s.writeFields fn (R.HIF_WIN_CTRL w) v
    if !s.flag (F.HIF_WIN_CTRL_BUSY w) && s.winSize w != 0 && s.winBase w + s.winSize w ≤ 2 ^ 64 then
      s.setFld (F.HIF_WIN_CTRL_ENABLE w) 1
    else s

/-- WIN_DISABLE: HIF_WIN_w_CTRL is written with ENABLE 0; `busy`: a transfer that began in the window still runs. -/
def doWinDisable (fn w v : Nat) (busy : Bool) (s : State) : State :=
  if !ownsFor fn (s.fld (F.HIF_WIN_CTRL_OWNER w)) then s
  else
    let was := s.flag (F.HIF_WIN_CTRL_ENABLE w)
    let s := s.writeFields fn (R.HIF_WIN_CTRL w) v
    if was then (s.setFld (F.HIF_WIN_CTRL_ENABLE w) 0).setFld (F.HIF_WIN_CTRL_BUSY w) (b2n busy) else s

/-- WIN_DRAINED. -/
def doWinDrained (w : Nat) (s : State) : State :=
  if s.flag (F.HIF_WIN_CTRL_ENABLE w) then s else s.setFld (F.HIF_WIN_CTRL_BUSY w) 0

/-! ### Queue pairs (R466 to R471) -/

/-- Queue pair q. -/
def State.qp (s : State) (q : Nat) : Qp := Sparse.get (fun _ => .zero) s.hif.qps q

/-- Change queue pair q. -/
def State.updQp (q : Nat) (f : Qp → Qp) (s : State) : State :=
  { s with hif := { s.hif with qps := Sparse.upd (fun _ => .zero) s.hif.qps q f } }

/-- The owner, the window and the ring sizes in entries of queue pair q. -/
def State.qpOwner (s : State) (q : Nat) : Nat := s.fld (F.HIF_QP_CTRL_OWNER q)
def State.qpWin (s : State) (q : Nat) : Nat := s.fld (F.HIF_QP_CTRL_WINDOW q)
def State.sqSize (s : State) (q : Nat) : Nat := 2 ^ s.fld (F.HIF_QP_CTRL_SQ_LOG2 q)
def State.cqSize (s : State) (q : Nat) : Nat := 2 ^ s.fld (F.HIF_QP_CTRL_CQ_LOG2 q)

/-- The completion ring is full (R470). -/
def State.cqFull (s : State) (q : Nat) : Bool := ((s.qp q).cqTail + 1) % s.cqSize q == (s.qp q).cqHead

/-- A completion goes to the completion tail, with its phase, and the tail moves on; then the queue's vector is sent (R465,
R470, R473). In a window that refuses the write the completion is lost. -/
def State.writeCompl (q : Nat) (bs : Bytes) (s : State) : State :=
  let p := s.qp q
  let off := s.rd64 (R.HIF_QP_CQ_BASE_LO q) (R.HIF_QP_CQ_BASE_HI q) + 16 * p.cqTail
  let r := s.dmaCheck (s.qpWin q) (s.qpOwner q) true off 16
  let tail := (p.cqTail + 1) % s.cqSize q
  let s := r.2.updQp q fun p => { p with cqTail := tail, phase := if tail = 0 then !p.phase else p.phase }
  if r.1 ≠ 0 then s
  else
    let s := s.dmaWrite (s.qpWin q) off (slice 0 5 bs ++ [BitVec.ofNat 8 (b2n p.phase)] ++ slice 6 10 bs)
    if s.flag (F.HIF_QP_CTRL_IRQ_EN q) then
      s.causeMsix (msixKey (s.qpOwner q) (s.fld (F.HIF_QP_VECTOR_VECTOR q))) (s.fld (F.HIF_QP_VECTOR_MOD_US q))
    else s

/-- Completions that wait are written while the ring has room (R470). -/
def State.drainPosts (q : Nat) : List Bytes → State → State
  | [], s => s.updQp q fun p => { p with posts := [] }
  | b :: bs, s =>
    if s.cqFull q then s.updQp q fun p => { p with posts := b :: bs } else State.drainPosts q bs (s.writeCompl q b)

/-- A command of queue pair q completes (Table 18.8). A queue pair disabled meanwhile posts where there is room and is then no
longer active (R471). -/
def State.complete (q cid status data : Nat) (s : State) : State :=
  let s := s.updQp q fun p => { p with running := none }
  let bs := le 2 cid ++ le 2 (s.qp q).sqHead ++ le 1 status ++ zeros 3 ++ le 8 data
  if s.flag (F.HIF_QP_CTRL_ENABLE q) then s.drainPosts q ((s.qp q).posts ++ [bs])
  else
    let s := if s.cqFull q then s else s.writeCompl q bs
    s.setFld (F.HIF_QP_STATUS_ACTIVE q) 0

/-- The status of an enable (R466): 0, 0x15 or 0x10, with what a BOUNDARY rejection records. -/
def State.qpCheck (q : Nat) (s : State) : Nat × State :=
  let o := s.qpOwner q
  let w := s.qpWin q
  let sl := s.fld (F.HIF_QP_CTRL_SQ_LOG2 q)
  let cl := s.fld (F.HIF_QP_CTRL_CQ_LOG2 q)
  let sb := s.rd64 (R.HIF_QP_SQ_BASE_LO q) (R.HIF_QP_SQ_BASE_HI q)
  let cb := s.rd64 (R.HIF_QP_CQ_BASE_LO q) (R.HIF_QP_CQ_BASE_HI q)
  if !(4 ≤ sl && sl ≤ 12 && 4 ≤ cl && cl ≤ 12 && sl ≤ cl) || (if o = 0 then 1024 else 32) ≤ s.fld (F.HIF_QP_VECTOR_VECTOR q) ||
      !s.winPermits w o false || !s.winPermits w o true || sb % 64 != 0 || cb % 16 != 0 then (0x15, s)
  else
    let r := s.dmaCheck w o false sb (64 * 2 ^ sl)
    if r.1 ≠ 0 then r else r.2.dmaCheck w o true cb (16 * 2 ^ cl)

/-- A queue pair starts: heads and tails 0, phase 1 (R466). -/
def State.qpStart (q : Nat) (s : State) : State :=
  let s := { s with hif := { s.hif with qps := Sparse.set (fun _ => .zero) s.hif.qps q .zero } }
  let s := ((s.setFld (F.HIF_QP_CTRL_ENABLE q) 1).setFld (F.HIF_QP_STATUS_ACTIVE q) 1).setFld (F.HIF_QP_STATUS_ERROR q) 0
  ((s.setFld (F.HIF_QP_STATUS_SQ_HEAD q) 0).wr (R.HIF_QP_SQ_TAIL q) 0).wr (R.HIF_QP_CQ_HEAD q) 0

/-- QP_ENABLE: HIF_QP_q_CTRL is written with ENABLE 1. -/
def doQpEnable (fn q v : Nat) (s : State) : State :=
  if !ownsFor fn (s.qpOwner q) then s
  else
    let was := s.flag (F.HIF_QP_CTRL_ENABLE q)
    let s := s.writeFields fn (R.HIF_QP_CTRL q) v
    if was then s
    else
      let r := s.qpCheck q
      let s := r.2.setFld (F.HIF_QP_STATUS_RESULT q) r.1
      if r.1 = 0 then s.qpStart q else s

/-- A queue pair is disabled: completions that wait for room are discarded, and it is active no longer once its command has
completed (R471). -/
def State.qpStop (q : Nat) (s : State) : State :=
  let s := (s.setFld (F.HIF_QP_CTRL_ENABLE q) 0).updQp q fun p => { p with posts := [] }
  if (s.qp q).running.isNone then s.setFld (F.HIF_QP_STATUS_ACTIVE q) 0 else s

/-- QP_DISABLE: HIF_QP_q_CTRL is written with ENABLE 0. -/
def doQpDisable (fn q v : Nat) (s : State) : State :=
  if !ownsFor fn (s.qpOwner q) then s else (s.writeFields fn (R.HIF_QP_CTRL q) v).qpStop q

/-- A doorbell value out of range stops the queue pair (R467). -/
def State.qpError (q : Nat) (s : State) : State :=
  ((s.setFld (F.HIF_QP_STATUS_ACTIVE q) 0).setFld (F.HIF_QP_STATUS_ERROR q) 1).see F.HIF_STATUS_QP_ERR_SEEN

/-- QP_SQ_TAIL_WRITE. -/
def doQpSqTailWrite (fn q v : Nat) (s : State) : State :=
  let v := v % 2 ^ 16
  if !ownsFor fn (s.qpOwner q) || !s.flag (F.HIF_QP_CTRL_ENABLE q) then s
  else if s.sqSize q ≤ v then s.qpError q
  else (s.wr (R.HIF_QP_SQ_TAIL q) v).updQp q fun p => { p with sqTail := v }

/-- QP_CQ_HEAD_WRITE: completions that wait are posted into the room it frees (R470). -/
def doQpCqHeadWrite (fn q v : Nat) (s : State) : State :=
  let v := v % 2 ^ 16
  if !ownsFor fn (s.qpOwner q) || !s.flag (F.HIF_QP_CTRL_ENABLE q) then s
  else if s.cqSize q ≤ v then s.qpError q
  else
    let s := (s.wr (R.HIF_QP_CQ_HEAD q) v).updQp q fun p => { p with cqHead := v }
    if s.flag (F.HIF_QP_STATUS_ACTIVE q) then s.drainPosts q (s.qp q).posts else s

/-! ### Queue commands (R468, R469) -/

/-- The queue pair can fetch its next entry (R467, R468, R470, R471). -/
def State.qpReady (s : State) (q : Nat) : Bool :=
  let p := s.qp q
  s.flag (F.HIF_QP_CTRL_ENABLE q) && s.flag (F.HIF_QP_STATUS_ACTIVE q) && p.sqHead != p.sqTail && p.running.isNone && p.posts.isEmpty

/-- The head entry has been fetched. -/
def State.qpFetched (q : Nat) (s : State) : State :=
  let h := ((s.qp q).sqHead + 1) % s.sqSize q
  (s.updQp q fun p => { p with sqHead := h }).setFld (F.HIF_QP_STATUS_SQ_HEAD q) h

/-- A non-zero reserved field of a submission entry (Table 18.6). -/
def sqeReserved (e : Bytes) : Bool :=
  let op := fieldAt 0 1 e
  fieldAt 1 1 e != 0 || fieldAt 4 4 e != 0 || fieldAt 0xB 1 e != 0 || fieldAt 0xC 4 e != 0 || !(slice 0x18 40 e).all (· == 0) ||
    (!(op == 3 || op == 4) && fieldAt 0x10 8 e != 0)

/-- The folio of an entry lies outside the owner's tenants (R462, R469). -/
def State.foreign (s : State) (q n : Nat) : Bool :=
  let v := s.qpOwner q
  let f := s.fld (F.HIF_VF_TENANTS_FIRST v)
  v != 0 && !(f ≤ (s.folio n).tenant && (s.folio n).tenant < f + s.fld (F.HIF_VF_TENANTS_COUNT v))

/-- The status of a queue's data transfer of n bytes to the host at OFFSET (R469 step 2). -/
def State.sqeDma (q n : Nat) (e : Bytes) (s : State) : Nat × State :=
  let o := fieldAt 0x10 8 e
  if o % 64 ≠ 0 then (0x15, s) else s.dmaCheck (s.qpWin q) (s.qpOwner q) true o n

/-- The handle of an entry. -/
def sqeHandle (e : Bytes) : Handle := { folio := BitVec.ofNat 16 (fieldAt 8 2 e), gen := BitVec.ofNat 8 (fieldAt 0xA 1 e) }

/-- The head entry of queue pair q is fetched and, where its opcode passes `mine`, run by `f`; a fetch that ends in an error
moves nothing but HIF_STATUS (R465). -/
def State.sqe (q : Nat) (inp : DmaIn) (mine : Nat → Bool) (f : Bytes → Nat → State → State) (s : State) : State :=
  if !s.qpReady q then s
  else
    let off := s.rd64 (R.HIF_QP_SQ_BASE_LO q) (R.HIF_QP_SQ_BASE_HI q) + 64 * (s.qp q).sqHead
    let r := s.dmaCheck (s.qpWin q) (s.qpOwner q) false off 64
    if r.1 ≠ 0 then r.2
    else match inp with
      | .error => r.2.dmaErr
      | .ok e =>
        let e := padTo 64 e
        if !mine (fieldAt 0 1 e) then s
        else
          let s := r.2.qpFetched q
          let cid := fieldAt 2 2 e
          if sqeReserved e then s.complete q cid 0x14 0 else f e cid s

/-- QP_NOP: opcode 0x00 completes with no effect; a reserved opcode is UNSUPPORTED (R469 step 1). -/
def doQpNop (q : Nat) (inp : DmaIn) : State → State :=
  State.sqe q inp (fun op => op == 0 || 6 ≤ op) fun e cid s => s.complete q cid (if fieldAt 0 1 e = 0 then 0 else 0x14) 0

/-- T_cack, which a refusal with 0x21 repeats while the folio is CANCELLED (R84). -/
def State.cackOf (s : State) (h : Handle) (st : Nat) : Nat :=
  if st = 0 then (s.folio h.idx).tCack else if st = 0x21 then (s.cancelEcho h).2 else 0

/-- QP_FOLIO_CANCEL: the cancel is asked for; its commit completes it (R80, R469). -/
def doQpFolioCancel (q : Nat) (inp : DmaIn) : State → State :=
  State.sqe q inp (· == 1) fun e cid s =>
    let h := sqeHandle e
    if s.foreign q h.idx then s.complete q cid 0x15 0
    else if s.lockdown then s.complete q cid 0x30 0
    else match s.cancelRefuse h with
      | some st => s.complete q cid st (s.cackOf h st)
      | none => (s.askCancel h (.queue q cid)).updQp q fun p => { p with running := some cid }

/-- QP_FOLIO_RELEASE. -/
def doQpFolioRelease (q : Nat) (inp : DmaIn) : State → State :=
  State.sqe q inp (· == 2) fun e cid s =>
    let h := sqeHandle e
    if s.foreign q h.idx then s.complete q cid 0x15 0
    else if s.lockdown then s.complete q cid 0x30 0
    else
      let st := s.releaseStatus h
      (s.release h).complete q cid st 0

/-- A READ command: the transfer check, the tenant, then the data to OFFSET (R469). -/
def State.sqeRead (q n : Nat) (data : Nat → State → Bytes) (e : Bytes) (cid : Nat) (s : State) : State :=
  let r := s.sqeDma q n e
  let f := (sqeHandle e).idx
  if r.1 ≠ 0 then r.2.complete q cid r.1 0
  else if s.foreign q f then s.complete q cid 0x15 0
  else if s.lockdown then s.complete q cid 0x30 0
  else (s.dmaWrite (s.qpWin q) (fieldAt 0x10 8 e) (data f s)).complete q cid 0 0

/-- QP_FOLIO_READ: 512 bytes of the folio, taken in one tick. -/
def doQpFolioRead (q : Nat) (inp : DmaIn) : State → State :=
  State.sqe q inp (· == 3) (State.sqeRead q 512 fun n s => s.folioBytes n)

/-- QP_CENSUS_READ: the 32-byte census entry. -/
def doQpCensusRead (q : Nat) (inp : DmaIn) : State → State :=
  State.sqe q inp (· == 4) (State.sqeRead q 32 fun n s => s.censusBytes n)

/-- QP_CENSUS_RETRY (R396 to R398). -/
def doQpCensusRetry (q : Nat) (inp : DmaIn) : State → State :=
  State.sqe q inp (· == 5) fun e cid s =>
    let h := sqeHandle e
    if s.foreign q h.idx then s.complete q cid 0x15 0
    else if s.lockdown then s.complete q cid 0x30 0
    else match s.retryRefuse h with
      | some st => s.complete q cid st 0
      | none =>
        let s := s.retry h.idx
        s.complete q cid 0 (s.folio h.idx).state.code

/-! ### Cancels commit (R58, R80, R81) -/

/-- A queue's cancel completes with its status and T_cack. -/
def State.cancelCompl (by_ : CancelBy) (h : Handle) (st : Nat) (s : State) : State :=
  match by_ with
  | .queue q cid => if (s.qp q).running = some cid then s.complete q cid st (s.cackOf h st) else s
  | _ => s

/-- CANCEL_COMMIT: the oldest request that has arrived and whose folio the gate has not served in this tick commits (R58,
R80, R81). -/
def doCancelCommit (s : State) : State :=
  match s.ldg.cancels.find? fun c => c.at_ ≤ s.now && !s.gateRan c.folio with
  | none => s
  | some c =>
    let h : Handle := { folio := BitVec.ofNat 16 c.folio, gen := BitVec.ofNat 8 c.gen }
    let st := (s.cancelRefuse h).getD 0
    let s := { s with ldg := { s.ldg with cancels := s.ldg.cancels.filter fun d => d != c } }
    (s.commitReq c).cancelCompl c.by_ h st

/-! ### Functions (R456, R480) -/

/-- VF_FLR: the queue pairs and windows of VF v go off, unposted completions and held messages are discarded, its MSI-X table
is reset; `busy`: windows with a transfer that still runs. -/
def doVfFlr (v : Nat) (busy : List Nat) (s : State) : State :=
  let qs := (List.range 64).filter fun q => s.qpOwner q == v
  let ws := (List.range 64).filter fun w => s.fld (F.HIF_WIN_CTRL_OWNER w) == v && s.flag (F.HIF_WIN_CTRL_ENABLE w)
  let s := qs.foldl (fun s q => (s.updQp q fun p => { p with running := none }).qpStop q) s
  let s := ws.foldl (fun s w => (s.setFld (F.HIF_WIN_CTRL_ENABLE w) 0).setFld (F.HIF_WIN_CTRL_BUSY w) (b2n (busy.contains w))) s
  let mine (k : Nat) : Bool := k / 1024 == v
  { s with hif := { s.hif with
    msix := s.hif.msix.filter fun x => !mine x.1
    modHeld := s.hif.modHeld.filter fun x => !mine x.1
    modUntil := s.hif.modUntil.filter fun x => !mine x.1
    d3 := s.hif.d3.filter fun f => f != v } }

/-- FUNCTION_D_STATE_CHANGE: a function goes to D3hot or back to D0; no work of the device changes (R456). -/
def doFunctionDStateChange (fn : Nat) (toD3 : Bool) (s : State) : State :=
  let rest := s.hif.d3.filter fun f => f != fn
  { s with hif := { s.hif with d3 := if toD3 then sortNat (fn :: rest) else rest } }

/-! ### The I3C sideband (R475 to R478) -/

/-- The provisioned ID of the target (R475). -/
def i3cPid : Nat := 0x1F5C * 2 ^ 33 + 0x0064 * 2 ^ 16 + fieldAt 0 2 unitIdBytes

/-- I3C_ADDRESS_ASSIGN: SETDASA or ENTDAA gives the target its address. -/
def doI3cAddressAssign (addr : Nat) (s : State) : State :=
  (s.setFld F.HIF_I3C_STATUS_DYN_ADDR addr).setFld F.HIF_I3C_STATUS_ASSIGNED 1

/-- The target answers private transfers: it has an address. -/
def State.i3cUp (s : State) : Bool := s.flag F.HIF_I3C_STATUS_ASSIGNED

/-- I3C_SET_INDEX. -/
def doI3cSetIndex (i : Nat) (s : State) : State := if s.i3cUp then { s with hif := { s.hif with i3cIndex := i } } else s

/-- The register that an item of Table 18.9 shows. -/
def i3cItems : List Nat :=
  [R.SHL_ID, R.SPN_UNIT_ID 0, R.SPN_UNIT_ID 1, R.SPN_UNIT_ID 2, R.SPN_UNIT_ID 3, R.SHL_BOOT_STATUS, R.PWR_STATE, R.PWR_THERM,
   R.PWR_POWER, R.DKL_RAIL, R.DKL_MARGIN, R.SEC_STATE, R.SEC_TAMPER, R.SEC_TAMPER_TICK_LO, R.SEC_TAMPER_TICK_HI, R.EPD_STATE,
   R.COL_STATUS, R.LDG_LIVE, R.DKL_STATUS]

/-- Items that carry values in PS3 and before step 5 of the cold start (R476). -/
def i3cAlways (i : Nat) : Bool := i ≤ 4 || i == 6 || (0xB ≤ i && i ≤ 0xE)

/-- Only those items carry values now. -/
def State.i3cShort (s : State) : Bool := s.fld F.PWR_STATE_CURRENT == 3 || decide (s.fld F.SHL_BOOT_STATUS_STEP < 4)

/-- Item i as a read gives it. -/
def State.i3cItem (s : State) (i : Nat) : Nat :=
  if s.i3cShort && !i3cAlways i then 0
  else if i = 0xE then s.hif.i3cLatch
  else match i3cItems[i]? with
    | some off => s.readReg off
    | none => 0

/-- `n` items from index i upward; item 0x0D latches 0x0E (R476). -/
def State.i3cRead (i : Nat) : Nat → State → Bytes × State
  | 0, s => ([], s)
  | n + 1, s =>
    let v := s.i3cItem i
    let s := if i = 0xD then { s with hif := { s.hif with i3cLatch := s.sec.tick / 2 ^ 32 } } else s
    let r := State.i3cRead (i + 1) n s
    (le 4 v ++ r.1, r.2)

/-- I3C_READ: a private read of n items. -/
def doI3cRead (n : Nat) (s : State) : State :=
  if !s.i3cUp then s
  else
    let r := s.i3cRead s.hif.i3cIndex n
    r.2.answer 0x13 s.hif.i3cIndex r.1

/-- I3C_WAKE: a private write of index 0xF0 with two bytes after it; 0x07 and 0xB0 wake PS3 (R477). -/
def doI3cWake (b1 b2 : Nat) (s : State) : State := if s.i3cUp && b1 == 0x07 && b2 == 0xB0 then s.wake else s

/-- I3C_ENEC: in-band interrupts are enabled, and the causes that wait are raised (R478). -/
def doI3cEnec (s : State) : State :=
  let held := s.hif.ibiPend
  let s := s.setFld F.HIF_I3C_STATUS_IBI_EN 1
  held.foldl (fun s c => s.raiseIbi c.1 c.2) { s with hif := { s.hif with ibiPend := [] } }

end Sys2Proof.Machine
end

