-- ==== Sys2Proof/Machine/JtagCmds.lean ====
section
/-!
DEFINITION. The boundary scan TAP (R498), what the control outputs carry, and the fixed values of the package and of
configuration space (R454, R475, R481 to R485).
-/
namespace Sys2Proof.Machine

/-- RESET_N or PERST_N is low, so that EXTEST drives the outputs (R498). -/
def Pins.inReset (p : Pins) : Bool := p.resetLow || p.perstLow

/-- EXTEST drives the outputs now. -/
def Pins.extest (p : Pins) : Bool := p.jtag == .extest && p.inReset

/-- Bit i of the VID balls (R487): the code, or cells 7 to 12 under EXTEST. -/
def Pins.vidBall (p : Pins) (i : Nat) : Bool := if p.extest then p.shifted[7 + i]?.getD false else bitOf i p.vid

/-- THERM_TRIP_N is driven low: by the part, or by a 0 in cell 6 under EXTEST (R498). -/
def Pins.tripDriven (p : Pins) : Bool := if p.extest then !(p.shifted[6]?.getD true) else p.tripLow

/-- The 13 cells as a capture takes them, cell 0 first: RESET_N, PERST_N, then WAKE_N, TAMPER_SW_N, I3C_SCL and I3C_SDA as
they stand outside, then the outputs (R498). -/
def Pins.capture (p : Pins) (inputs : List Bool) : List Bool :=
  [!p.resetLow, !p.perstLow] ++ (List.range 4).map (fun i => inputs[i]?.getD false) ++ [!p.tripDriven] ++
    (List.range 6).map p.vidBall

/-- The boundary register is captured and shifted: `cells` are the values shifted in, cell 0 first. -/
def Pins.scan (instr : JtagInstr) (inputs cells : List Bool) (p : Pins) : Pins :=
  { p with jtag := instr, captured := p.capture inputs, shifted := (List.range 13).map fun i => cells[i]?.getD false }

/-- JTAG_TAP_RESET: BYPASS is selected. -/
def doJtagTapReset (s : State) : State := { s with pins := { s.pins with jtag := .bypass } }

/-- JTAG_EXTEST: outputs are driven from the cells while RESET_N or PERST_N is low; otherwise as SAMPLE/PRELOAD (R498). -/
def doJtagExtest (inputs cells : List Bool) (s : State) : State := { s with pins := s.pins.scan .extest inputs cells }

/-- JTAG_SAMPLE_PRELOAD. -/
def doJtagSamplePreload (inputs cells : List Bool) (s : State) : State := { s with pins := s.pins.scan .sample inputs cells }

/-- The instruction that a 4-bit code selects (R498). -/
def jtagOf (code : Nat) : JtagInstr := if code = 0 then .extest else if code = 1 then .sample else .bypass

/-- JTAG_BYPASS: the code 0b1111, or any code but those of EXTEST and SAMPLE/PRELOAD. -/
def doJtagBypass (code : Nat) (s : State) : State := { s with pins := { s.pins with jtag := jtagOf code } }

/-! ### Fixed values -/

/-- The 64 bits of the Device Serial Number: bytes 0 to 7 of UNIT_ID, in byte order (R454). -/
def deviceSerial : Bytes := slice 0 8 unitIdBytes

/-- Configuration space identity of the PF (false) or a VF (true): vendor, device, revision, class code, subsystem (R454). -/
def configIds (vf : Bool) : List Nat :=
  [0x1F5C, if vf then 0x0065 else 0x0064, bitsOf 15 8 shlId, 0x120000, 0x1F5C, 0x0064]

end Sys2Proof.Machine
end

