-- ==== Sys2Proof/Machine/Run.lean ====
section
/-!
DEFINITION. How a command runs: when it reaches its block, the timebase it happens at (R14, R34, R502), and the message on
vector 0 that a new status bit leads to (R472). A command that does not reach its block changes nothing but the time.
-/
namespace Sys2Proof.Machine

/-- The timebase runs: the cold start has begun (R435). -/
def State.started (s : State) : Bool := s.fld F.SHL_BOOT_STATUS_STEP != 0

/-- The command's time becomes the present while the timebase runs. -/
def State.at_ (t : Nat) (s : State) : State := if s.started then s.advance t else s

/-- The state in which the core works: the start has ended READY, no lockdown (R449), not in PS3 (R439). -/
def State.coreUp (s : State) : Bool :=
  s.pins.powered && s.flag F.SHL_BOOT_STATUS_READY && !s.lockdown && s.fld F.PWR_STATE_CURRENT != 3

/-- A port carries messages: UP, or in a fast retrain with a message already complete (R267, R269). -/
def State.portUp (s : State) (p : Nat) : Bool := s.coreUp && (s.portState p == 3 || s.portState p == 4)

/-- A command whose block it reaches when `ok`: f, then vector 0 (R472). -/
def run (ok : State → Bool) (t : Nat) (f : State → State) (s : State) : Host.Outcome State Fault Refusal :=
  if !s.pins.powered then .next s
  else
    let s := s.at_ t
    .next (if ok s then State.settle s (f s) else s)

/-- An event of the part with power applied, in every state. -/
def runChip : Nat → (State → State) → State → Host.Outcome State Fault Refusal := run fun _ => true

/-- An event of a shell block after the start has begun, not in PS3. -/
def runLive : Nat → (State → State) → State → Host.Outcome State Fault Refusal :=
  run fun s => s.started && s.fld F.PWR_STATE_CURRENT != 3

/-- An event of the core. -/
def runCore : Nat → (State → State) → State → Host.Outcome State Fault Refusal := run State.coreUp

/-- A message on a port. -/
def runMsg (t p : Nat) : (State → State) → State → Host.Outcome State Fault Refusal := run (fun s => s.portUp p) t

/-- An event of the host link, or of the device on it. -/
def runLink : Nat → (State → State) → State → Host.Outcome State Fault Refusal := run State.hostLink

/-- An access of function fn (R456). -/
def runHost (t fn : Nat) : (State → State) → State → Host.Outcome State Fault Refusal := run (fun s => s.hostUp fn) t

/-- The cold start: the timebase runs from it on. -/
def runStart (t : Nat) (f : State → State) (s : State) : Host.Outcome State Fault Refusal :=
  if !s.pins.powered then .next s
  else
    let s := s.advance t
    .next (State.settle s (f s))

/-- What the part does when no command waits: page messages that wait for space are taken as far as there is space now (R87).
DESIGN CHOICE: the space is looked at here, and where a command of the table frees it at once. -/
def State.idle (s : State) : State :=
  if s.coreUp && !s.parts.waiting.isEmpty then State.settle s s.drainPages else s

/-- Power comes up. -/
def runAlways (_t : Nat) (f : State → State) (s : State) : Host.Outcome State Fault Refusal := .next (f s)

end Sys2Proof.Machine
end

