-- ==== Sys2Proof/Machine/ExecBoard.lean ====
section
/-!
DEFINITION. Meanings of the commands of start-up, power, security, the host interface and the pins (chapters 17 to 19).
-/
namespace Sys2Proof.Machine

/-- POWER_ON: Rails come up by the power-up sequence; VID is driven to 30 and the always-on domain runs (R489). -/
def execPowerOn (t : Nat) (s : State) : Host.Outcome State Fault Refusal :=
  runAlways t (doPowerOn) s

/-- RESET_N_LOW: RESET_N held low for 10 µs or more causes a cold reset (R430). -/
def execResetNLow (t : Nat) (ns : Nat) (s : State) : Host.Outcome State Fault Refusal :=
  runChip t (doResetNLow ns) s

/-- PERST_N_LOW: PERST_N held low for 1 µs or more causes a cold reset (R479). -/
def execPerstNLow (t : Nat) (ns : Nat) (s : State) : Host.Outcome State Fault Refusal :=
  runChip t (doPerstNLow ns) s

/-- BROWN_OUT: A fixed rail below 92 % for 20 µs causes a cold reset (R430). -/
def execBrownOut (t : Nat) (ns : Nat) (s : State) : Host.Outcome State Fault Refusal :=
  runChip t (doBrownOut ns) s

/-- COLD_START: At t0, the later rising edge of RESET_N and PERST_N, the cold start sequence runs to READY, limp mode
or a halt (R435). -/
def execColdStart (t : Nat) (c : ColdIn) (s : State) : Host.Outcome State Fault Refusal :=
  runStart t (doColdStart c) s

/-- SHL_RESET_COLD: The guarded reset command COLD begins a new power-on (R431). -/
def execShlResetCold (t : Nat) (guard : BitVec 16) (s : State) : Host.Outcome State Fault Refusal :=
  runHost t 0 (doShlResetCold guard.toNat) s

/-- SHL_RESET_WARM: The guarded reset command WARM runs a warm reset and warm start (R434). -/
def execShlResetWarm (t : Nat) (guard : BitVec 16) (w : WarmIn) (s : State) : Host.Outcome State Fault Refusal :=
  runHost t 0 (doShlResetWarm guard.toNat w) s

/-- SHL_RESET_QUIRE: The guarded reset command QUIRE resets the selected quires' supervisors and engines (R434). -/
def execShlResetQuire (t : Nat) (guard : BitVec 16) (quires : BitVec 8) (tEnd : Nat) (badJournals : List (Fin 8)) (cals : List CalIn) (s : State) : Host.Outcome State Fault Refusal :=
  runHost t 0 (doShlResetQuire guard.toNat quires.toNat tEnd badJournals cals) s

/-- SCP_WATCHDOG_EXPIRY: The SCP watchdog expires after 10 ms without service and causes a warm reset (R430). -/
def execScpWatchdogExpiry (t : Nat) (w : WarmIn) (s : State) : Host.Outcome State Fault Refusal :=
  runChip t (doScpWatchdogExpiry w) s

/-- QSV_WATCHDOG_EXPIRY: Three missed 100 µs Supervisor checks cause a quire reset (R430). -/
def execQsvWatchdogExpiry (t : Nat) (q : Fin 8) (tEnd : Nat) (badJournals : List (Fin 8)) (cals : List CalIn) (s : State) : Host.Outcome State Fault Refusal :=
  runCore t (doQsvWatchdogExpiry q.val tEnd badJournals cals) s

/-- QSV_MEMORY_ERROR: An uncorrectable error in a Quire Supervisor's memory causes a quire reset (R430). -/
def execQsvMemoryError (t : Nat) (q : Fin 8) (tEnd : Nat) (badJournals : List (Fin 8)) (cals : List CalIn) (s : State) : Host.Outcome State Fault Refusal :=
  runCore t (doQsvMemoryError q.val tEnd badJournals cals) s

/-- PCIE_HOT_RESET: A PCI Express hot reset causes a warm reset and resets the HIF fields (R479). -/
def execPcieHotReset (t : Nat) (speed : Fin 8) (width : Fin 32) (w : WarmIn) (s : State) : Host.Outcome State Fault Refusal :=
  runLink t (doPcieHotReset speed.val width.val w) s

/-- PCIE_LINK_DOWN: The PCI Express link going down causes a warm reset (R479). -/
def execPcieLinkDown (t : Nat) (speed : Fin 8) (width : Fin 32) (w : WarmIn) (s : State) : Host.Outcome State Fault Refusal :=
  runLink t (doPcieLinkDown speed.val width.val w) s

/-- PF_FLR: A Function Level Reset of the physical function causes a warm reset (R479). -/
def execPfFlr (t : Nat) (w : WarmIn) (s : State) : Host.Outcome State Fault Refusal :=
  runLink t (doPfFlr w) s

/-- VF_FLR: A Function Level Reset of a VF disables its queue pairs and windows and resets its MSI-X table (R480). -/
def execVfFlr (t : Nat) (vf : Fin 32) (busy : List Nat) (s : State) : Host.Outcome State Fault Refusal :=
  runLink t (doVfFlr vf.val busy) s

/-- PWR_STATE_REQUEST: A write of PWR_STATE_CMD requests a power state and starts the transitions through the states
between, or is refused (R440). -/
def execPwrStateRequest (t : Nat) (target : Fin 4) (s : State) : Host.Outcome State Fault Refusal :=
  runHost t 0 (doPwrStateRequest target.val) s

/-- PWR_TRANSITION_DONE: A power state transition completes and PWR_STATE shows the new state (R439). -/
def execPwrTransitionDone (t : Nat) (env : PwrIn) (s : State) : Host.Outcome State Fault Refusal :=
  runChip t (doPwrTransitionDone env) s

/-- WAKE_N_LOW: WAKE_N held low for 1 µs or more in PS3 starts the exit to PS0 with a reload and restore (R443). -/
def execWakeNLow (t : Nat) (ns : Nat) (s : State) : Host.Outcome State Fault Refusal :=
  runChip t (doWakeNLow ns) s

/-- THERMAL_READING: The hottest junction reading crosses WARN or STOP, which sets WARN_SEEN or starts a thermal stop
(R445). -/
def execThermalReading (t : Nat) (tj : BitVec 8) (sensor : Fin 40) (s : State) : Host.Outcome State Fault Refusal :=
  runLive t (doThermalReading tj.toNat sensor.val) s

/-- THERMAL_RESUME: Every sensor has read at or below RESUME for 10 ms, so the core restarts and admission resumes
(R445). -/
def execThermalResume (t : Nat) (cals : List CalIn) (s : State) : Host.Outcome State Fault Refusal :=
  runLive t (doThermalResume cals) s

/-- CRITICAL_TEMP: The always-on comparator reads 125 °C or more, so THERM_TRIP_N is driven and a cold reset follows
(R445). -/
def execCriticalTemp (t : Nat) (s : State) : Host.Outcome State Fault Refusal :=
  runChip t (doCriticalTemp) s

/-- TAMPER_EVENT: A tamper sensor fires; the volatile key is zeroised, class A kills the sealed key, and lockdown
follows (R447). -/
def execTamperEvent (t : Nat) (code : BitVec 8) (active : Bool) (s : State) : Host.Outcome State Fault Refusal :=
  runChip t (doTamperEvent code.toNat active) s

/-- LOCKDOWN_ENTRY: In the tick after the latest admitted T_rel, every port is disabled, every partner lost and every
live folio orphaned (R448). -/
def execLockdownEntry (t : Nat) (s : State) : Host.Outcome State Fault Refusal :=
  runChip t (doLockdownEntry) s

/-- SEC_PROV_BEGIN: The command BEGIN draws a new key pair and produces the endorsement request and its attestation
(R453). -/
def execSecProvBegin (t : Nat) (draw : BitVec 512) (attest : Bytes) (s : State) : Host.Outcome State Fault Refusal :=
  runHost t 0 (doSecProvBegin draw.toNat attest) s

/-- SEC_PROV_COMMIT: The command COMMIT verifies the endorsement signature and writes the new key record (R453). -/
def execSecProvCommit (t : Nat) (nonce : Bytes) (bad : NvmBad) (s : State) : Host.Outcome State Fault Refusal :=
  runHost t 0 (doSecProvCommit nonce bad) s

/-- SEC_PROV_ABORT: The command ABORT zeroises the new key and writes nothing (R453). -/
def execSecProvAbort (t : Nat) (s : State) : Host.Outcome State Fault Refusal :=
  runHost t 0 (doSecProvAbort) s

/-- WIN_ENABLE: Writing ENABLE 1 to a DMA window enables it when SIZE and BASE are valid and BUSY is 0 (R463). -/
def execWinEnable (t : Nat) (fn : Fin 32) (w : Fin 64) (v : BitVec 32) (s : State) : Host.Outcome State Fault Refusal :=
  runHost t fn.val (doWinEnable fn.val w.val v.toNat) s

/-- WIN_DISABLE: Writing ENABLE 0 to a DMA window stops new transfers at once (R463). -/
def execWinDisable (t : Nat) (fn : Fin 32) (w : Fin 64) (v : BitVec 32) (busy : Bool) (s : State) : Host.Outcome State Fault Refusal :=
  runHost t fn.val (doWinDisable fn.val w.val v.toNat busy) s

/-- WIN_DRAINED: The last transfer that had begun in a disabled window ends and BUSY clears (R463). -/
def execWinDrained (t : Nat) (w : Fin 64) (s : State) : Host.Outcome State Fault Refusal :=
  runLink t (doWinDrained w.val) s

/-- QP_ENABLE: Writing ENABLE 1 to a queue pair checks its configuration and resets its heads, tails and phase (R466).
-/
def execQpEnable (t : Nat) (fn : Fin 32) (q : Fin 64) (v : BitVec 32) (s : State) : Host.Outcome State Fault Refusal :=
  runHost t fn.val (doQpEnable fn.val q.val v.toNat) s

/-- QP_DISABLE: Writing ENABLE 0 stops fetching; the running command completes and ACTIVE clears (R471). -/
def execQpDisable (t : Nat) (fn : Fin 32) (q : Fin 64) (v : BitVec 32) (s : State) : Host.Outcome State Fault Refusal :=
  runHost t fn.val (doQpDisable fn.val q.val v.toNat) s

/-- QP_SQ_TAIL_WRITE: A submission tail doorbell makes new entries available, or stops the queue pair when out of
range (R467). -/
def execQpSqTailWrite (t : Nat) (fn : Fin 32) (q : Fin 64) (v : BitVec 32) (s : State) : Host.Outcome State Fault Refusal :=
  runHost t fn.val (doQpSqTailWrite fn.val q.val v.toNat) s

/-- QP_CQ_HEAD_WRITE: A completion head doorbell frees completion entries, so a stalled queue pair resumes posting
(R470). -/
def execQpCqHeadWrite (t : Nat) (fn : Fin 32) (q : Fin 64) (v : BitVec 32) (s : State) : Host.Outcome State Fault Refusal :=
  runHost t fn.val (doQpCqHeadWrite fn.val q.val v.toNat) s

/-- QP_NOP: The queue command NOP is checked and completes with no effect (R469). -/
def execQpNop (t : Nat) (q : Fin 64) (inp : DmaIn) (s : State) : Host.Outcome State Fault Refusal :=
  runLink t (doQpNop q.val inp) s

/-- QP_FOLIO_CANCEL: The queue command FOLIO_CANCEL cancels a folio as LDG_FOLIO_CMD CANCEL does, returning T_cack
(R469). -/
def execQpFolioCancel (t : Nat) (q : Fin 64) (inp : DmaIn) (s : State) : Host.Outcome State Fault Refusal :=
  runLink t (doQpFolioCancel q.val inp) s

/-- QP_FOLIO_RELEASE: The queue command FOLIO_RELEASE frees an ended folio as RELEASE does (R469). -/
def execQpFolioRelease (t : Nat) (q : Fin 64) (inp : DmaIn) (s : State) : Host.Outcome State Fault Refusal :=
  runLink t (doQpFolioRelease q.val inp) s

/-- QP_FOLIO_READ: The queue command FOLIO_READ writes a coherent 512-byte folio copy into the window (R468). -/
def execQpFolioRead (t : Nat) (q : Fin 64) (inp : DmaIn) (s : State) : Host.Outcome State Fault Refusal :=
  runLink t (doQpFolioRead q.val inp) s

/-- QP_CENSUS_READ: The queue command CENSUS_READ writes a 32-byte census entry into the window (R469). -/
def execQpCensusRead (t : Nat) (q : Fin 64) (inp : DmaIn) (s : State) : Host.Outcome State Fault Refusal :=
  runLink t (doQpCensusRead q.val inp) s

/-- QP_CENSUS_RETRY: The queue command CENSUS_RETRY retries a FAULTED folio as FLT_CENSUS_CMD RETRY does (R469). -/
def execQpCensusRetry (t : Nat) (q : Fin 64) (inp : DmaIn) (s : State) : Host.Outcome State Fault Refusal :=
  runLink t (doQpCensusRetry q.val inp) s

/-- MSIX_MOD_INTERVAL_END: A moderation interval ends, and the causes that fell inside it are sent as one message
(R474). -/
def execMsixModIntervalEnd (t : Nat) (fn : Fin 32) (vec : Fin 1024) (s : State) : Host.Outcome State Fault Refusal :=
  runLink t (doMsixModIntervalEnd fn.val vec.val) s

/-- I3C_ADDRESS_ASSIGN: SETDASA or ENTDAA gives the I3C target its address (R475). -/
def execI3cAddressAssign (t : Nat) (addr : BitVec 7) (s : State) : Host.Outcome State Fault Refusal :=
  runChip t (doI3cAddressAssign addr.toNat) s

/-- I3C_SET_INDEX: A one-byte I3C private write sets the item index (R476). -/
def execI3cSetIndex (t : Nat) (index : BitVec 8) (s : State) : Host.Outcome State Fault Refusal :=
  runChip t (doI3cSetIndex index.toNat) s

/-- I3C_READ: An I3C private read returns items from the index upward, and index 0x0D latches 0x0E (R476). -/
def execI3cRead (t : Nat) (count : Fin 257) (s : State) : Host.Outcome State Fault Refusal :=
  runChip t (doI3cRead count.val) s

/-- I3C_WAKE: The I3C private write WAKE in PS3 starts the exit to PS0 (R477). -/
def execI3cWake (t : Nat) (b1 : BitVec 8) (b2 : BitVec 8) (s : State) : Host.Outcome State Fault Refusal :=
  runChip t (doI3cWake b1.toNat b2.toNat) s

/-- I3C_ENEC: ENEC from the controller enables in-band interrupts (R478). -/
def execI3cEnec (t : Nat) (s : State) : Host.Outcome State Fault Refusal :=
  runChip t (doI3cEnec) s

/-- JTAG_TAP_RESET: A TAP reset selects BYPASS (R498). -/
def execJtagTapReset (t : Nat) (s : State) : Host.Outcome State Fault Refusal :=
  runChip t (doJtagTapReset) s

/-- JTAG_EXTEST: The instruction EXTEST drives the boundary outputs while RESET_N or PERST_N is low (R498). -/
def execJtagExtest (t : Nat) (inputs : List Bool) (cells : List Bool) (s : State) : Host.Outcome State Fault Refusal :=
  runChip t (doJtagExtest inputs cells) s

/-- JTAG_SAMPLE_PRELOAD: The instruction SAMPLE/PRELOAD captures the boundary cells (R498). -/
def execJtagSamplePreload (t : Nat) (inputs : List Bool) (cells : List Bool) (s : State) : Host.Outcome State Fault Refusal :=
  runChip t (doJtagSamplePreload inputs cells) s

/-- JTAG_BYPASS: The instruction BYPASS, or any other code, selects the bypass register (R498). -/
def execJtagBypass (t : Nat) (code : Fin 16) (s : State) : Host.Outcome State Fault Refusal :=
  runChip t (doJtagBypass code.val) s

/-- POWER_DOWN: The board removes the rails, VDD_CORE first and VDD_AON last, and operation ends as a power-off with
all volatile state lost (R490). -/
def execPowerDown (t : Nat) (s : State) : Host.Outcome State Fault Refusal :=
  runChip t (doPowerDown) s

/-- THERM_TRIP_RELEASE: THERM_TRIP_N is released once it has been held low for at least 10 ms and every sensor reads
115 °C or less (R493). -/
def execThermTripRelease (t : Nat) (ns : Nat) (hottest : BitVec 8) (s : State) : Host.Outcome State Fault Refusal :=
  runChip t (doThermTripRelease ns hottest.toNat) s

/-- FUNCTION_D_STATE_CHANGE: A configuration write to a function's power-management state moves the function to or
from D3hot, where its BAR requests complete with Unsupported Request (R456). -/
def execFunctionDStateChange (t : Nat) (fn : Fin 32) (toD3 : Bool) (s : State) : Host.Outcome State Fault Refusal :=
  runLink t (doFunctionDStateChange fn.val toD3) s

/-- MSIX_VECTOR_UNMASK: Software unmasks an MSI-X vector whose pending bit is set, and the device then sends the held
message (R472). -/
def execMsixVectorUnmask (t : Nat) (fn : Fin 32) (vec : Fin 1024) (s : State) : Host.Outcome State Fault Refusal :=
  runHost t fn.val (doMsixVectorUnmask fn.val vec.val) s

end Sys2Proof.Machine
end

