-- ==== Sys2Proof/Machine/ExecScreen.lean ====
section
/-!
DEFINITION. Meanings of the commands of registers, the Deckle, streams, admission, the prefix cache and the engines (chapters 0 to
10).
-/
namespace Sys2Proof.Machine

/-- REGISTER_WRITE: A host write to a register field that has no row of its own takes effect according to the field's
access code (RW, W1C, W1S, RWS, LK) (R11). -/
def execRegisterWrite (t : Nat) (fn : Fin 32) (off : BitVec 25) (v : BitVec 32) (s : State) : Host.Outcome State Fault Refusal :=
  runHost t fn.val (doRegisterWrite fn.val off.toNat v.toNat) s

/-- READ_LO_LATCH_HI: A read of a _LO register such as DKL_TIME_LO or COL_HEAD_SEQ_LO latches the matching HI half, or
the head digest, for a coherent 64-bit read (R35). -/
def execReadLoLatchHi (t : Nat) (fn : Fin 32) (off : BitVec 25) (s : State) : Host.Outcome State Fault Refusal :=
  runHost t fn.val (doReadLoLatchHi fn.val off.toNat) s

/-- BAR0_BAD_ACCESS_WRITE: A BAR 0 write of the wrong size or alignment has no effect and sets HIF_STATUS.ACCESS_SEEN
(R458). -/
def execBar0BadAccessWrite (t : Nat) (fn : Fin 32) (s : State) : Host.Outcome State Fault Refusal :=
  runHost t fn.val (doBar0BadAccessWrite) s

/-- REF_CLOCK_LOST: The reference clock stops or loses lock; the timebase runs on the internal oscillator, REF_LOST is
set and admission stops (R36). -/
def execRefClockLost (t : Nat) (s : State) : Host.Outcome State Fault Refusal :=
  runLive t (doRefClockLost) s

/-- REF_CLOCK_RELOCK: Lock on the reference clock returns; the timebase slews its interpolation by at most 100 ppm and
does not jump (R36). -/
def execRefClockRelock (t : Nat) (s : State) : Host.Outcome State Fault Refusal :=
  runLive t (doRefClockRelock) s

/-- REF_LOST_SEEN_CLEAR: Software writes 1 to DKL_STATUS.REF_LOST_SEEN after lock has returned, and admission restarts
(R36). -/
def execRefLostSeenClear (t : Nat) (s : State) : Host.Outcome State Fault Refusal :=
  runHost t 0 (doRefLostSeenClear) s

/-- MARGIN_EVAL: Every 10 µs the governor evaluates the smallest domain margin, steps the core rail and sets or clears
THROTTLE and HALT (R50). -/
def execMarginEval (t : Nat) (margin : Int) (domain : Fin 196) (s : State) : Host.Outcome State Fault Refusal :=
  runCore t (doMarginEval margin domain.val) s

/-- ADMISSION_SCHEDULE: Once per tick and per channel, the scheduler ranks tenant heads and offers them to the
reservation test, up to LOOKAHEAD heads (R102). -/
def execAdmissionSchedule (t : Nat) (badWays : List Nat) (s : State) : Host.Outcome State Fault Refusal :=
  runCore t (doAdmissionSchedule badWays) s

/-- GATE_RELEASE: At an item's T_rel the Deckle gate releases the item if it is complete; otherwise it handles the
item as LATE (R38). -/
def execGateRelease (t : Nat) (snapLate : Bool) (s : State) : Host.Outcome State Fault Refusal :=
  runCore t (doGateRelease snapLate) s

/-- ITEM_COMPUTE_DONE: An item finishes computing; the folio's next item becomes eligible, and a late MARKED_OPEN item
is released at the next tick (R97). -/
def execItemComputeDone (t : Nat) (item : Nat) (snapLate : Bool) (s : State) : Host.Outcome State Fault Refusal :=
  runCore t (doItemComputeDone item snapLate) s

/-- GATHER_BEGIN: The command BEGIN in state SEALED starts a boundary, at once or as PENDING until 10 ms after the
last seal (R60). -/
def execGatherBegin (t : Nat) (s : State) : Host.Outcome State Fault Refusal :=
  runHost t 0 (doGatherBegin) s

/-- DRAIN_START: At the drain's first tick T_b admission stops, the state becomes DRAINING and running AMA commands
suspend (R62). -/
def execDrainStart (t : Nat) (s : State) : Host.Outcome State Fault Refusal :=
  runCore t (doDrainStart) s

/-- DRAIN_END: At T_d, items still unfinished are handled as CLOSED and held MARKED_OPEN items are released late
(R62). -/
def execDrainEnd (t : Nat) (snapLate : Bool) (s : State) : Host.Outcome State Fault Refusal :=
  runCore t (doDrainEnd snapLate) s

/-- QUIESCENCE_DONE: The Quire Supervisors report empty; the state becomes OPEN and LK fields become writable (R62).
-/
def execQuiescenceDone (t : Nat) (s : State) : Host.Outcome State Fault Refusal :=
  runCore t (doQuiescenceDone) s

/-- GATHER_SEAL: The command SEAL in state OPEN locks LK fields and starts the seal checks (R63). -/
def execGatherSeal (t : Nat) (s : State) : Host.Outcome State Fault Refusal :=
  runHost t 0 (doGatherSeal) s

/-- OPEN_LIMIT_EXPIRY: The open window reaches DKL_OPEN_LIMIT and a timer seal begins, which reverts the window's
changes (R63). -/
def execOpenLimitExpiry (t : Nat) (s : State) : Host.Outcome State Fault Refusal :=
  runCore t (doOpenLimitExpiry) s

/-- OPEN_LIMIT_WRITE: A write to DKL_OPEN_LIMIT applies to the open window at once, and a timer seal follows if the
new limit has passed (R63). -/
def execOpenLimitWrite (t : Nat) (v : BitVec 32) (s : State) : Host.Outcome State Fault Refusal :=
  runHost t 0 (doOpenLimitWrite v.toNat) s

/-- GATHER_SWITCH_DONE: The seal checks end; the configuration is applied or reverted, the ID increments, the state
becomes SEALED and the GATHERING Colophon enters the chain (R63). -/
def execGatherSwitchDone (t : Nat) (s : State) : Host.Outcome State Fault Refusal :=
  runCore t (doGatherSwitchDone) s

/-- REQ_OPEN: A GATEWAY's REQ_OPEN is checked and, when accepted, allocates the head free folio and is answered with
OPEN_ACK (R73). -/
def execReqOpen (t : Nat) (hd : Hdr) (req : OpenReq) (s : State) : Host.Outcome State Fault Refusal :=
  runMsg t hd.port.val (doReqOpen hd req) s

/-- REQ_TOKENS: A REQ_TOKENS from the bound GATEWAY appends prompt tokens at PROMPT_LEN, or is refused whole (R77). -/
def execReqTokens (t : Nat) (hd : Hdr) (h : Handle) (firstPos : BitVec 22) (toks : List (BitVec 20)) (s : State) : Host.Outcome State Fault Refusal :=
  runMsg t hd.port.val (doReqTokens hd h firstPos.toNat toks) s

/-- REQ_END: A REQ_END sets PROMPT_END and decides which item carries IN_FINAL (R77). -/
def execReqEnd (t : Nat) (hd : Hdr) (h : Handle) (s : State) : Host.Outcome State Fault Refusal :=
  runMsg t hd.port.val (doReqEnd hd h) s

/-- REQ_ATTR: A REQ_ATTR replaces tabular attribute values held with the folio's running state (R291). -/
def execReqAttr (t : Nat) (hd : Hdr) (h : Handle) (es : List (BitVec 8 × BitVec 32)) (s : State) : Host.Outcome State Fault Refusal :=
  runMsg t hd.port.val (doReqAttr hd h es) s

/-- REQ_CANCEL: A REQ_CANCEL from the bound GATEWAY requests cancellation of a stream (R80). -/
def execReqCancel (t : Nat) (hd : Hdr) (h : Handle) (s : State) : Host.Outcome State Fault Refusal :=
  runMsg t hd.port.val (doReqCancel hd h) s

/-- CANCEL_COMMIT: Within 200 ns of the request the ledger commits the cancel at T_cack: the folio becomes CANCELLED,
GEN changes and the CANCEL Colophon is written (R81). -/
def execCancelCommit (t : Nat) (s : State) : Host.Outcome State Fault Refusal :=
  runCore t (doCancelCommit) s

/-- REQ_PAUSE: A REQ_PAUSE is checked and, when accepted, sets PAUSE_REQ and starts the pause move (R90). -/
def execReqPause (t : Nat) (hd : Hdr) (h : Handle) (ft : BitVec 8) (ttl : BitVec 32) (s : State) : Host.Outcome State Fault Refusal :=
  runMsg t hd.port.val (doReqPause hd h ft.toNat ttl.toNat) s

/-- REQ_RESUME: A REQ_RESUME is checked in order; when accepted it binds the new DECODE partner and starts fetching
far-tier pages (R92). -/
def execReqResume (t : Nat) (hd : Hdr) (h : Handle) (dec : BitVec 8) (s : State) : Host.Outcome State Fault Refusal :=
  runMsg t hd.port.val (doReqResume hd h dec.toNat) s

/-- LDG_CANCEL: The host command LDG_FOLIO_CMD CANCEL requests cancellation of a folio (R80). -/
def execLdgCancel (t : Nat) (h : Handle) (s : State) : Host.Outcome State Fault Refusal :=
  runHost t 0 (doLdgCancel h) s

/-- LDG_RELEASE: The host command RELEASE frees a CANCELLED, DONE or ORPHANED folio to the free list (R78). -/
def execLdgRelease (t : Nat) (h : Handle) (s : State) : Host.Outcome State Fault Refusal :=
  runHost t 0 (doLdgRelease h) s

/-- LDG_SNAPSHOT: The host command SNAPSHOT copies a folio into LDG_SNAP_n in one tick (R69). -/
def execLdgSnapshot (t : Nat) (n : BitVec 16) (s : State) : Host.Outcome State Fault Refusal :=
  runHost t 0 (doLdgSnapshot n.toNat) s

/-- SCANNER_VISIT: The scanner visits a folio at its scheduled point in the sweep, processing expiry and retention
(R93). -/
def execScannerVisit (t : Nat) (n : BitVec 16) (s : State) : Host.Outcome State Fault Refusal :=
  runCore t (doScannerVisit n.toNat) s

/-- KV_PAGE: A KV_PAGE from the PREFILL partner is checked, written to the hold area and entered in the page list
(R315). -/
def execKvPage (t : Nat) (hd : Hdr) (h : Handle) (no : BitVec 22) (kib : Fin 65) (data : Bytes) (s : State) : Host.Outcome State Fault Refusal :=
  runMsg t hd.port.val (doKvPage hd h no.toNat kib.val data) s

/-- KV_END: A KV_END from the PREFILL partner sets PF_DONE when its PAGES matches the pages received (R316). -/
def execKvEnd (t : Nat) (hd : Hdr) (h : Handle) (pages : BitVec 32) (s : State) : Host.Outcome State Fault Refusal :=
  runMsg t hd.port.val (doKvEnd hd h pages.toNat) s

/-- KV_ACK: A DECODE partner's KV_ACK frees the page's hold space and can complete a resume (R318). -/
def execKvAck (t : Nat) (hd : Hdr) (h : Handle) (no : BitVec 22) (s : State) : Host.Outcome State Fault Refusal :=
  runMsg t hd.port.val (doKvAck hd h no.toNat) s

/-- KV_PAGE_EVICT: An evicted page returned by the DECODE partner is checked, held and sent to the FAR_TIER partner
(R320). -/
def execKvPageEvict (t : Nat) (hd : Hdr) (h : Handle) (no : BitVec 22) (kib : Fin 65) (data : Bytes) (s : State) : Host.Outcome State Fault Refusal :=
  runMsg t hd.port.val (doKvPageEvict hd h no.toNat kib.val data) s

/-- KV_END_EVICT: The DECODE partner's KV_END ends its return of evicted pages (R320). -/
def execKvEndEvict (t : Nat) (hd : Hdr) (h : Handle) (pages : BitVec 32) (s : State) : Host.Outcome State Fault Refusal :=
  runMsg t hd.port.val (doKvEndEvict hd h pages.toNat) s

/-- FT_STORE_ACK: An FT_STORE_ACK gives the page entry LOC 0b10 and frees its hold space, or fails the pause (R321).
-/
def execFtStoreAck (t : Nat) (hd : Hdr) (status : BitVec 8) (handle : BitVec 40) (s : State) : Host.Outcome State Fault Refusal :=
  runMsg t hd.port.val (doFtStoreAck hd status.toNat handle.toNat) s

/-- FT_STORE_ACK_TIMEOUT: An FT_STORE without an acknowledgement for 10 ms fails the pause with TIMEOUT (R293). -/
def execFtStoreAckTimeout (t : Nat) (n : BitVec 16) (no : BitVec 22) (s : State) : Host.Outcome State Fault Refusal :=
  runCore t (doFtStoreAckTimeout n.toNat no.toNat) s

/-- EVICT_KV_END_TIMEOUT: No KV_END from the DECODE partner within 100 ms of KV_EVICT fails the pause with TIMEOUT
(R323). -/
def execEvictKvEndTimeout (t : Nat) (n : BitVec 16) (s : State) : Host.Outcome State Fault Refusal :=
  runCore t (doEvictKvEndTimeout n.toNat) s

/-- FT_DATA: A fetched page arrives from the far tier and is forwarded to the new DECODE partner (R324). -/
def execFtData (t : Nat) (hd : Hdr) (status : BitVec 8) (kib : Fin 65) (data : Bytes) (s : State) : Host.Outcome State Fault Refusal :=
  runMsg t hd.port.val (doFtData hd status.toNat kib.val data) s

/-- FT_FETCH_TIMEOUT: An FT_FETCH without good FT_DATA for 10 ms orphans the folio (R293). -/
def execFtFetchTimeout (t : Nat) (n : BitVec 16) (no : BitVec 22) (s : State) : Host.Outcome State Fault Refusal :=
  runCore t (doFtFetchTimeout n.toNat no.toNat) s

/-- FT_FREE_ACK: A FAR_TIER partner acknowledges an FT_FREE (R94). -/
def execFtFreeAck (t : Nat) (hd : Hdr) (s : State) : Host.Outcome State Fault Refusal :=
  runMsg t hd.port.val (doFtFreeAck hd) s

/-- FT_FREE_TIMEOUT: An FT_FREE without an acknowledgement for 10 ms is counted as lost (R293). -/
def execFtFreeTimeout (t : Nat) (s : State) : Host.Outcome State Fault Refusal :=
  runCore t (doFtFreeTimeout) s

/-- CAND_LIST: A candidate list from the DECODE partner is checked at ingress and, when accepted, takes an output slot
(R248). -/
def execCandList (t : Nat) (hd : Hdr) (body : Bytes) (s : State) : Host.Outcome State Fault Refusal :=
  runMsg t hd.port.val (doCandList hd body) s

/-- BUDGET_REFILL: At every multiple of 1,000 ns each finite-rate tenant's budget level is refilled up to its burst
cap (R107). -/
def execBudgetRefill (t : Nat) (s : State) : Host.Outcome State Fault Refusal :=
  runCore t (doBudgetRefill) s

/-- BALANCER_EVAL: At each balancer period the device decides whether to move an engine group, and fences one if so
(R112). -/
def execBalancerEval (t : Nat) (s : State) : Host.Outcome State Fault Refusal :=
  runCore t (doBalancerEval) s

/-- GROUP_MOVE_DONE: A fenced group's last item finishes; the group joins the other channel and the backlogs are
rescaled (R113). -/
def execGroupMoveDone (t : Nat) (s : State) : Host.Outcome State Fault Refusal :=
  runCore t (doGroupMoveDone) s

/-- PVC_INVALIDATE_TENANT: The command INVALIDATE_TENANT increments one tenant's epoch and starts a sweep (R133). -/
def execPvcInvalidateTenant (t : Nat) (tenant : Fin 1024) (s : State) : Host.Outcome State Fault Refusal :=
  runHost t 0 (doPvcInvalidateTenant tenant.val) s

/-- PVC_INVALIDATE_ALL: The command INVALIDATE_ALL increments every tenant's epoch and starts a sweep (R133). -/
def execPvcInvalidateAll (t : Nat) (s : State) : Host.Outcome State Fault Refusal :=
  runHost t 0 (doPvcInvalidateAll) s

/-- PVC_SWEEP_DONE: An invalidation sweep completes and PVC_CMD_RESULT.BUSY clears (R133). -/
def execPvcSweepDone (t : Nat) (s : State) : Host.Outcome State Fault Refusal :=
  runCore t (doPvcSweepDone) s

/-- PVC_HIT_COPY_DONE: A hit's snapshot copy completes; the pin is released and, with KEEP_BOOKING 0, the booked costs
fall (R124). -/
def execPvcHitCopyDone (t : Nat) (item : Nat) (unreadable : Bool) (s : State) : Host.Outcome State Fault Refusal :=
  runCore t (doPvcHitCopyDone item unreadable) s

/-- AMA_SEARCH_DONE: A table search returns its verified first-match result, a miss, or INCOMPLETE (R144). -/
def execAmaSearchDone (t : Nat) (item : Nat) (us : List AmaUpset) (countEcc : Bool) (s : State) : Host.Outcome State Fault Refusal :=
  runCore t (doAmaSearchDone item us countEcc) s

/-- CASCADE_SLOT_SEND: In an owned slot the chip sends a cascade search frame, EMPTY, or forwards its returning frame
(R155). -/
def execCascadeSlotSend (t : Nat) (slot : Nat) (item : Nat) (s : State) : Host.Outcome State Fault Refusal :=
  runCore t (doCascadeSlotSend slot item) s

/-- CASCADE_FRAME_RX: A cascade frame is received; the chip merges its local result, recomputes the CRC and forwards
the frame 80 ns after upstream (R156). -/
def execCascadeFrameRx (t : Nat) (slot : Nat) (frame : Bytes) (us : List AmaUpset) (s : State) : Host.Outcome State Fault Refusal :=
  runCore t (doCascadeFrameRx slot frame us) s

/-- CASCADE_RING_DOWN: Sixteen slots without a good frame, or four CRC errors in a row, set the ring DOWN and stop
sending (R159). -/
def execCascadeRingDown (t : Nat) (s : State) : Host.Outcome State Fault Refusal :=
  runCore t (doCascadeRingDown) s

/-- CASCADE_RING_UP: 16N slots after the closed TRAIN frame, the chip sends EMPTY frames and the state becomes UP
(R154). -/
def execCascadeRingUp (t : Nat) (s : State) : Host.Outcome State Fault Refusal :=
  runCore t (doCascadeRingUp) s

/-- CASCADE_TRAIN_TIMEOUT: A chip not UP 100 µs after training began sets DOWN with its reason (R154). -/
def execCascadeTrainTimeout (t : Nat) (s : State) : Host.Outcome State Fault Refusal :=
  runCore t (doCascadeTrainTimeout) s

/-- CASCADE_RETRAIN_TIMER: 1 ms after a loss of the ring, training restarts while ENABLE is 1 (R154). -/
def execCascadeRetrainTimer (t : Nat) (s : State) : Host.Outcome State Fault Refusal :=
  runCore t (doCascadeRetrainTimer) s

/-- AMA_UPD_WRITE: The update command WRITE starts the three-step replacement of the entry at a slot (R165). -/
def execAmaUpdWrite (t : Nat) (q : Fin 8) (m : Fin 32) (slot : Fin 32768) (s : State) : Host.Outcome State Fault Refusal :=
  runHost t 0 (doAmaUpdWrite q.val m.val slot.val) s

/-- AMA_UPD_INVALIDATE: The update command INVALIDATE clears the VALID bit of the entry at a slot (R167). -/
def execAmaUpdInvalidate (t : Nat) (q : Fin 8) (m : Fin 32) (slot : Fin 32768) (s : State) : Host.Outcome State Fault Refusal :=
  runHost t 0 (doAmaUpdInvalidate q.val m.val slot.val) s

/-- AMA_UPD_TIP_IN: The update command TIP_IN places an entry at a rank, using a gutter or a block move (R174). -/
def execAmaUpdTipIn (t : Nat) (q : Fin 8) (m : Fin 32) (slot : Fin 32768) (s : State) : Host.Outcome State Fault Refusal :=
  runHost t 0 (doAmaUpdTipIn q.val m.val slot.val) s

/-- AMA_UPD_CLEAR_BANK: The update command CLEAR_BANK clears every slot of the bank and ends its quarantines and
FAILED mark (R167). -/
def execAmaUpdClearBank (t : Nat) (q : Fin 8) (m : Fin 32) (s : State) : Host.Outcome State Fault Refusal :=
  runHost t 0 (doAmaUpdClearBank q.val m.val) s

/-- AMA_UPD_SUBSTEP: Once the fence's older searches have finished, the next journaled sub-step of an update or block
move runs (R176). -/
def execAmaUpdSubstep (t : Nat) (q : Fin 8) (srcBad : Bool) (s : State) : Host.Outcome State Fault Refusal :=
  runCore t (doAmaUpdSubstep q.val srcBad) s

/-- AMA_SCRUB_VISIT: The scrubber visits a slot and rewrites match cells that differ from the corrected shadow (R189).
-/
def execAmaScrubVisit (t : Nat) (bank : Fin 256) (us : List AmaUpset) (shadowBad : Bool) (s : State) : Host.Outcome State Fault Refusal :=
  runCore t (doAmaScrubVisit bank.val us shadowBad) s

/-- TWE_STEP: A Tree Walk Engine step reads each held sample's node and moves the sample one level, or delivers its
leaf (R202). -/
def execTweStep (t : Nat) (q : Fin 8) (m : Fin 8) (errs : List (Nat × Nat × TweErr)) (countEcc : Bool) (s : State) : Host.Outcome State Fault Refusal :=
  runCore t (doTweStep q.val m.val errs countEcc) s

/-- STATE_FETCH_DONE: An item's running state arrives from the near tier, and the fold and tile row load proceed
(R224). -/
def execStateFetchDone (t : Nat) (item : Nat) (rejects : List Nat) (err : Option FetchErr) (countEcc : Bool) (s : State) : Host.Outcome State Fault Refusal :=
  runCore t (doStateFetchDone item rejects err countEcc) s

/-- AMT_GATHER_TIMEOUT: A tile's oldest loaded row has waited GATHER_NS, so the tile starts a pass with fewer than 8
rows (R225). -/
def execAmtGatherTimeout (t : Nat) (q : Fin 8) (tile : Fin 32) (s : State) : Host.Outcome State Fault Refusal :=
  runCore t (doAmtGatherTimeout q.val tile.val) s

/-- AMT_PASS_DONE: A tile pass finishes its last layer; rows are read back and each score gets its bound (R226). -/
def execAmtPassDone (t : Nat) (q : Fin 8) (tile : Fin 32) (codes : List (List (List Nat))) (wit : List (List Nat)) (fails : List Nat) (ecc : Option Nat) (countEcc : Bool) (s : State) : Host.Outcome State Fault Refusal :=
  runCore t (doAmtPassDone q.val tile.val codes wit fails ecc countEcc) s

/-- XL_RERUN_DONE: An Exact Lane re-run completes, its checks run and its exact scores enter the feature vector
(R239). -/
def execXlRerunDone (t : Nat) (item : Nat) (cls : Fin 64) (used : Nat) (residue : Bool) (ecc : Option Nat) (countEcc : Bool) (s : State) : Host.Outcome State Fault Refusal :=
  runCore t (doXlRerunDone item cls.val used residue ecc countEcc) s

/-- AMT_CAL_DUE: A tile falls due for calibration, 10 ms after the last one or on a 2 °C change, and joins its group's
queue (R229). -/
def execAmtCalDue (t : Nat) (q : Fin 8) (tile : Fin 32) (temp : BitVec 7) (s : State) : Host.Outcome State Fault Refusal :=
  runCore t (doAmtCalDue q.val tile.val temp.toNat) s

/-- AMT_CAL_START: At a pass boundary, with no other tile of the group calibrating, a due tile starts calibration
(R229). -/
def execAmtCalStart (t : Nat) (q : Fin 8) (tile : Fin 32) (s : State) : Host.Outcome State Fault Refusal :=
  runCore t (doAmtCalStart q.val tile.val) s

/-- AMT_CAL_DONE: Calibration ends after 20 µs; the tile becomes VALID, or DISABLED when EPS exceeds EPS_LIMIT (R229).
-/
def execAmtCalDone (t : Nat) (q : Fin 8) (tile : Fin 32) (fits : List RowCal) (s : State) : Host.Outcome State Fault Refusal :=
  runCore t (doAmtCalDone q.val tile.val fits) s

/-- AMT_CAL_ALL: The command CAL_ALL makes every tile of the quire due at once (R229). -/
def execAmtCalAll (t : Nat) (q : Fin 8) (s : State) : Host.Outcome State Fault Refusal :=
  runHost t 0 (doAmtCalAll q.val) s

/-- XL_DEMAND_WINDOW: Each 1 ms window compares re-run demand with the booked reservation and sets OVER_SEEN (R241).
-/
def execXlDemandWindow (t : Nat) (q : Fin 8) (s : State) : Host.Outcome State Fault Refusal :=
  runCore t (doXlDemandWindow q.val) s

end Sys2Proof.Machine
end

