-- ==== Sys2Proof/Machine/ExecShell.lean ====
section
/-!
DEFINITION. Meanings of the commands of the binding, faults, the store and the loader (chapters 14 to 16).
-/
namespace Sys2Proof.Machine

/-- BIND_STAGE: The command STAGE starts copying a binding image into the free stage buffer (R354). -/
def execBindStage (t : Nat) (win : Fin 64) (s : State) : Host.Outcome State Fault Refusal :=
  runHost t 0 (doBindStage win.val) s

/-- BIND_STAGE_DONE: The staging copy completes and the staging check marks the binding STAGED or rejects it (R354).
-/
def execBindStageDone (t : Nat) (data : DmaIn) (s : State) : Host.Outcome State Fault Refusal :=
  runCore t (doBindStageDone data) s

/-- BIND_DISCARD: The command DISCARD removes the staged binding (R354). -/
def execBindDiscard (t : Nat) (s : State) : Host.Outcome State Fault Refusal :=
  runHost t 0 (doBindDiscard) s

/-- BIND_LOAD: The command LOAD in the open window checks the staged binding and model set and starts writing the
slots and banks that differ (R372). -/
def execBindLoad (t : Nat) (s : State) : Host.Outcome State Fault Refusal :=
  runHost t 0 (doBindLoad) s

/-- BIND_LOAD_DONE: LOAD finishes its writes and checks, and sets LOADED or reports BINDING_MISMATCH (R373). -/
def execBindLoadDone (t : Nat) (s : State) : Host.Outcome State Fault Refusal :=
  runCore t (doBindLoadDone) s

/-- CONFIG_RESTORE_DONE: A quire's restore of the previous configuration completes, and RESTORING clears (R378). -/
def execConfigRestoreDone (t : Nat) (q : Fin 8) (s : State) : Host.Outcome State Fault Refusal :=
  runCore t (doConfigRestoreDone q.val) s

/-- CAT_ADD: The command CAT_ADD checks its range and starts copying a variant image into the catalogue (R369). -/
def execCatAdd (t : Nat) (win : Fin 64) (variant : Fin 4096) (s : State) : Host.Outcome State Fault Refusal :=
  runHost t 0 (doCatAdd win.val variant.val) s

/-- CAT_ADD_DONE: The variant copy completes and the variant is entered, or rejected on its format or trailer (R369).
-/
def execCatAddDone (t : Nat) (data : DmaIn) (s : State) : Host.Outcome State Fault Refusal :=
  runCore t (doCatAddDone data) s

/-- CAT_REMOVE: The command CAT_REMOVE removes a variant that is not named by a model set in force or loaded (R370).
-/
def execCatRemove (t : Nat) (variant : Fin 4096) (s : State) : Host.Outcome State Fault Refusal :=
  runHost t 0 (doCatRemove variant.val) s

/-- CAT_SIZE_WRITE: A write of SHL_CAT_SIZE is taken only at gathering ID 0 in OPEN and within the capacity (R368). -/
def execCatSizeWrite (t : Nat) (v : BitVec 32) (s : State) : Host.Outcome State Fault Refusal :=
  runHost t 0 (doCatSizeWrite v.toNat) s

/-- MSET_WRITE: A write of SHL_MSET_q_s names a slot's variant and, after LOAD, sets STALE (R375). -/
def execMsetWrite (t : Nat) (q : Fin 8) (slot : Fin 16) (v : BitVec 32) (s : State) : Host.Outcome State Fault Refusal :=
  runHost t 0 (doMsetWrite q.val slot.val v.toNat) s

/-- CENSUS_SETTLED: A fault's last held item is dropped, so the census entry becomes SETTLED and joins the pending
list (R392). -/
def execCensusSettled (t : Nat) (n : BitVec 16) (s : State) : Host.Outcome State Fault Refusal :=
  runCore t (doCensusSettled n.toNat) s

/-- FLT_CENSUS_READ: The command READ copies a folio's census entry into FLT_CENSUS_DATA_n (R391). -/
def execFltCensusRead (t : Nat) (n : BitVec 16) (s : State) : Host.Outcome State Fault Refusal :=
  runHost t 0 (doFltCensusRead n.toNat) s

/-- FLT_CENSUS_RETRY: The command RETRY restores a settled, undamaged FAULTED folio and puts its held items back, or
orphans it (R398). -/
def execFltCensusRetry (t : Nat) (h : Handle) (s : State) : Host.Outcome State Fault Refusal :=
  runHost t 0 (doFltCensusRetry h) s

/-- MODEL_SCRUB_VISIT: The shell scrubs model memory and the split store, correcting single-bit errors (R393). -/
def execModelScrubVisit (t : Nat) (q : Fin 8) (addr : BitVec 28) (uncorr : Bool) (s : State) : Host.Outcome State Fault Refusal :=
  runCore t (doModelScrubVisit q.val addr.toNat uncorr) s

/-- MODEL_REPAIR_DONE: An uncorrectable word is rewritten from the catalogue or the binding, or the repair fails and
the quire is marked (R394). -/
def execModelRepairDone (t : Nat) (q : Fin 8) (addr : BitVec 28) (again : Bool) (s : State) : Host.Outcome State Fault Refusal :=
  runCore t (doModelRepairDone q.val addr.toNat again) s

/-- NVM_READ: The command NVM READ checks its range and copies store bytes to host memory (R405). -/
def execNvmRead (t : Nat) (win : Fin 64) (s : State) : Host.Outcome State Fault Refusal :=
  runHost t 0 (doNvmRead win.val) s

/-- NVM_PROGRAM: The command NVM PROGRAM checks that the pages are blank and programs them (R405). -/
def execNvmProgram (t : Nat) (win : Fin 64) (s : State) : Host.Outcome State Fault Refusal :=
  runHost t 0 (doNvmProgram win.val) s

/-- NVM_ERASE: The command NVM ERASE checks its range and erases whole blocks (R405). -/
def execNvmErase (t : Nat) (s : State) : Host.Outcome State Fault Refusal :=
  runHost t 0 (doNvmErase) s

/-- NVM_OP_DONE: An NVM operation completes with its verify, which may retire a block or make the store read-only
(R407). -/
def execNvmOpDone (t : Nat) (data : DmaIn) (bad : NvmBad) (s : State) : Host.Outcome State Fault Refusal :=
  runLive t (doNvmOpDone data bad) s

/-- EPD_CHECK: The command CHECK runs the manifest checks of an image without writing (R411). -/
def execEpdCheck (t : Nat) (win : Fin 64) (data : DmaIn) (s : State) : Host.Outcome State Fault Refusal :=
  runHost t 0 (doEpdCheck win.val data) s

/-- EPD_WRITE: The command WRITE checks the manifest and starts writing the image chunk by chunk (R412). -/
def execEpdWrite (t : Nat) (win : Fin 64) (data : DmaIn) (bad : NvmBad) (s : State) : Host.Outcome State Fault Refusal :=
  runHost t 0 (doEpdWrite win.val data bad) s

/-- EPD_WRITE_DONE: The image write ends in phase WRITTEN, or stops SUSPENDED on a chunk digest mismatch (R412). -/
def execEpdWriteDone (t : Nat) (chunks : List DmaIn) (bad : NvmBad) (s : State) : Host.Outcome State Fault Refusal :=
  runCore t (doEpdWriteDone chunks bad) s

/-- EPD_RESUME: The command RESUME continues a suspended write from the journal's cursor (R413). -/
def execEpdResume (t : Nat) (win : Fin 64) (data : DmaIn) (s : State) : Host.Outcome State Fault Refusal :=
  runHost t 0 (doEpdResume win.val data) s

/-- EPD_ARM: The command ARM starts preloading the new code into the idle code bank (R418). -/
def execEpdArm (t : Nat) (s : State) : Host.Outcome State Fault Refusal :=
  runHost t 0 (doEpdArm) s

/-- EPD_PRELOAD_DONE: The preload finishes its digest checks and sets phase READY, or fails with AUDIT_FAIL (R418). -/
def execEpdPreloadDone (t : Nat) (upset : Bool) (s : State) : Host.Outcome State Fault Refusal :=
  runCore t (doEpdPreloadDone upset) s

/-- EPD_DISARM: The command DISARM returns PRELOADING or READY to WRITTEN (R418). -/
def execEpdDisarm (t : Nat) (s : State) : Host.Outcome State Fault Refusal :=
  runHost t 0 (doEpdDisarm) s

/-- EPD_SET: The command SET writes one user settings key, in two formats while the image is unconfirmed (R428). -/
def execEpdSet (t : Nat) (key : BitVec 16) (s : State) : Host.Outcome State Fault Refusal :=
  runHost t 0 (doEpdSet key.toNat) s

/-- EPD_GET: The command GET reads one user settings key back (R428). -/
def execEpdGet (t : Nat) (key : BitVec 16) (s : State) : Host.Outcome State Fault Refusal :=
  runHost t 0 (doEpdGet key.toNat) s

/-- HANDOVER_DONE: The live handover completes as SWITCHED with Supervisors reloaded, or reverts to the old firmware
if the record fails (R419). -/
def execHandoverDone (t : Nat) (recordOk : Bool) (s : State) : Host.Outcome State Fault Refusal :=
  runCore t (doHandoverDone recordOk) s

end Sys2Proof.Machine
end

