-- ==== Sys2Proof/Machine/ExecSpine.lean ====
section
/-!
DEFINITION. Meanings of the commands of ports, partners and the chain (chapters 11 to 13).
-/
namespace Sys2Proof.Machine

/-- SPN_PORT_ENABLE: Writing ENABLE 1 to a port starts full training (R267). -/
def execSpnPortEnable (t : Nat) (p : Fin 16) (v : BitVec 32) (s : State) : Host.Outcome State Fault Refusal :=
  runHost t 0 (doSpnPortEnable p.val v.toNat) s

/-- SPN_PORT_DISABLE: Writing ENABLE 0 idles the port's lanes, discards link state and loses every partner on the port
(R268). -/
def execSpnPortDisable (t : Nat) (p : Fin 16) (v : BitVec 32) (s : State) : Host.Outcome State Fault Refusal :=
  runHost t 0 (doSpnPortDisable p.val v.toNat) s

/-- SPN_FULL_TRAIN: The command FULL_TRAIN starts a full training, ending every attachment on the port (R267). -/
def execSpnFullTrain (t : Nat) (p : Fin 16) (v : BitVec 32) (s : State) : Host.Outcome State Fault Refusal :=
  runHost t 0 (doSpnFullTrain p.val v.toNat) s

/-- SPN_RETRAIN: The command RETRAIN starts a fast retrain that keeps SEQ, replay and credit state (R269). -/
def execSpnRetrain (t : Nat) (p : Fin 16) (v : BitVec 32) (s : State) : Host.Outcome State Fault Refusal :=
  runHost t 0 (doSpnRetrain p.val v.toNat) s

/-- SPN_TRAINING_BLOCK_RX: A training block is received; it drives lane lock, equalisation requests and the width
choice (R267). -/
def execSpnTrainingBlockRx (t : Nat) (p : Fin 16) (lane : Fin 8) (blk : TrainBlock) (s : State) : Host.Outcome State Fault Refusal :=
  runCore t (doSpnTrainingBlockRx p.val lane.val blk) s

/-- SPN_TRAIN_TIMEOUT: A link that is not UP within 2 ms of training start enters DOWN (R267). -/
def execSpnTrainTimeout (t : Nat) (p : Fin 16) (s : State) : Host.Outcome State Fault Refusal :=
  runCore t (doSpnTrainTimeout p.val) s

/-- SPN_DOWN_RESTART: 1 ms after DOWN, a link with ENABLE 1 starts training again at the highest allowed rate (R267).
-/
def execSpnDownRestart (t : Nat) (p : Fin 16) (s : State) : Host.Outcome State Fault Refusal :=
  runCore t (doSpnDownRestart p.val) s

/-- SPN_FEC_BLOCK_RX: An FEC block is received and corrected, or marked uncorrectable, and yields its five flits
(R271). -/
def execSpnFecBlockRx (t : Nat) (p : Fin 16) (blk : Option (Nat × Nat × List Bytes)) (s : State) : Host.Outcome State Fault Refusal :=
  runCore t (doSpnFecBlockRx p.val blk) s

/-- SPN_REPLAY_TIMEOUT: ACK_SEQ has not advanced for 4 µs with flits outstanding, so every unacknowledged flit is
replayed (R277). -/
def execSpnReplayTimeout (t : Nat) (p : Fin 16) (s : State) : Host.Outcome State Fault Refusal :=
  runCore t (doSpnReplayTimeout p.val) s

/-- SPN_BLOCK_LOCK_LOST: Block lock is lost on a lane in use, which starts a fast retrain (R269). -/
def execSpnBlockLockLost (t : Nat) (p : Fin 16) (lane : Fin 8) (s : State) : Host.Outcome State Fault Refusal :=
  runCore t (doSpnBlockLockLost p.val lane.val) s

/-- SPN_FAST_RETRAIN_TIMEOUT: A fast retrain that is not UP within 100 µs becomes a full training (R269). -/
def execSpnFastRetrainTimeout (t : Nat) (p : Fin 16) (s : State) : Host.Outcome State Fault Refusal :=
  runCore t (doSpnFastRetrainTimeout p.val) s

/-- UNSUPPORTED_MESSAGE: A message of an unlisted type, the wrong direction, VC or LEN, or with reserved bits set, is
rejected or dropped (R285). -/
def execUnsupportedMessage (t : Nat) (hd : Hdr) (type : BitVec 8) (body : Bytes) (s : State) : Host.Outcome State Fault Refusal :=
  runMsg t hd.port.val (doUnsupportedMessage hd type.toNat body) s

/-- HELLO: An endpoint's HELLO is checked and starts an attach, ending any attachment already in place (R299). -/
def execHello (t : Nat) (hd : Hdr) (kind : BitVec 8) (proto : BitVec 8) (unitId : Bytes) (s : State) : Host.Outcome State Fault Refusal :=
  runMsg t hd.port.val (doHello hd kind.toNat proto.toNat unitId) s

/-- CAPS: An endpoint's CAPS is checked and attaches the partner with the lowest free number, or is refused (R300). -/
def execCaps (t : Nat) (hd : Hdr) (cp : Caps) (s : State) : Host.Outcome State Fault Refusal :=
  runMsg t hd.port.val (doCaps hd cp) s

/-- CAPS_TIMEOUT: No CAPS within 1 ms of an accepted HELLO ends the attach (R299). -/
def execCapsTimeout (t : Nat) (p : Fin 16) (ep : Fin 4) (s : State) : Host.Outcome State Fault Refusal :=
  runCore t (doCapsTimeout { port := p.val, ep := ep.val }) s

/-- HEARTBEAT: A partner's HEARTBEAT resets MISSED and checks HB_SEQ for a gap (R305). -/
def execHeartbeat (t : Nat) (hd : Hdr) (hbSeq : BitVec 32) (s : State) : Host.Outcome State Fault Refusal :=
  runMsg t hd.port.val (doHeartbeat hd hbSeq.toNat) s

/-- HEARTBEAT_SEND: Every 50 µs the device sends HEARTBEAT to each attached or closing partner (R304). -/
def execHeartbeatSend (t : Nat) (n : Fin 48) (s : State) : Host.Outcome State Fault Refusal :=
  runCore t (doHeartbeatSend n.val) s

/-- HEARTBEAT_WINDOW_END: A 50 µs window ends without a heartbeat, so MISSED rises and the partner is lost at 8
(R305). -/
def execHeartbeatWindowEnd (t : Nat) (n : Fin 48) (s : State) : Host.Outcome State Fault Refusal :=
  runCore t (doHeartbeatWindowEnd n.val) s

/-- DETACH: A DETACH from a partner makes the partner lost (R308). -/
def execDetach (t : Nat) (hd : Hdr) (s : State) : Host.Outcome State Fault Refusal :=
  runMsg t hd.port.val (doDetach hd) s

/-- PARTNER_CLOSE: The host command CLOSE sets an attached partner to CLOSING (R309). -/
def execPartnerClose (t : Nat) (n : Fin 48) (s : State) : Host.Outcome State Fault Refusal :=
  runHost t 0 (doPartnerClose n.val) s

/-- PARTNER_OPEN: The host command OPEN returns a closing partner to ATTACHED (R309). -/
def execPartnerOpen (t : Nat) (n : Fin 48) (s : State) : Host.Outcome State Fault Refusal :=
  runHost t 0 (doPartnerOpen n.val) s

/-- PARTNER_DETACH: The host command DETACH makes a partner lost, and a DETACH is sent to it (R308). -/
def execPartnerDetach (t : Nat) (n : Fin 48) (s : State) : Host.Outcome State Fault Refusal :=
  runHost t 0 (doPartnerDetach n.val) s

/-- ROSTER_SEND: In the tick after a partner change, a ROSTER is sent to every GATEWAY partner (R302). -/
def execRosterSend (t : Nat) (s : State) : Host.Outcome State Fault Refusal :=
  runCore t (doRosterSend) s

/-- PARTNER_COOL_END: A cooling number returns to NONE once 10 ms have passed and REFS is 0 (R311). -/
def execPartnerCoolEnd (t : Nat) (n : Fin 48) (s : State) : Host.Outcome State Fault Refusal :=
  runCore t (doPartnerCoolEnd n.val) s

/-- ORPHAN_AT_HOLD: In the tick after a folio enters HOLD with its DECODE partner in COOLING, the folio becomes
ORPHANED (R312). -/
def execOrphanAtHold (t : Nat) (n : BitVec 16) (s : State) : Host.Outcome State Fault Refusal :=
  runCore t (doOrphanAtHold n.toNat) s

/-- SEAL_COUNT_TRIGGER: A count of 4,096 non-SEAL Colophons since the last part 0 triggers a seal's part 0 (R339). -/
def execSealCountTrigger (t : Nat) (s : State) : Host.Outcome State Fault Refusal :=
  runCore t (doSealCountTrigger) s

/-- SEAL_TIMER_TRIGGER: 1 ms since the last part 0, with new Colophons, triggers a seal's part 0 (R339). -/
def execSealTimerTrigger (t : Nat) (s : State) : Host.Outcome State Fault Refusal :=
  runCore t (doSealTimerTrigger) s

/-- COL_SEAL_NOW: A write of SEAL_NOW makes a host seal request, which is used or dropped at the first tick with no
part 1 pending (R339). -/
def execColSealNow (t : Nat) (v : BitVec 32) (s : State) : Host.Outcome State Fault Refusal :=
  runHost t 0 (doColSealNow v.toNat) s

/-- SEAL_SIGNATURE_DONE: The signature over part 0 completes and is checked; part 1 enters, after a second signing if
needed, or enters as UNSEALED (R340). -/
def execSealSignatureDone (t : Nat) (r : BitVec 384) (sg : BitVec 384) (s : State) : Host.Outcome State Fault Refusal :=
  runCore t (doSealSignatureDone r.toNat sg.toNat) s

/-- COL_TAIL_COMMIT: A write of COL_TAIL_SEQ_LO commits the 64-bit TAIL, frees entries and can end STOP (R346). -/
def execColTailCommit (t : Nat) (v : BitVec 32) (s : State) : Host.Outcome State Fault Refusal :=
  runHost t 0 (doColTailCommit v.toNat) s

/-- COL_PUSH_ENABLE: Writing PUSH_ENABLE 1 checks the push ring against its DMA window and enables it, or refuses
(R347). -/
def execColPushEnable (t : Nat) (v : BitVec 32) (s : State) : Host.Outcome State Fault Refusal :=
  runHost t 0 (doColPushEnable v.toNat) s

/-- COL_PUSH_WRITE: The device pushes Colophon entries into the host ring within 10 µs, and a DMA failure clears
PUSH_ENABLE (R347). -/
def execColPushWrite (t : Nat) (ecc : Bool) (fails : Bool) (s : State) : Host.Outcome State Fault Refusal :=
  runLink t (doColPushWrite ecc fails) s

/-- COL_APERTURE_READ: A host read of a Colophon entry; an uncorrectable entry reads 0xFF and is logged on its first
read (R390). -/
def execColApertureRead (t : Nat) (off : Fin 0x4000000) (ecc : Bool) (s : State) : Host.Outcome State Fault Refusal :=
  runHost t 0 (doColApertureRead off.val ecc) s

end Sys2Proof.Machine
end

