-- ==== Sys2Proof/Machine/Dispatch.lean ====
section
/-!
DEFINITION. The dispatch: one arm per command, each a direct call of its meaning.
-/
namespace Sys2Proof.Machine

def exec (i : Instr) (s : State) : Host.Outcome State Fault Refusal :=
  match i with
  | .registerWrite t fn off v => Sys2Proof.Machine.execRegisterWrite t fn off v s
  | .readLoLatchHi t fn off => Sys2Proof.Machine.execReadLoLatchHi t fn off s
  | .bar0BadAccessWrite t fn => Sys2Proof.Machine.execBar0BadAccessWrite t fn s
  | .refClockLost t => Sys2Proof.Machine.execRefClockLost t s
  | .refClockRelock t => Sys2Proof.Machine.execRefClockRelock t s
  | .refLostSeenClear t => Sys2Proof.Machine.execRefLostSeenClear t s
  | .marginEval t margin domain => Sys2Proof.Machine.execMarginEval t margin domain s
  | .admissionSchedule t badWays => Sys2Proof.Machine.execAdmissionSchedule t badWays s
  | .gateRelease t snapLate => Sys2Proof.Machine.execGateRelease t snapLate s
  | .itemComputeDone t item snapLate => Sys2Proof.Machine.execItemComputeDone t item snapLate s
  | .gatherBegin t => Sys2Proof.Machine.execGatherBegin t s
  | .drainStart t => Sys2Proof.Machine.execDrainStart t s
  | .drainEnd t snapLate => Sys2Proof.Machine.execDrainEnd t snapLate s
  | .quiescenceDone t => Sys2Proof.Machine.execQuiescenceDone t s
  | .gatherSeal t => Sys2Proof.Machine.execGatherSeal t s
  | .openLimitExpiry t => Sys2Proof.Machine.execOpenLimitExpiry t s
  | .openLimitWrite t v => Sys2Proof.Machine.execOpenLimitWrite t v s
  | .gatherSwitchDone t => Sys2Proof.Machine.execGatherSwitchDone t s
  | .reqOpen t hd req => Sys2Proof.Machine.execReqOpen t hd req s
  | .reqTokens t hd h firstPos toks => Sys2Proof.Machine.execReqTokens t hd h firstPos toks s
  | .reqEnd t hd h => Sys2Proof.Machine.execReqEnd t hd h s
  | .reqAttr t hd h es => Sys2Proof.Machine.execReqAttr t hd h es s
  | .reqCancel t hd h => Sys2Proof.Machine.execReqCancel t hd h s
  | .cancelCommit t => Sys2Proof.Machine.execCancelCommit t s
  | .reqPause t hd h ft ttl => Sys2Proof.Machine.execReqPause t hd h ft ttl s
  | .reqResume t hd h dec => Sys2Proof.Machine.execReqResume t hd h dec s
  | .ldgCancel t h => Sys2Proof.Machine.execLdgCancel t h s
  | .ldgRelease t h => Sys2Proof.Machine.execLdgRelease t h s
  | .ldgSnapshot t n => Sys2Proof.Machine.execLdgSnapshot t n s
  | .scannerVisit t n => Sys2Proof.Machine.execScannerVisit t n s
  | .kvPage t hd h no kib data => Sys2Proof.Machine.execKvPage t hd h no kib data s
  | .kvEnd t hd h pages => Sys2Proof.Machine.execKvEnd t hd h pages s
  | .kvAck t hd h no => Sys2Proof.Machine.execKvAck t hd h no s
  | .kvPageEvict t hd h no kib data => Sys2Proof.Machine.execKvPageEvict t hd h no kib data s
  | .kvEndEvict t hd h pages => Sys2Proof.Machine.execKvEndEvict t hd h pages s
  | .ftStoreAck t hd status handle => Sys2Proof.Machine.execFtStoreAck t hd status handle s
  | .ftStoreAckTimeout t n no => Sys2Proof.Machine.execFtStoreAckTimeout t n no s
  | .evictKvEndTimeout t n => Sys2Proof.Machine.execEvictKvEndTimeout t n s
  | .ftData t hd status kib data => Sys2Proof.Machine.execFtData t hd status kib data s
  | .ftFetchTimeout t n no => Sys2Proof.Machine.execFtFetchTimeout t n no s
  | .ftFreeAck t hd => Sys2Proof.Machine.execFtFreeAck t hd s
  | .ftFreeTimeout t => Sys2Proof.Machine.execFtFreeTimeout t s
  | .candList t hd body => Sys2Proof.Machine.execCandList t hd body s
  | .budgetRefill t => Sys2Proof.Machine.execBudgetRefill t s
  | .balancerEval t => Sys2Proof.Machine.execBalancerEval t s
  | .groupMoveDone t => Sys2Proof.Machine.execGroupMoveDone t s
  | .pvcInvalidateTenant t tenant => Sys2Proof.Machine.execPvcInvalidateTenant t tenant s
  | .pvcInvalidateAll t => Sys2Proof.Machine.execPvcInvalidateAll t s
  | .pvcSweepDone t => Sys2Proof.Machine.execPvcSweepDone t s
  | .pvcHitCopyDone t item unreadable => Sys2Proof.Machine.execPvcHitCopyDone t item unreadable s
  | .amaSearchDone t item us countEcc => Sys2Proof.Machine.execAmaSearchDone t item us countEcc s
  | .cascadeSlotSend t slot item => Sys2Proof.Machine.execCascadeSlotSend t slot item s
  | .cascadeFrameRx t slot frame us => Sys2Proof.Machine.execCascadeFrameRx t slot frame us s
  | .cascadeRingDown t => Sys2Proof.Machine.execCascadeRingDown t s
  | .cascadeRingUp t => Sys2Proof.Machine.execCascadeRingUp t s
  | .cascadeTrainTimeout t => Sys2Proof.Machine.execCascadeTrainTimeout t s
  | .cascadeRetrainTimer t => Sys2Proof.Machine.execCascadeRetrainTimer t s
  | .amaUpdWrite t q m slot => Sys2Proof.Machine.execAmaUpdWrite t q m slot s
  | .amaUpdInvalidate t q m slot => Sys2Proof.Machine.execAmaUpdInvalidate t q m slot s
  | .amaUpdTipIn t q m slot => Sys2Proof.Machine.execAmaUpdTipIn t q m slot s
  | .amaUpdClearBank t q m => Sys2Proof.Machine.execAmaUpdClearBank t q m s
  | .amaUpdSubstep t q srcBad => Sys2Proof.Machine.execAmaUpdSubstep t q srcBad s
  | .amaScrubVisit t bank us shadowBad => Sys2Proof.Machine.execAmaScrubVisit t bank us shadowBad s
  | .tweStep t q m errs countEcc => Sys2Proof.Machine.execTweStep t q m errs countEcc s
  | .stateFetchDone t item rejects err countEcc => Sys2Proof.Machine.execStateFetchDone t item rejects err countEcc s
  | .amtGatherTimeout t q tile => Sys2Proof.Machine.execAmtGatherTimeout t q tile s
  | .amtPassDone t q tile codes wit fails ecc countEcc => Sys2Proof.Machine.execAmtPassDone t q tile codes wit fails ecc countEcc s
  | .xlRerunDone t item cls used residue ecc countEcc => Sys2Proof.Machine.execXlRerunDone t item cls used residue ecc countEcc s
  | .amtCalDue t q tile temp => Sys2Proof.Machine.execAmtCalDue t q tile temp s
  | .amtCalStart t q tile => Sys2Proof.Machine.execAmtCalStart t q tile s
  | .amtCalDone t q tile fits => Sys2Proof.Machine.execAmtCalDone t q tile fits s
  | .amtCalAll t q => Sys2Proof.Machine.execAmtCalAll t q s
  | .xlDemandWindow t q => Sys2Proof.Machine.execXlDemandWindow t q s
  | .spnPortEnable t p v => Sys2Proof.Machine.execSpnPortEnable t p v s
  | .spnPortDisable t p v => Sys2Proof.Machine.execSpnPortDisable t p v s
  | .spnFullTrain t p v => Sys2Proof.Machine.execSpnFullTrain t p v s
  | .spnRetrain t p v => Sys2Proof.Machine.execSpnRetrain t p v s
  | .spnTrainingBlockRx t p lane blk => Sys2Proof.Machine.execSpnTrainingBlockRx t p lane blk s
  | .spnTrainTimeout t p => Sys2Proof.Machine.execSpnTrainTimeout t p s
  | .spnDownRestart t p => Sys2Proof.Machine.execSpnDownRestart t p s
  | .spnFecBlockRx t p blk => Sys2Proof.Machine.execSpnFecBlockRx t p blk s
  | .spnReplayTimeout t p => Sys2Proof.Machine.execSpnReplayTimeout t p s
  | .spnBlockLockLost t p lane => Sys2Proof.Machine.execSpnBlockLockLost t p lane s
  | .spnFastRetrainTimeout t p => Sys2Proof.Machine.execSpnFastRetrainTimeout t p s
  | .unsupportedMessage t hd type body => Sys2Proof.Machine.execUnsupportedMessage t hd type body s
  | .hello t hd kind proto unitId => Sys2Proof.Machine.execHello t hd kind proto unitId s
  | .caps t hd cp => Sys2Proof.Machine.execCaps t hd cp s
  | .capsTimeout t p ep => Sys2Proof.Machine.execCapsTimeout t p ep s
  | .heartbeat t hd hbSeq => Sys2Proof.Machine.execHeartbeat t hd hbSeq s
  | .heartbeatSend t n => Sys2Proof.Machine.execHeartbeatSend t n s
  | .heartbeatWindowEnd t n => Sys2Proof.Machine.execHeartbeatWindowEnd t n s
  | .detach t hd => Sys2Proof.Machine.execDetach t hd s
  | .partnerClose t n => Sys2Proof.Machine.execPartnerClose t n s
  | .partnerOpen t n => Sys2Proof.Machine.execPartnerOpen t n s
  | .partnerDetach t n => Sys2Proof.Machine.execPartnerDetach t n s
  | .rosterSend t => Sys2Proof.Machine.execRosterSend t s
  | .partnerCoolEnd t n => Sys2Proof.Machine.execPartnerCoolEnd t n s
  | .orphanAtHold t n => Sys2Proof.Machine.execOrphanAtHold t n s
  | .sealCountTrigger t => Sys2Proof.Machine.execSealCountTrigger t s
  | .sealTimerTrigger t => Sys2Proof.Machine.execSealTimerTrigger t s
  | .colSealNow t v => Sys2Proof.Machine.execColSealNow t v s
  | .sealSignatureDone t r sg => Sys2Proof.Machine.execSealSignatureDone t r sg s
  | .colTailCommit t v => Sys2Proof.Machine.execColTailCommit t v s
  | .colPushEnable t v => Sys2Proof.Machine.execColPushEnable t v s
  | .colPushWrite t ecc fails => Sys2Proof.Machine.execColPushWrite t ecc fails s
  | .colApertureRead t off ecc => Sys2Proof.Machine.execColApertureRead t off ecc s
  | .bindStage t win => Sys2Proof.Machine.execBindStage t win s
  | .bindStageDone t data => Sys2Proof.Machine.execBindStageDone t data s
  | .bindDiscard t => Sys2Proof.Machine.execBindDiscard t s
  | .bindLoad t => Sys2Proof.Machine.execBindLoad t s
  | .bindLoadDone t => Sys2Proof.Machine.execBindLoadDone t s
  | .configRestoreDone t q => Sys2Proof.Machine.execConfigRestoreDone t q s
  | .catAdd t win variant => Sys2Proof.Machine.execCatAdd t win variant s
  | .catAddDone t data => Sys2Proof.Machine.execCatAddDone t data s
  | .catRemove t variant => Sys2Proof.Machine.execCatRemove t variant s
  | .catSizeWrite t v => Sys2Proof.Machine.execCatSizeWrite t v s
  | .msetWrite t q slot v => Sys2Proof.Machine.execMsetWrite t q slot v s
  | .censusSettled t n => Sys2Proof.Machine.execCensusSettled t n s
  | .fltCensusRead t n => Sys2Proof.Machine.execFltCensusRead t n s
  | .fltCensusRetry t h => Sys2Proof.Machine.execFltCensusRetry t h s
  | .modelScrubVisit t q addr uncorr => Sys2Proof.Machine.execModelScrubVisit t q addr uncorr s
  | .modelRepairDone t q addr again => Sys2Proof.Machine.execModelRepairDone t q addr again s
  | .nvmRead t win => Sys2Proof.Machine.execNvmRead t win s
  | .nvmProgram t win => Sys2Proof.Machine.execNvmProgram t win s
  | .nvmErase t => Sys2Proof.Machine.execNvmErase t s
  | .nvmOpDone t data bad => Sys2Proof.Machine.execNvmOpDone t data bad s
  | .epdCheck t win data => Sys2Proof.Machine.execEpdCheck t win data s
  | .epdWrite t win data bad => Sys2Proof.Machine.execEpdWrite t win data bad s
  | .epdWriteDone t chunks bad => Sys2Proof.Machine.execEpdWriteDone t chunks bad s
  | .epdResume t win data => Sys2Proof.Machine.execEpdResume t win data s
  | .epdArm t => Sys2Proof.Machine.execEpdArm t s
  | .epdPreloadDone t upset => Sys2Proof.Machine.execEpdPreloadDone t upset s
  | .epdDisarm t => Sys2Proof.Machine.execEpdDisarm t s
  | .epdSet t key => Sys2Proof.Machine.execEpdSet t key s
  | .epdGet t key => Sys2Proof.Machine.execEpdGet t key s
  | .handoverDone t recordOk => Sys2Proof.Machine.execHandoverDone t recordOk s
  | .powerOn t => Sys2Proof.Machine.execPowerOn t s
  | .resetNLow t ns => Sys2Proof.Machine.execResetNLow t ns s
  | .perstNLow t ns => Sys2Proof.Machine.execPerstNLow t ns s
  | .brownOut t ns => Sys2Proof.Machine.execBrownOut t ns s
  | .coldStart t c => Sys2Proof.Machine.execColdStart t c s
  | .shlResetCold t guard => Sys2Proof.Machine.execShlResetCold t guard s
  | .shlResetWarm t guard w => Sys2Proof.Machine.execShlResetWarm t guard w s
  | .shlResetQuire t guard quires tEnd badJournals cals => Sys2Proof.Machine.execShlResetQuire t guard quires tEnd badJournals cals s
  | .scpWatchdogExpiry t w => Sys2Proof.Machine.execScpWatchdogExpiry t w s
  | .qsvWatchdogExpiry t q tEnd badJournals cals => Sys2Proof.Machine.execQsvWatchdogExpiry t q tEnd badJournals cals s
  | .qsvMemoryError t q tEnd badJournals cals => Sys2Proof.Machine.execQsvMemoryError t q tEnd badJournals cals s
  | .pcieHotReset t speed width w => Sys2Proof.Machine.execPcieHotReset t speed width w s
  | .pcieLinkDown t speed width w => Sys2Proof.Machine.execPcieLinkDown t speed width w s
  | .pfFlr t w => Sys2Proof.Machine.execPfFlr t w s
  | .vfFlr t vf busy => Sys2Proof.Machine.execVfFlr t vf busy s
  | .pwrStateRequest t target => Sys2Proof.Machine.execPwrStateRequest t target s
  | .pwrTransitionDone t env => Sys2Proof.Machine.execPwrTransitionDone t env s
  | .wakeNLow t ns => Sys2Proof.Machine.execWakeNLow t ns s
  | .thermalReading t tj sensor => Sys2Proof.Machine.execThermalReading t tj sensor s
  | .thermalResume t cals => Sys2Proof.Machine.execThermalResume t cals s
  | .criticalTemp t => Sys2Proof.Machine.execCriticalTemp t s
  | .tamperEvent t code active => Sys2Proof.Machine.execTamperEvent t code active s
  | .lockdownEntry t => Sys2Proof.Machine.execLockdownEntry t s
  | .secProvBegin t draw attest => Sys2Proof.Machine.execSecProvBegin t draw attest s
  | .secProvCommit t nonce bad => Sys2Proof.Machine.execSecProvCommit t nonce bad s
  | .secProvAbort t => Sys2Proof.Machine.execSecProvAbort t s
  | .winEnable t fn w v => Sys2Proof.Machine.execWinEnable t fn w v s
  | .winDisable t fn w v busy => Sys2Proof.Machine.execWinDisable t fn w v busy s
  | .winDrained t w => Sys2Proof.Machine.execWinDrained t w s
  | .qpEnable t fn q v => Sys2Proof.Machine.execQpEnable t fn q v s
  | .qpDisable t fn q v => Sys2Proof.Machine.execQpDisable t fn q v s
  | .qpSqTailWrite t fn q v => Sys2Proof.Machine.execQpSqTailWrite t fn q v s
  | .qpCqHeadWrite t fn q v => Sys2Proof.Machine.execQpCqHeadWrite t fn q v s
  | .qpNop t q inp => Sys2Proof.Machine.execQpNop t q inp s
  | .qpFolioCancel t q inp => Sys2Proof.Machine.execQpFolioCancel t q inp s
  | .qpFolioRelease t q inp => Sys2Proof.Machine.execQpFolioRelease t q inp s
  | .qpFolioRead t q inp => Sys2Proof.Machine.execQpFolioRead t q inp s
  | .qpCensusRead t q inp => Sys2Proof.Machine.execQpCensusRead t q inp s
  | .qpCensusRetry t q inp => Sys2Proof.Machine.execQpCensusRetry t q inp s
  | .msixModIntervalEnd t fn vec => Sys2Proof.Machine.execMsixModIntervalEnd t fn vec s
  | .i3cAddressAssign t addr => Sys2Proof.Machine.execI3cAddressAssign t addr s
  | .i3cSetIndex t index => Sys2Proof.Machine.execI3cSetIndex t index s
  | .i3cRead t count => Sys2Proof.Machine.execI3cRead t count s
  | .i3cWake t b1 b2 => Sys2Proof.Machine.execI3cWake t b1 b2 s
  | .i3cEnec t => Sys2Proof.Machine.execI3cEnec t s
  | .jtagTapReset t => Sys2Proof.Machine.execJtagTapReset t s
  | .jtagExtest t inputs cells => Sys2Proof.Machine.execJtagExtest t inputs cells s
  | .jtagSamplePreload t inputs cells => Sys2Proof.Machine.execJtagSamplePreload t inputs cells s
  | .jtagBypass t code => Sys2Proof.Machine.execJtagBypass t code s
  | .powerDown t => Sys2Proof.Machine.execPowerDown t s
  | .thermTripRelease t ns hottest => Sys2Proof.Machine.execThermTripRelease t ns hottest s
  | .functionDStateChange t fn toD3 => Sys2Proof.Machine.execFunctionDStateChange t fn toD3 s
  | .msixVectorUnmask t fn vec => Sys2Proof.Machine.execMsixVectorUnmask t fn vec s

end Sys2Proof.Machine
end

