-- ==== Sys2Proof/WellFormed.lean ====
section
/-!
DEFINITION. Well-formed commands: the lengths and ranges that the types of the operands do not already give. The meanings are
total; a command that is not well-formed stands for nothing that the spec describes.
-/
namespace Sys2Proof

open Machine

/-- Page data has the length of its PAGE_KIB (R284, Table 11.9). -/
def pageOk (kib : Nat) (data : Bytes) : Bool := pageKibOk kib && data.length == 1024 * kib

/-- A CAND_LIST body has a header and as many entries as it says (Table 10.2). -/
def candOk (body : Bytes) : Bool := body.length == 16 + 8 * fieldAt 8 1 body

/-- The fields of a CAPS body fit it (Table 11.9). -/
def Machine.Caps.ok (c : Caps) : Bool :=
  c.flags < 16 && (c.pageKib == 0 || pageKibOk c.pageKib) && 1 ≤ c.maxCand && c.maxCand ≤ 64 && c.maxStreams < 2 ^ 32 &&
    c.ftPages < 2 ^ 32 && c.maxBody < 2 ^ 32

/-- An FEC block yields five flits of 256 bytes, with at most 15 corrected symbols in each codeword (R271). -/
def fecOk (b : Option (Nat × Nat × List Bytes)) : Bool :=
  match b with
  | some (x, y, fs) => x ≤ 15 && y ≤ 15 && fs.length == 5 && fs.all fun f => f.length == 256
  | none => true

/-- A chunk of a firmware image (Table 16.3). -/
def chunkOk (d : DmaIn) : Bool := match d with | .ok b => b.length == 65536 | .error => true

/-- A submission entry (Table 18.6). -/
def sqeOk (d : DmaIn) : Bool := match d with | .ok b => b.length == 64 | .error => true

/-- Every calibration fits nine rows (Table 9.4). -/
def calsOk (l : List CalIn) : Bool := l.all fun c => c.rows.length == 9

/-- The host link as HIF_LINK shows it (R454): down, or a speed and a width that the part has. -/
def linkOk (speed : Fin 8) (width : Fin 32) : Bool :=
  (speed.val == 0 && width.val == 0) || (1 ≤ speed.val && speed.val ≤ 5 && (width.val == 4 || width.val == 8 || width.val == 16))

/-- The codes of Table 17.6 that name a sensor. -/
def tamperOk (code : Nat) : Bool := (1 ≤ code && code ≤ 4) || (0x10 ≤ code && code ≤ 0x13)

/-- A vector of a function's MSI-X table (R454). -/
def vecOk (fn : Fin 32) (vec : Fin 1024) : Bool := fn.val == 0 || vec.val < 32

/-- The command is well-formed. -/
def Instr.wf : Instr → Bool
  | .registerWrite _ _ off _ => off.toNat % 4 == 0
  | .readLoLatchHi _ _ _ => true
  | .bar0BadAccessWrite _ _ => true
  | .refClockLost _ => true
  | .refClockRelock _ => true
  | .refLostSeenClear _ => true
  | .marginEval _ _ _ => true
  | .admissionSchedule _ _ => true
  | .gateRelease _ _ => true
  | .itemComputeDone _ _ _ => true
  | .gatherBegin _ => true
  | .drainStart _ => true
  | .drainEnd _ _ => true
  | .quiescenceDone _ => true
  | .gatherSeal _ => true
  | .openLimitExpiry _ => true
  | .openLimitWrite _ _ => true
  | .gatherSwitchDone _ => true
  | .reqOpen _ _ _ => true
  | .reqTokens _ _ _ _ toks => 1 ≤ toks.length && toks.length ≤ 1024
  | .reqEnd _ _ _ => true
  | .reqAttr _ _ _ es => 1 ≤ es.length && es.length ≤ 64
  | .reqCancel _ _ _ => true
  | .cancelCommit _ => true
  | .reqPause _ _ _ _ _ => true
  | .reqResume _ _ _ _ => true
  | .ldgCancel _ _ => true
  | .ldgRelease _ _ => true
  | .ldgSnapshot _ _ => true
  | .scannerVisit _ _ => true
  | .kvPage _ _ _ _ kib data => pageOk kib.val data
  | .kvEnd _ _ _ pages => pages.toNat ≤ 2 ^ 22
  | .kvAck _ _ _ _ => true
  | .kvPageEvict _ _ _ _ kib data => pageOk kib.val data
  | .kvEndEvict _ _ _ pages => pages.toNat ≤ 2 ^ 22
  | .ftStoreAck _ _ _ _ => true
  | .ftStoreAckTimeout _ _ _ => true
  | .evictKvEndTimeout _ _ => true
  | .ftData _ _ _ kib data => pageOk kib.val data
  | .ftFetchTimeout _ _ _ => true
  | .ftFreeAck _ _ => true
  | .ftFreeTimeout _ => true
  | .candList _ _ body => candOk body
  | .budgetRefill _ => true
  | .balancerEval _ => true
  | .groupMoveDone _ => true
  | .pvcInvalidateTenant _ _ => true
  | .pvcInvalidateAll _ => true
  | .pvcSweepDone _ => true
  | .pvcHitCopyDone _ _ _ => true
  | .amaSearchDone _ _ _ _ => true
  | .cascadeSlotSend _ _ _ => true
  | .cascadeFrameRx _ _ frame _ => frame.length == 64
  | .cascadeRingDown _ => true
  | .cascadeRingUp _ => true
  | .cascadeTrainTimeout _ => true
  | .cascadeRetrainTimer _ => true
  | .amaUpdWrite _ _ _ _ => true
  | .amaUpdInvalidate _ _ _ _ => true
  | .amaUpdTipIn _ _ _ _ => true
  | .amaUpdClearBank _ _ _ => true
  | .amaUpdSubstep _ _ _ => true
  | .amaScrubVisit _ _ _ _ => true
  | .tweStep _ _ _ _ _ => true
  | .stateFetchDone _ _ rejects _ _ => rejects.all (· < 32)
  | .amtGatherTimeout _ _ _ => true
  | .amtPassDone _ _ _ _ _ fails _ _ => fails.all (· < 8)
  | .xlRerunDone _ _ _ _ _ _ _ => true
  | .amtCalDue _ _ _ _ => true
  | .amtCalStart _ _ _ => true
  | .amtCalDone _ _ _ fits => fits.length == 9
  | .amtCalAll _ _ => true
  | .xlDemandWindow _ _ => true
  | .spnPortEnable _ _ _ => true
  | .spnPortDisable _ _ _ => true
  | .spnFullTrain _ _ _ => true
  | .spnRetrain _ _ _ => true
  | .spnTrainingBlockRx _ _ _ _ => true
  | .spnTrainTimeout _ _ => true
  | .spnDownRestart _ _ => true
  | .spnFecBlockRx _ _ blk => fecOk blk
  | .spnReplayTimeout _ _ => true
  | .spnBlockLockLost _ _ _ => true
  | .spnFastRetrainTimeout _ _ => true
  | .unsupportedMessage _ _ _ body => body.length ≤ 65552
  | .hello _ _ _ _ unitId => unitId.length == 16
  | .caps _ _ cp => cp.ok
  | .capsTimeout _ _ _ => true
  | .heartbeat _ _ _ => true
  | .heartbeatSend _ _ => true
  | .heartbeatWindowEnd _ _ => true
  | .detach _ _ => true
  | .partnerClose _ _ => true
  | .partnerOpen _ _ => true
  | .partnerDetach _ _ => true
  | .rosterSend _ => true
  | .partnerCoolEnd _ _ => true
  | .orphanAtHold _ _ => true
  | .sealCountTrigger _ => true
  | .sealTimerTrigger _ => true
  | .colSealNow _ _ => true
  | .sealSignatureDone _ _ _ => true
  | .colTailCommit _ _ => true
  | .colPushEnable _ _ => true
  | .colPushWrite _ _ _ => true
  | .colApertureRead _ _ _ => true
  | .bindStage _ _ => true
  | .bindStageDone _ _ => true
  | .bindDiscard _ => true
  | .bindLoad _ => true
  | .bindLoadDone _ => true
  | .configRestoreDone _ _ => true
  | .catAdd _ _ _ => true
  | .catAddDone _ _ => true
  | .catRemove _ _ => true
  | .catSizeWrite _ _ => true
  | .msetWrite _ _ _ _ => true
  | .censusSettled _ _ => true
  | .fltCensusRead _ _ => true
  | .fltCensusRetry _ _ => true
  | .modelScrubVisit _ _ _ _ => true
  | .modelRepairDone _ _ _ _ => true
  | .nvmRead _ _ => true
  | .nvmProgram _ _ => true
  | .nvmErase _ => true
  | .nvmOpDone _ _ _ => true
  | .epdCheck _ _ data => chunkOk data
  | .epdWrite _ _ data _ => chunkOk data
  | .epdWriteDone _ chunks _ => chunks.all chunkOk
  | .epdResume _ _ data => chunkOk data
  | .epdArm _ => true
  | .epdPreloadDone _ _ => true
  | .epdDisarm _ => true
  | .epdSet _ _ => true
  | .epdGet _ _ => true
  | .handoverDone _ _ => true
  | .powerOn _ => true
  | .resetNLow _ _ => true
  | .perstNLow _ _ => true
  | .brownOut _ _ => true
  | .coldStart _ c => calsOk c.cals && linkOk c.speed c.width
  | .shlResetCold _ _ => true
  | .shlResetWarm _ _ w => calsOk w.cals
  | .shlResetQuire _ _ _ _ _ cals => calsOk cals
  | .scpWatchdogExpiry _ w => calsOk w.cals
  | .qsvWatchdogExpiry _ _ _ _ cals => calsOk cals
  | .qsvMemoryError _ _ _ _ cals => calsOk cals
  | .pcieHotReset _ speed width w => calsOk w.cals && linkOk speed width
  | .pcieLinkDown _ speed width w => calsOk w.cals && linkOk speed width
  | .pfFlr _ w => calsOk w.cals
  | .vfFlr _ vf busy => 1 ≤ vf.val && busy.all (· < 64)
  | .pwrStateRequest _ _ => true
  | .pwrTransitionDone _ env => calsOk env.cals && linkOk env.speed env.width
  | .wakeNLow _ _ => true
  | .thermalReading _ _ _ => true
  | .thermalResume _ cals => calsOk cals
  | .criticalTemp _ => true
  | .tamperEvent _ code _ => tamperOk code.toNat
  | .lockdownEntry _ => true
  | .secProvBegin _ _ attest => attest.length == 96
  | .secProvCommit _ nonce _ => nonce.length == 12
  | .secProvAbort _ => true
  | .winEnable _ _ _ _ => true
  | .winDisable _ _ _ _ _ => true
  | .winDrained _ _ => true
  | .qpEnable _ _ _ _ => true
  | .qpDisable _ _ _ _ => true
  | .qpSqTailWrite _ _ _ _ => true
  | .qpCqHeadWrite _ _ _ _ => true
  | .qpNop _ _ inp => sqeOk inp
  | .qpFolioCancel _ _ inp => sqeOk inp
  | .qpFolioRelease _ _ inp => sqeOk inp
  | .qpFolioRead _ _ inp => sqeOk inp
  | .qpCensusRead _ _ inp => sqeOk inp
  | .qpCensusRetry _ _ inp => sqeOk inp
  | .msixModIntervalEnd _ fn vec => vecOk fn vec
  | .i3cAddressAssign _ _ => true
  | .i3cSetIndex _ _ => true
  | .i3cRead _ _ => true
  | .i3cWake _ _ _ => true
  | .i3cEnec _ => true
  | .jtagTapReset _ => true
  | .jtagExtest _ inputs cells => inputs.length == 4 && cells.length == 13
  | .jtagSamplePreload _ inputs cells => inputs.length == 4 && cells.length == 13
  | .jtagBypass _ code => 2 ≤ code.val
  | .powerDown _ => true
  | .thermTripRelease _ _ _ => true
  | .functionDStateChange _ _ _ => true
  | .msixVectorUnmask _ fn vec => vecOk fn vec

end Sys2Proof
end

