-- ==== Sys2Proof/Safety.lean ====
section
/-!
DEFINITION. What counts as a good state and a safe run, in the terms that claims use: the canonical form of the sparse contents,
the order of the chain, the well-formedness of what waits in the queue.
-/
namespace Sys2Proof.Machine

/-- The chain, held newest first, is in the order of R337: no Colophon stands behind one that comes before it. -/
def chainOrdered : List Col → Bool
  | [] => true
  | c :: cs => cs.all (fun d => !c.before d) && chainOrdered cs

/-- The sparse contents of the part are in canonical form: keys rise, and nothing is listed that an unlisted key reads as. -/
structure State.Canon (s : State) : Prop where
  regs : Sparse.wf resetOf s.regs = true
  folios : Sparse.wf (fun _ => Folio.blank) s.ldg.folios = true
  runs : Sparse.wf (fun _ => FRun.zero) s.ldg.runs = true
  ports : Sparse.wf (fun _ => Port.blank) s.ports = true
  partners : Sparse.wf (fun _ => Partner.blank) s.parts.table = true
  pages : Sparse.wf blankPage s.nvm.pages = true
  msix : Sparse.wf (fun _ => MsixEnt.reset) s.hif.msix = true
  qps : Sparse.wf (fun _ => Qp.zero) s.hif.qps = true
  booked : Sparse.wf (fun _ => 0) s.dkl.booked = true
  backlog : Sparse.wf (fun _ => 0) s.adm.backlog = true
  tiles : Sparse.wf (fun _ => Tile.blank) s.eng.tiles = true

/-- No tick has more than 16 releases booked (R37). -/
def GateRoom (b : Sparse Nat) : Prop := ∀ t, Sparse.get (fun _ => 0) b t ≤ 16

/-- Every command that waits is well-formed. -/
def State.queueOk (s : State) : Bool := s.pending.all Instr.wf

/-- The boundary register has its 13 cells (R498). -/
def Pins.cellsOk (p : Pins) : Bool := p.captured.length == 13 && p.shifted.length == 13

/-- A step went on: neither a fault nor a refusal. -/
def goesOn (o : Host.Outcome State Fault Refusal) : Bool := match o with | .next _ => true | _ => false

/-- The command, run at s, answers a next state, and P holds of it. -/
def Answers (i : Instr) (s : State) (P : State → Prop) : Prop := ∃ u, exec i s = .next u ∧ P u

/-- Every stored register of s, but those at these offsets, holds in u what it held. -/
def RegsBut (offs : List Nat) (s u : State) : Prop := ∀ off, off ∉ offs → u.rd off = s.rd off

/-- What a command answered, with the parts that it may change put back, is s but for the time and for what a message on vector 0
leaves (R472): the command changed those parts alone. -/
def BackTo (s v : State) : Prop :=
  { v with now := s.now, hif := { v.hif with
      msix := s.hif.msix, modUntil := s.hif.modUntil, modHeld := s.hif.modHeld, sent := s.hif.sent } } = s

/-- Bit i of a field after a write of v over cur, by the field's access code (Table 0.4, R11); `isOpen` says that the gathering is
OPEN. -/
def Access.bitAfter (acc : Access) (isOpen : Bool) (cur v i : Nat) : Bool :=
  match acc with
  | .ro | .wo => cur.testBit i
  | .rw | .rws => v.testBit i
  | .lk => if isOpen then v.testBit i else cur.testBit i
  | .w1c => cur.testBit i && !v.testBit i
  | .w1s => cur.testBit i || v.testBit i

/-- Every folio, and what the device holds for its stream, but those of these numbers, is as it was. -/
def FoliosBut (ns : List Nat) (s u : State) : Prop := ∀ n, n ∉ ns → u.folio n = s.folio n ∧ u.frun n = s.frun n

/-- One Colophon entered the chain, in its place (R336, R337), and P holds of it. -/
def Entered (s u : State) (P : Col → Prop) : Prop := ∃ c, u.chain = insertCol c s.chain ∧ P c

/-- One message of the part's own was put in a send queue in this tick, under a tag that the part chose. -/
def Sent (s u : State) (dst : Endp) (vc status : Nat) (body : MsgBody) : Prop :=
  ∃ tag, u.out = { tick := u.tick, dst := dst, vc := vc, tag := tag, status := status, body := body } :: s.out

/-- One answer to a message was put in a send queue in this tick, under the message's tag. -/
def Replied (s u : State) (hd : Hdr) (status : Nat) (body : MsgBody) : Prop :=
  u.out = { tick := u.tick, dst := hd.src, vc := body.vc, tag := hd.tag.toNat, status := status, body := body } :: s.out

/-- The registers that a Colophon can change as it enters (R348). -/
def colRegs : List Nat := [R.COL_STATUS, R.COL_STOP_COUNT]

/-- The registers that count and show a message refused on port p (R285). -/
def rejectRegs (p : Nat) : List Nat := [R.SPN_PORT_REJECT_COUNT p, R.SPN_PORT_STATUS p]

/-- The registers outside the LK fields that the switch to the next gathering can change (R61, R63, R154, R184, R369, R378). -/
def switchRegs : List Nat :=
  [R.DKL_GATHER_ID, R.DKL_GATHER_STATUS, R.HIF_EVENT, R.SHL_BIND_RESTORE_COUNT, R.SHL_CASCADE_STATUS] ++ colRegs ++
    (List.range 8).map R.QUIRE_AMA_UPD_RESULT ++ allSlots.map (fun p => R.SHL_MSET p.1 p.2)

/-- The part is powered and its start has begun: events of the shell reach it, out of PS3 (R435, R439). -/
def State.liveUp (s : State) : Bool := s.pins.powered && s.started && s.fld F.PWR_STATE_CURRENT != 3

/-- The pause move of folio n failed with this status (R293, R322, R323): the folio goes on under its DECODE partner, the failure is
counted, and the GATEWAY partner is told. -/
def PauseFailed (s u : State) (n status : Nat) : Prop :=
  let f := s.folio n
  u.folio n = { f with pauseReq := false, pages := (u.folio n).pages } ∧ FoliosBut [n] s u ∧
  u.parts.evicts = s.parts.evicts.filter (fun e => e.folio != n) ∧
  u.rd R.SPN_EVICT_FAIL_COUNT = (s.rd R.SPN_EVICT_FAIL_COUNT + 1) % 2 ^ 32 ∧ u.flag F.SPN_PARTNER_STATUS_EVICT_FAIL_SEEN = true ∧
  ((s.partner f.gw).state.on = true →
    u.out.any (fun m => m.dst == (s.partner f.gw).at_ && m.status == status && m.body == .pauseDone (handleOf n f.gen) f.tPause f.tExpire) = true) ∧
  RegsBut [R.SPN_EVICT_FAIL_COUNT, R.SPN_PARTNER_STATUS, R.SPN_PAGE_FWD_COUNT, R.SPN_PAGE_DROP_COUNT] s u ∧
  BackTo s { u with free := s.free, regs := s.regs, ldg := { u.ldg with folios := s.ldg.folios, runs := s.ldg.runs }, ports := s.ports,
                    parts := { u.parts with evicts := s.parts.evicts, strays := s.parts.strays, frees := s.parts.frees }, out := s.out }

/-- Folio n became ORPHANED in this tick (R310, Table 3.4): its work is gone, its GEN is new, it is counted, and one CANCEL Colophon
entered; beside that only the registers `extra` changed. -/
def Orphaned (extra : List Nat) (s u : State) (n : Nat) : Prop :=
  let f := s.folio n
  let g := u.folio n
  g.state = .orphaned ∧ g.gen = (f.gen + 1) % 256 ∧ g.endStatus = 0x22 ∧ g.tCack = u.tick ∧ g.tEnd = u.tick ∧ g.relSeq = f.relSeq ∧
  (∀ m, m ≠ n → u.folio m = s.folio m) ∧ u.adm.live = s.adm.live.filter (fun i => i.folio != n) ∧
  u.adm.queue = s.adm.queue.filter (fun i => i.folio != n) ∧
  u.rd R.LDG_ORPHAN_COUNT = (s.rd R.LDG_ORPHAN_COUNT + 1) % 2 ^ 32 ∧ u.flag F.LDG_STATUS_ORPHAN_SEEN = true ∧
  Entered s u (fun c => c.tick = u.tick ∧ c.rank = rankCancel ∧ c.status = 0x22 ∧ c.handle = handleOf n f.gen ∧ c.tenant = f.tenant ∧
    c.body.kind = 4) ∧
  RegsBut ([R.LDG_ORPHAN_COUNT, R.LDG_STATUS, R.SPN_PAGE_DROP_COUNT] ++ colRegs ++ extra) s u ∧
  BackTo s { u with free := s.free, regs := s.regs, ldg := { u.ldg with folios := s.ldg.folios },
                    adm := { u.adm with live := s.adm.live, queue := s.adm.queue, holders := s.adm.holders, backlog := s.adm.backlog },
                    eng := { u.eng with waitRows := s.eng.waitRows }, ports := s.ports,
                    parts := { u.parts with evicts := s.parts.evicts, strays := s.parts.strays, frees := s.parts.frees,
                                            orphanAt := s.parts.orphanAt },
                    chain := s.chain, out := s.out }

/-- The messages that only an attached endpoint may send and that nothing else of the protocol waits for (R285 step 2): their time and
header. -/
def attachedOnly : Instr → Option (Nat × Hdr)
  | .reqOpen t hd _ | .reqTokens t hd _ _ _ | .reqEnd t hd _ | .reqAttr t hd _ _ | .reqCancel t hd _ | .reqPause t hd _ _ _
  | .reqResume t hd _ _ | .kvAck t hd _ _ | .ftStoreAck t hd _ _ | .ftData t hd _ _ _ | .ftFreeAck t hd | .candList t hd _
  | .heartbeat t hd _ => some (t, hd)
  | _ => none

/-- The registers that the next entry of the fault log is written to (R384, R385). -/
def logRegs (s : State) : List Nat :=
  [R.FLT_STATUS, R.FLT_LOG_SEQ] ++ (List.range 8).map (fun w => R.FLT_LOG (s.rd R.FLT_LOG_SEQ % 128) w)

/-- The registers that show a quarantine in quire q, beside the fault log (R188). -/
def quarRegs (q : Nat) : List Nat := [R.QUIRE_AMA_QUARANTINE_COUNT q, R.QUIRE_AMA_MAINT_STATUS q]

/-- Folio n, live before, became FAULTED in this tick over this fault, with no page move under way (R386, R387, R391): its admitted items
are held, one FAULT Colophon entered, it is counted and in the fault log; beside that only the registers `extra` changed. -/
def Faulted (extra : List Nat) (s u : State) (n block status quire engine : Nat) : Prop :=
  let f := s.folio n
  let g := u.folio n
  g = { f with state := .faulted, census := g.census, censusStep := g.censusStep } ∧ FoliosBut [n] s u ∧
  ((u.frun n).cens.map (·.prior)) = some f.state ∧ ((u.frun n).cens.map (·.block)) = some block ∧
  ((u.frun n).cens.map (·.status)) = some status ∧ ((u.frun n).cens.map (·.quire)) = some quire ∧
  ((u.frun n).cens.map (·.engine)) = some engine ∧ ((u.frun n).cens.map (·.settled)) = some false ∧
  (∀ i ∈ u.adm.live, i.folio = n → i.phase ≠ .admitted) ∧ u.adm.live.map (·.id) = s.adm.live.map (·.id) ∧
  u.rd R.FLT_FOLIO_FAULT_COUNT = (s.rd R.FLT_FOLIO_FAULT_COUNT + 1) % 2 ^ 32 ∧ u.flag F.FLT_STATUS_FOLIO_FAULT_SEEN = true ∧
  u.rd R.FLT_LOG_SEQ = (s.rd R.FLT_LOG_SEQ + 1) % 2 ^ 32 ∧
  Entered s u (fun c => c.tick = u.tick ∧ c.rank = rankFault ∧ c.sub = n ∧ c.status = status ∧ c.handle = handleOf n f.gen ∧
    c.tenant = f.tenant ∧ c.body.kind = 8) ∧
  RegsBut (R.FLT_FOLIO_FAULT_COUNT :: logRegs s ++ colRegs ++ extra) s u ∧
  BackTo s { u with regs := s.regs, ldg := { u.ldg with folios := s.ldg.folios, runs := s.ldg.runs },
                    adm := { u.adm with live := s.adm.live, backlog := s.adm.backlog },
                    eng := { u.eng with waitRows := s.eng.waitRows, samples := s.eng.samples, xlUsed := s.eng.xlUsed }, chain := s.chain }

/-- The live folios that one of these partners is bound to, in index order (R75, R310). -/
def State.boundTo (s : State) (ns : List Nat) : List Nat :=
  (s.ldg.folios.filter fun x => x.2.state.live && ns.any (s.isBound x.1)).map (·.1)

/-- The partners on this port that exchange messages. -/
def State.onPort (s : State) (p : Nat) : List Nat := (s.parts.table.filter fun x => x.2.state.on && x.2.at_.port == p).map (·.1)

/-- The partners ns, on before, were lost in this tick with this reason (R302, R308, R310): their numbers cool, every live folio that one
of them was bound to is ORPHANED, they are counted, and a ROSTER is due; beside that only the registers `extra` changed. -/
def PartnersLost (extra : List Nat) (s u : State) (ns : List Nat) (reason : Nat) : Prop :=
  (∀ n ∈ ns, u.partner n = { s.partner n with state := .cooling, loss := reason, lostAt := u.tick }) ∧
  (∀ n, n ∉ ns → u.partner n = s.partner n) ∧
  (∀ m ∈ s.boundTo ns, (u.folio m).state = .orphaned ∧ (u.folio m).gen = ((s.folio m).gen + 1) % 256 ∧ (u.folio m).tCack = u.tick) ∧
  (∀ m, m ∉ s.boundTo ns → u.folio m = s.folio m) ∧
  u.rd R.LDG_ORPHAN_COUNT = (s.rd R.LDG_ORPHAN_COUNT + (s.boundTo ns).length) % 2 ^ 32 ∧
  u.chain.length = s.chain.length + (s.boundTo ns).length ∧
  u.rd R.SPN_LOSS_COUNT = (s.rd R.SPN_LOSS_COUNT + ns.length) % 2 ^ 32 ∧
  (ns ≠ [] → u.flag F.SPN_PARTNER_STATUS_LOSS_SEEN = true ∧ u.parts.rosterAfter = insertNat u.tick s.parts.rosterAfter) ∧
  RegsBut ([R.SPN_LOSS_COUNT, R.SPN_PARTNER_STATUS, R.LDG_ORPHAN_COUNT, R.LDG_STATUS, R.SPN_PAGE_DROP_COUNT] ++ colRegs ++ extra) s u ∧
  BackTo s { u with free := s.free, regs := s.regs, ldg := { u.ldg with folios := s.ldg.folios },
                    adm := { u.adm with live := s.adm.live, queue := s.adm.queue, holders := s.adm.holders, backlog := s.adm.backlog },
                    eng := { u.eng with waitRows := s.eng.waitRows }, ports := s.ports,
                    parts := { u.parts with table := s.parts.table, attaches := s.parts.attaches, rosterAfter := s.parts.rosterAfter,
                                            frees := s.parts.frees, strays := s.parts.strays, evicts := s.parts.evicts,
                                            orphanAt := s.parts.orphanAt },
                    chain := s.chain, out := s.out }

/-- A full training began on port p (R266, R267, R268): every partner on it is lost and the link's state is discarded. -/
def FullTrained (extra : List Nat) (s u : State) (p : Nat) : Prop :=
  u.portState p = 2 ∧ u.fld (F.SPN_PORT_STATUS_EPS p) = 0 ∧
  u.rd (R.SPN_PORT_TRAIN_COUNT p) = (s.rd (R.SPN_PORT_TRAIN_COUNT p) + 1) % 2 ^ 32 ∧
  u.port p = { (s.port p).clearLink with
    t0 := u.now, rate := u.fld (F.SPN_PORT_CTRL_RATE_64 p), fell := false, failed := 0, limit4 := u.flag (F.SPN_PORT_CTRL_WIDTH_4 p) } ∧
  (s.onPort p = [] → ∀ k, k ≠ p → u.port k = s.port k) ∧ u.parts.attaches = s.parts.attaches.filter (fun a => a.at_.port != p) ∧
  PartnersLost (extra ++ [R.SPN_PORT_STATUS p, R.SPN_PORT_TRAIN_COUNT p]) s u (s.onPort p) 3

/-- A fast retrain began on port p (R269). -/
def FastRetrained (extra : List Nat) (s u : State) (p : Nat) : Prop :=
  u.portState p = 4 ∧ u.flag (F.SPN_PORT_STATUS_RETRAIN_SEEN p) = true ∧
  u.rd (R.SPN_PORT_RETRAIN_COUNT p) = (s.rd (R.SPN_PORT_RETRAIN_COUNT p) + 1) % 2 ^ 32 ∧
  u.port p = { s.port p with retrainAt := u.now, locked := 0, remWidth := 0, dataOn := false, initRx := false, initSeen := false } ∧
  (∀ k, k ≠ p → u.port k = s.port k) ∧
  RegsBut (extra ++ [R.SPN_PORT_STATUS p, R.SPN_PORT_RETRAIN_COUNT p]) s u ∧ BackTo s { u with regs := s.regs, ports := s.ports }

/-- Part 0 of a seal with this TRIGGER entered in this tick and waits for its signature (R339); beside that only the registers `extra`
changed. -/
def SealOpened (extra : List Nat) (s u : State) (trigger : Nat) : Prop :=
  Entered s u (fun c => c.tick = u.tick ∧ c.rank = rankSeal0 ∧ c.status = 0 ∧
    c.body = .seal0 ((lastPart0 s.chain).1 + 1) (lastPart0 s.chain).2 trigger s.col.keyEpoch s.ama.ver s.ama.digest) ∧
  u.col = { s.col with pendingSig := some 0, hostReq := false, warmReq := false } ∧ u.flag F.COL_STATUS_SEAL_PENDING = true ∧
  RegsBut (colRegs ++ extra) s u ∧ BackTo s { u with regs := s.regs, chain := s.chain, col := s.col }

/-- The registers that a transfer refused with 0x10 BOUNDARY, or ended by an error, is shown in (R464, R465). -/
def dmaRegs : List Nat := [R.HIF_DMA_FAULT_ADDR_LO, R.HIF_DMA_FAULT_INFO, R.HIF_STATUS]

/-- SHL_BIND_RESULT shows a command that ended with this status and DETAIL, and none runs. -/
def BindDone (u : State) (status detail : Nat) : Prop :=
  u.fld F.SHL_BIND_RESULT_STATUS = status ∧ u.flag F.SHL_BIND_RESULT_BUSY = false ∧ u.fld F.SHL_BIND_RESULT_DETAIL = detail ∧ u.bnd.op = none

/-- SHL_BIND_RESULT shows that this command runs. -/
def BindRuns (u : State) (op : BindOp) : Prop :=
  u.fld F.SHL_BIND_RESULT_STATUS = 0 ∧ u.flag F.SHL_BIND_RESULT_BUSY = true ∧ u.fld F.SHL_BIND_RESULT_DETAIL = 0xFFFF ∧ u.bnd.op = some op

/-- NVM_RESULT shows a command that ended with this status, and none runs. -/
def NvmDone (u : State) (status : Nat) : Prop :=
  u.fld F.NVM_RESULT_STATUS = status ∧ u.flag F.NVM_RESULT_BUSY = false ∧ u.nvm.op = none

/-- EPD_RESULT shows a command that ended with this status and DETAIL, and none runs. -/
def EpdDone (u : State) (status detail : Nat) : Prop :=
  u.fld F.EPD_RESULT_STATUS = status ∧ u.flag F.EPD_RESULT_BUSY = false ∧ u.fld F.EPD_RESULT_DETAIL = detail ∧ u.epd.op = none


/-- PHASE became this, in the register and in the update journal, whose record is written beside the older one (R415). -/
def PhaseMoved (s u : State) (phase : Nat) : Prop :=
  u.fld F.EPD_STATE_PHASE = phase ∧ u.epd.older = s.epd.journal ∧
  u.epd.journal = { seq := s.epd.journal.seq + 1, phase := phase, digest := s.epd.journal.digest, cursor := s.epd.journal.cursor }

/-- EPD_RESULT shows that a write runs with this chunk 0. -/
def EpdRuns (u : State) (win src : Nat) (c0 : Bytes) : Prop :=
  u.fld F.EPD_RESULT_STATUS = 0 ∧ u.flag F.EPD_RESULT_BUSY = true ∧ u.fld F.EPD_RESULT_DETAIL = 0xFFFF ∧
  u.epd.op = some (.write win src c0)


/-- What a cold reset of s leaves, with this cause (R430 to R432, R350, R490): every register and part at its reset value, the contents
of the non-volatile store and the fuses kept, the pins but VID as they were, and what has left the part as it was. -/
def ColdDone (s u : State) (cause : Nat) : Prop :=
  u.now = 0 ∧ u.fld F.SHL_RESET_CAUSE_COLD = cause ∧ RegsBut [R.SHL_RESET_CAUSE] State.reset u ∧
  u.nvm = { s.nvm with readOnly := false, op := none } ∧
  u.epd = { s.epd with bank0 := .none, bank1 := .none, op := none, handover := none, sealWait := none } ∧
  u.casc.sent = s.casc.sent ∧ u.hif.sent = s.hif.sent ∧ u.hif.ibis = s.hif.ibis ∧ (u.out, u.dma, u.reads) = (s.out, s.dma, s.reads) ∧
  { u with regs := [], nvm := State.reset.nvm, 
           epd := State.reset.epd,
           casc := { u.casc with sent := [] }, hif := { u.hif with sent := [], ibis := [] }, pins := State.reset.pins,
           out := [], dma := [], reads := [], pending := [], free := 0 } = State.reset


/-- Every port with ENABLE 1 started full training (step 13 of Table 17.3, R266, R267), where it had no partner; the others are as they
were. -/
def PortsTrained (s u : State) : Prop :=
  (∀ p : Nat, p < 16 → if s.flag (F.SPN_PORT_CTRL_ENABLE p) = true then
      u.portState p = 2 ∧ u.fld (F.SPN_PORT_STATUS_EPS p) = 0 ∧ u.rd (R.SPN_PORT_TRAIN_COUNT p) = (s.rd (R.SPN_PORT_TRAIN_COUNT p) + 1) % 2 ^ 32 ∧
      u.port p = { (s.port p).clearLink with
        t0 := u.now, rate := s.fld (F.SPN_PORT_CTRL_RATE_64 p), fell := false, failed := 0, limit4 := s.flag (F.SPN_PORT_CTRL_WIDTH_4 p) }
    else u.portState p = s.portState p ∧ u.port p = s.port p) ∧
  (∀ p : Nat, 16 ≤ p → u.port p = s.port p)

/-- The registers that training shows. -/
def trainRegs : List Nat := (List.range 16).flatMap fun p => [R.SPN_PORT_STATUS p, R.SPN_PORT_TRAIN_COUNT p]


/-- What every warm reset does to the HIF and PWR blocks (Table 17.2, R430, R479): the cause is recorded, fields other than RO and RWS take
their reset values, queue pairs and windows are off, MSI-X tables and held messages are gone; a reset of the link trains it again and brings
the functions to D0, a Function Level Reset of the PF brings the PF there. -/
def HifReset (s u : State) (cause speed width : Nat) : Prop :=
  u.fld F.SHL_RESET_CAUSE_WARM = cause ∧
  u.fld F.SHL_RESET_CAUSE_WARM_COUNT = min 0xFFFF (s.fld F.SHL_RESET_CAUSE_WARM_COUNT + 1) ∧
  (if cause = 3 then u.fld F.HIF_LINK_SPEED = speed ∧ u.fld F.HIF_LINK_WIDTH = width else u.rd R.HIF_LINK = s.rd R.HIF_LINK) ∧
  u.hif.msix = [] ∧ u.hif.modUntil = [] ∧ u.hif.modHeld = [] ∧ u.hif.qps = [] ∧ u.hif.sent = s.hif.sent ∧
  u.hif.d3 = (if cause = 3 then [] else if cause = 4 then s.hif.d3.filter (· != 0) else s.hif.d3) ∧
  (∀ off r, regAt off = some r → inHifPwr off = true → off ≠ R.HIF_LINK → ∀ f ∈ r.fields,
    bitsOf f.hi f.lo (u.rd off) =
      if (f.acc = .ro ∨ f.acc = .rws) ∧ ¬(0x1810000 ≤ off ∧ off < 0x1840000) then bitsOf f.hi f.lo (s.rd off)
      else bitsOf f.hi f.lo (resetOf off).toNat)

/-- The five causes of a warm reset (Table 17.1), with their code in SHL_RESET_CAUSE, that reach the device in s. -/
def WarmCmd (t speed width : Nat) (w : WarmIn) (s : State) (i : Instr) (cause : Nat) : Prop :=
  s.hostLink = true ∧ speed < 8 ∧ width < 32 ∧
  (i = .shlResetWarm t 0xB007 w ∧ cause = 1 ∧ s.hostUp 0 = true ∨ i = .scpWatchdogExpiry t w ∧ cause = 2 ∨
   (∃ sp wd, sp.val = speed ∧ wd.val = width ∧ (i = .pcieHotReset t sp wd w ∨ i = .pcieLinkDown t sp wd w)) ∧ cause = 3 ∨
   i = .pfFlr t w ∧ cause = 4)


/-- The command at the head of queue pair q completed after the device wrote `w` to the host, newest first (Tables 18.8, R465, R470): the
head is past its entry, and its completion stands at the completion tail where the ring has room and the window takes it, else it waits. -/
def Completed (s u : State) (q cid status data : Nat) (w : List DmaWrite) : Prop :=
  let p := s.qp q
  let h := (p.sqHead + 1) % 2 ^ s.fld (F.HIF_QP_CTRL_SQ_LOG2 q)
  let tail := (p.cqTail + 1) % 2 ^ s.fld (F.HIF_QP_CTRL_CQ_LOG2 q)
  let win := s.fld (F.HIF_QP_CTRL_WINDOW q)
  let off := s.rd64 (R.HIF_QP_CQ_BASE_LO q) (R.HIF_QP_CQ_BASE_HI q) + 16 * p.cqTail
  let taken := s.dmaStatus win (s.fld (F.HIF_QP_CTRL_OWNER q)) true off 16 = 0
  u.fld (F.HIF_QP_STATUS_SQ_HEAD q) = h % 2 ^ 16 ∧ (∀ j, j ≠ q → u.qp j = s.qp j) ∧
  (if tail = p.cqHead then
    u.qp q = { p with sqHead := h, posts := (u.qp q).posts } ∧ (u.qp q).posts.length = 1 ∧ u.dma = w ++ s.dma
   else
    u.qp q = { p with sqHead := h, cqTail := tail, phase := if tail = 0 then !p.phase else p.phase } ∧
    u.dma = (if taken then [{ tick := u.tick, win := win, off := off
                              data := le 2 cid ++ le 2 h ++ le 1 status ++ le 1 (b2n p.phase) ++ zeros 2 ++ le 8 data }] else []) ++ w ++ s.dma)

/-- What a command of queue pair q changes by being fetched and completed: its head, the fault registers of a transfer, its ring. -/
def QueueOnly (extra : List Nat) (s u : State) (q : Nat) : Prop :=
  RegsBut ([R.HIF_QP_STATUS q] ++ dmaRegs ++ extra) s u ∧
  u.fld (F.HIF_QP_STATUS_ACTIVE q) = s.fld (F.HIF_QP_STATUS_ACTIVE q) ∧ u.fld (F.HIF_QP_STATUS_RESULT q) = s.fld (F.HIF_QP_STATUS_RESULT q) ∧
  u.fld (F.HIF_QP_STATUS_ERROR q) = s.fld (F.HIF_QP_STATUS_ERROR q)

/-- The commands of the queue pairs by opcode (Table 18.7); a reserved opcode runs as NOP does. -/
def queueCmd (t : Nat) (q : Fin 64) (inp : DmaIn) (op : Nat) : Instr :=
  if op = 1 then .qpFolioCancel t q inp else if op = 2 then .qpFolioRelease t q inp else if op = 3 then .qpFolioRead t q inp
  else if op = 4 then .qpCensusRead t q inp else if op = 5 then .qpCensusRetry t q inp else .qpNop t q inp

/-- A folio that the owner of queue pair q may not act on (R462). -/
def State.notOurs (s : State) (q n : Nat) : Bool :=
  let v := s.fld (F.HIF_QP_CTRL_OWNER q)
  decide (v ≠ 0 ∧ ¬(s.fld (F.HIF_VF_TENANTS_FIRST v) ≤ (s.folio n).tenant ∧
    (s.folio n).tenant < s.fld (F.HIF_VF_TENANTS_FIRST v) + s.fld (F.HIF_VF_TENANTS_COUNT v)))

/-- The condition that a chapter sets on the whole of a register holds for v: DKL_RAIL_LIMIT, PWR_THERM_LIMIT and HIF_VF_v_TENANTS keep
their value otherwise. -/
def WholeFits (off v : Nat) : Prop :=
  (off = R.DKL_RAIL_LIMIT → 600 ≤ v % 2 ^ 10 ∧ v / 2 ^ 16 % 2 ^ 10 ≤ 850 ∧ v % 2 ^ 10 ≤ v / 2 ^ 16 % 2 ^ 10) ∧
  (off = R.PWR_THERM_LIMIT → v / 2 ^ 8 % 2 ^ 8 ≤ 115 ∧ v % 2 ^ 8 < v / 2 ^ 8 % 2 ^ 8 ∧ v / 2 ^ 16 % 2 ^ 8 + 5 ≤ v / 2 ^ 8 % 2 ^ 8) ∧
  (R.HIF_VF_TENANTS 1 ≤ off → off ≤ R.HIF_VF_TENANTS 31 → v % 2 ^ 10 + v / 2 ^ 16 % 2 ^ 11 ≤ 1024)

/-- A write of v by function fn reached the register at PF offset `off` and no other (R8, R9, R11, R457): every bit of a field is what the
field's access code makes of it where the field takes the value, every other bit is as it was, an offset that no chapter assigns has none.
The two bits that only rows of their own set or whose register has a rule of its own are not spoken of. -/
def FieldsWritten (fn off v : Nat) (s u : State) : Prop :=
  RegsBut [off] s u ∧ (regAt off = none → u.rd off = s.rd off) ∧
  (∀ r, regAt off = some r → off ≠ R.ADM_BAL_LIMIT →
    (∀ f ∈ r.fields, ∀ i : Nat, f.lo ≤ i → i ≤ f.hi → (off ≠ R.COL_CTRL ∨ i ≠ 1) →
      ((WholeFits off v ∧ s.fieldOk fn off (bitsOf f.hi f.lo v) f.chk = true) →
        (u.rd off).testBit i = f.acc.bitAfter (decide (s.dkl.gather = .openW)) (s.rd off) v i) ∧
      (¬(WholeFits off v ∧ s.fieldOk fn off (bitsOf f.hi f.lo v) f.chk = true) → (u.rd off).testBit i = (s.rd off).testBit i)) ∧
    (∀ i : Nat, r.fields.all (fun f => decide (i < f.lo ∨ f.hi < i)) = true → (u.rd off).testBit i = (s.rd off).testBit i))

/-- Two messages of the part's own with this body were put in send queues in this tick, first to a and then to b, under tags that the
part chose. -/
def SentBoth (s u : State) (a b : Endp) (vc status : Nat) (body : MsgBody) : Prop :=
  ∃ x y, u.out = { tick := u.tick, dst := b, vc := vc, tag := y, status := status, body := body } ::
    { tick := u.tick, dst := a, vc := vc, tag := x, status := status, body := body } :: s.out

/-- Two Colophons entered the chain, one after the other, each in its place (R336, R337), and P holds of the first and Q of the
second. -/
def EnteredBoth (s u : State) (P Q : Col → Prop) : Prop := ∃ a b, u.chain = insertCol b (insertCol a s.chain) ∧ P a ∧ Q b

/-- The result of the search of this table that the item's place calls for: what the local banks give with no upset, what the frame that
came back gave, or INCOMPLETE while the ring is not UP (R146, R157, R159). -/
def State.SearchGives (s : State) (tab : Nat) (rec : TableRec) (i : Item) (r : SearchRes) : Prop :=
  (rec.cascade = false ∧
    s.searchLocal tab (searchKey (widthUnits rec.width) (s.searchAt i i.srchPos).1 i.profile (s.searchAt i i.srchPos).2) [] = (r, s)) ∨
  (rec.cascade = true ∧ (i.casc = some r ∨
    (r = .incomplete ∧ i.casc = none ∧ s.ringUp = false ∧ s.casc.flying.any (fun c => c.item == i.id) = false)))

end Sys2Proof.Machine
end

