-- ==== Sys2Proof/Certificates/Slice0/Obligations.lean ====
section
/-!
DEFINITION. The statements for the provers. A statement that rests on a reading or a choice of the model names the log entry
(notes/assumptions/<n>.md).
-/

open Sys2Proof Sys2Proof.Machine

/-- One step runs the command at the front of the queue on the state with the queue's rest; on an empty queue the part idles (log
entry 2: the model's choice).
The model's readings and choices behind it: log entry 2. -/
def Obligations.StepRunsFrontCommand : Prop :=
  (∀ (c : Instr) (rest : List Instr) (s : State), step { s with pending := c :: rest } = exec c { s with pending := rest }) ∧
  (∀ s : State, s.pending = [] → step s = .next s.idle) ∧
  (∀ s : State, s.pending = [] → s.parts.waiting = [] → step s = .next s)

/-- State.reset meets the invariants that every step keeps (R37, R337, R498). -/
def Obligations.ResetMeetsInvariants : Prop :=
  State.reset.Canon ∧ chainOrdered State.reset.chain = true ∧ GateRoom State.reset.dkl.booked ∧ State.reset.queueOk = true ∧
  State.reset.pending = [] ∧ State.reset.pins.cellsOk = true

/-- State.reset holds the reset values of the register tables (chapters 2 to 18) and what R59, R64, R70 and R336 say of a cold reset. -/
def Obligations.ResetLeavesStatedValues : Prop :=
  (∀ x ∈ [(R.SHL_BIND_RESULT, 0xFFFF0000), (R.SHL_CAT_SIZE, 0x10), (R.DKL_DELAY_IN, 16000), (R.DKL_DELAY_OUT, 2000),
      (R.DKL_RAIL_LIMIT, 850 * 65536 + 600), (R.DKL_RAIL, 750), (R.DKL_OPEN_LIMIT, 5000), (R.DKL_LATE_LIMIT, 3), (R.LDG_SCAN_PERIOD, 10),
      (R.LDG_RETAIN, 100), (R.ADM_CHAN_IN, 0x10000802), (R.ADM_CHAN_OUT, 0x4000803), (R.ADM_BAL_LIMIT, 0x23808), (R.ADM_BAL_CTRL, 0x80319080),
      (R.PVC_CTRL, 3), (R.COL_CTRL, 0xC00), (R.COL_STATUS, 4), (R.FLT_SCRUB_CTRL, 100), (R.PWR_THERM_LIMIT, 0x5F6E64),
      (R.HIF_INT_ENABLE, 0x5FFF), (R.DKL_GATHER_STATUS, 0), (R.DKL_STATUS, 0), (R.LDG_STATUS, 0), (R.FLT_STATUS, 0), (R.HIF_EVENT, 0),
      (R.SHL_BOOT_STATUS, 0)], State.reset.rd x.1 = x.2) ∧
  (∀ n : Nat, n < 1024 → State.reset.rd (R.ADM_TENANT_WEIGHT n) = 0x101 ∧ State.reset.rd (R.ADM_TENANT_RATE_IN n) = 0xFFFFFF ∧
    State.reset.rd (R.ADM_TENANT_RATE_OUT n) = 0xFFFFFF ∧ State.reset.rd (R.ADM_TENANT_BURST n) = 0x1001000) ∧
  (∀ q : Nat, q < 8 → State.reset.rd (R.QUIRE_AMT_CTRL q) = 0x3E8030 ∧ State.reset.rd (R.QUIRE_AMA_SCRUB_CTRL q) = 50 ∧
    State.reset.rd (R.QUIRE_XL_RESERVE q) = 6 ∧ State.reset.rd (R.QUIRE_AMA_MAINT_STATUS q) = 0) ∧
  (∀ p : Nat, p < 16 → State.reset.rd (R.SPN_PORT_CTRL p) = 1 ∧ State.reset.rd (R.SPN_PORT_STATUS p) = 0) ∧
  (∀ x ∈ [(R.LDG_FREE, 65536), (R.LDG_LIVE, 0), (R.ADM_SPLIT, 0x22222222), (R.DKL_TIME_LO, 0)], State.reset.readReg x.1 = x.2) ∧
  State.reset.dkl.gather = .openW ∧ State.reset.dkl.noLimit = true ∧ State.reset.fld F.DKL_GATHER_ID_ID = 0 ∧ State.reset.now = 0 ∧
  State.reset.adm.live = [] ∧ State.reset.adm.queue = [] ∧ (∀ n, (State.reset.folio n).state = .free) ∧ State.reset.chain = [] ∧
  State.reset.out = [] ∧ State.reset.dma = [] ∧ State.reset.reads = []

/-- The queue after a step is the queue's tail: what a command does never adds, drops or reorders what waits (in order of arrival). -/
def Obligations.StepKeepsQueue : Prop :=
  ∀ s u : State, step s = .next u → u.pending = s.pending.tail ∧ (s.queueOk = true → u.queueOk = true)

/-- A field's write follows its access code (R11), leaves the other bits, and leaves the whole field where its encoding, range or
condition refuses the value (R9). -/
def Obligations.FieldWriteFollowsAccessCode : Prop :=
  ∀ (s : State) (fn off v cur : Nat) (f : FieldInfo) (i : Nat), f.lo ≤ f.hi →
    (s.writeField fn off v cur f).testBit i =
      if f.lo ≤ i ∧ i ≤ f.hi ∧ s.fieldOk fn off (bitsOf f.hi f.lo v) f.chk = true then
        f.acc.bitAfter (decide (s.dkl.gather = .openW)) cur v i
      else cur.testBit i

/-- The canonical form of everything that is held by key, the register file and the non-volatile store among it, is kept by every
step of every command. -/
def Obligations.StepKeepsCanon : Prop := ∀ s u : State, s.Canon → step s = .next u → u.Canon

/-- Within one tick the GATHERING Colophon comes first, then items in admission order, FAULT, CANCEL, PAUSE, RESUME and EXPIRE by folio,
then SEAL part 1 and part 0 (R337); ticks never fall along the chain (R351). -/
def Obligations.StepKeepsChainOrder : Prop :=
  ∀ s u : State, chainOrdered s.chain = true → step s = .next u → chainOrdered u.chain = true

/-- The gate takes 16 releases a tick (R37). -/
def Obligations.StepKeepsGateRoom : Prop := ∀ s u : State, GateRoom s.dkl.booked → step s = .next u → GateRoom u.dkl.booked

/-- R285 step 2. -/
def Obligations.UnattachedMessageIsDropped : Prop :=
  ∀ (i : Instr) (t : Nat) (hd : Hdr) (s : State), attachedOnly i = some (t, hd) → s.portUp hd.port.val = true → s.sender hd.src = none →
    Answers i s (fun u =>
      u.rd (R.SPN_PORT_DROP_COUNT hd.port.val) = (s.rd (R.SPN_PORT_DROP_COUNT hd.port.val) + 1) % 2 ^ 32 ∧
      RegsBut [R.SPN_PORT_DROP_COUNT hd.port.val] s u ∧ BackTo s { u with regs := s.regs })

/-- The reference clock (R36): what its loss, its return and the host's acknowledgement change, and that they change nothing else.
The model's readings and choices behind it: log entry 18. -/
def Obligations.RefClockLossAndReturn : Prop :=
  (∀ (t : Nat) (s : State), s.liveUp = true →
    Answers (.refClockLost t) s (fun u =>
      u.flag F.DKL_STATUS_REF_LOST = true ∧ u.flag F.DKL_STATUS_REF_LOST_SEEN = true ∧ u.dkl.refStop = true ∧
      RegsBut [R.DKL_STATUS] s u ∧
      BackTo s { u with regs := s.regs, dkl := { u.dkl with refStop := s.dkl.refStop } }) ∧
    Answers (.refClockRelock t) s (fun u =>
      u.flag F.DKL_STATUS_REF_LOST = false ∧ u.flag F.DKL_STATUS_REF_LOST_SEEN = s.flag F.DKL_STATUS_REF_LOST_SEEN ∧
      u.dkl.refStop = s.dkl.refStop ∧ RegsBut [R.DKL_STATUS] s u ∧ BackTo s { u with regs := s.regs })) ∧
  (∀ (t : Nat) (s : State), s.hostUp 0 = true →
    Answers (.refLostSeenClear t) s (fun u =>
      u.flag F.DKL_STATUS_REF_LOST_SEEN = false ∧ u.flag F.DKL_STATUS_REF_LOST = s.flag F.DKL_STATUS_REF_LOST ∧
      u.dkl.refStop = (s.dkl.refStop && s.flag F.DKL_STATUS_REF_LOST) ∧ RegsBut [R.DKL_STATUS] s u ∧
      BackTo s { u with regs := s.regs, dkl := { u.dkl with refStop := s.dkl.refStop } }))

/-- The margin governor (R49 to R52, R487).
The model's readings and choices behind it: log entry 23. -/
def Obligations.MarginEvalWritesRailOnly : Prop :=
  ∀ (t : Nat) (m : Int) (d : Fin 196) (s : State), s.coreUp = true →
    (∀ e, s.dkl.lastEval = some e → e + 10000 ≤ (s.at_ t).now) →
    Answers (.marginEval t m d) s (fun u =>
      let set := s.fld F.DKL_RAIL_SETPOINT_MV
      let mn := s.fld F.DKL_RAIL_LIMIT_MIN_MV
      let mx := s.fld F.DKL_RAIL_LIMIT_MAX_MV
      let held := decide (s.dkl.above20.getD (s.at_ t).now + 1000000 ≤ (s.at_ t).now)
      let new := if set < mn then set + 5 else if mx < set then set - 5
        else if m < 150 then if mx < set + 5 then set else set + 5
        else if 200 < m ∧ held = true ∧ mn + 5 ≤ set then set - 5 else set
      u.fld F.DKL_RAIL_SETPOINT_MV = new % 1024 ∧ u.fld F.DKL_RAIL_AT_MAX = b2n (new == mx) ∧ u.pins.vid = (new - 600) / 5 ∧
      u.fld F.DKL_MARGIN_MARGIN = ofInt 16 m ∧ u.fld F.DKL_MARGIN_DOMAIN = d.val ∧
      u.flag F.DKL_STATUS_HALT = (decide (m < 0) || (s.flag F.DKL_STATUS_HALT && decide (m < 50))) ∧
      u.flag F.DKL_STATUS_THROTTLE = (!u.flag F.DKL_STATUS_HALT &&
        ((decide (m < 50) && decide (mx < set + 5)) || (s.flag F.DKL_STATUS_THROTTLE && decide (m < 100)))) ∧
      u.dkl.lastEval = some (s.at_ t).now ∧
      RegsBut [R.DKL_RAIL, R.DKL_MARGIN, R.DKL_STATUS] s u ∧
      BackTo s { u with regs := s.regs, pins := { u.pins with vid := s.pins.vid },
                        dkl := { u.dkl with lastEval := s.dkl.lastEval, above20 := s.dkl.above20 } })

/-- From BEGIN to the open window (R60 to R62, R184, R419). -/
def Obligations.BeginDrainAndOpenWindow : Prop :=
  (∀ (t : Nat) (s : State), s.hostUp 0 = true →
    Answers (.gatherBegin t) s (fun u =>
      let next := s.dkl.lastSeal.getD 0 + 10000000
      (if s.dkl.gather = .sealed ∧ s.dkl.beginAt = none ∧ s.lockdown = false ∧ s.fld F.DKL_GATHER_ID_ID ≠ 0xFFFFFFFF then
        if (s.at_ t).tick < next then u.dkl.gather = .pending ∧ u.dkl.beginAt = some next
        else u.dkl.gather = .sealed ∧ u.dkl.beginAt = some ((s.at_ t).tick + 10)
      else u.dkl = s.dkl) ∧
      BackTo s { u with dkl := { u.dkl with gather := s.dkl.gather, beginAt := s.dkl.beginAt } })) ∧
  (∀ (t b : Nat) (s : State), s.coreUp = true → s.dkl.beginAt = some b → (s.dkl.gather = .sealed ∨ s.dkl.gather = .pending) →
    b ≤ (s.at_ t).tick →
    Answers (.drainStart t) s (fun u =>
      u.dkl = { s.dkl with gather := .draining } ∧
      (∀ q, q < 8 → (u.ama.updOf q).map (fun x => (x.suspended, x.plan)) = (s.ama.updOf q).map (fun x => (true, x.plan))) ∧
      RegsBut ((List.range 8).map R.QUIRE_AMA_UPD_RESULT) s u ∧
      BackTo s { u with dkl := s.dkl, ama := s.ama, regs := s.regs })) ∧
  (∀ (t : Nat) (s : State), s.coreUp = true → s.dkl.gather = .draining → (s.at_ t).drainEnd ≤ (s.at_ t).tick →
    s.adm.live.all (fun i => i.phase != .admitted) = true →
    Answers (.quiescenceDone t) s (fun u =>
      u.dkl.gather = .openW ∧ u.dkl.openFrom = (s.at_ t).tick ∧ u.dkl.noLimit = false ∧ u.dkl.beginAt = none ∧
      u.dkl.saved = s.regs ∧ u.eng.samples = [] ∧ u.eng.waitRows = [] ∧ u.flag F.HIF_EVENT_GATHER_OPEN = true ∧
      (if s.fld F.EPD_STATE_PHASE = 5 then u.epd.handover = some (s.at_ t).now ∧ u.fld F.EPD_STATE_PHASE = 6
       else u.epd = s.epd ∧ u.fld F.EPD_STATE_PHASE = s.fld F.EPD_STATE_PHASE) ∧
      RegsBut [R.HIF_EVENT, R.EPD_STATE] s u ∧
      BackTo s { u with dkl := { u.dkl with gather := s.dkl.gather, openFrom := s.dkl.openFrom, noLimit := s.dkl.noLimit,
                                            beginAt := s.dkl.beginAt, saved := s.dkl.saved },
                        eng := { u.eng with samples := s.eng.samples, waitRows := s.eng.waitRows },
                        epd := s.epd, regs := s.regs }))

/-- From SEAL to the next gathering (R61, R63, R64, R110, R331, R419).
The model's readings and choices behind it: log entries 26, 25. -/
def Obligations.SealSwitchesGathering : Prop :=
  (∀ (t : Nat) (s : State), s.hostUp 0 = true → s.lockdown = false → s.fld F.DKL_GATHER_ID_ID ≠ 0xFFFFFFFF → s.dkl.gather = .openW →
    Answers (.gatherSeal t) s (fun u =>
      (if s.epd.handover = none then u.dkl.gather = .sealing ∧ u.dkl.sealTimer = false ∧ u.dkl.sealAt = (s.at_ t).tick ∧ u.epd = s.epd
       else u.dkl = s.dkl ∧ u.epd = { s.epd with sealWait := some (s.epd.sealWait.getD false) }) ∧
      ((∀ m b, s.bnd.op ≠ some (.load m b)) → u.bnd = s.bnd ∧ u.ama = s.ama ∧ u.regs = s.regs) ∧
      BackTo s { u with dkl := { u.dkl with gather := s.dkl.gather, sealTimer := s.dkl.sealTimer, sealAt := s.dkl.sealAt },
                        epd := s.epd, bnd := s.bnd, ama := s.ama, regs := s.regs })) ∧
  (∀ (t : Nat) (s : State), s.hostUp 0 = true → s.dkl.gather ≠ .openW → Answers (.gatherSeal t) s (fun u => BackTo s u)) ∧
  (∀ (t : Nat) (s : State), s.coreUp = true → s.dkl.gather = .openW → s.dkl.noLimit = false → s.fld F.DKL_GATHER_ID_ID ≠ 0xFFFFFFFF →
    s.dkl.openFrom + 1000 * s.fld F.DKL_OPEN_LIMIT_LIMIT_US ≤ (s.at_ t).now → s.epd.handover = none →
    Answers (.openLimitExpiry t) s (fun u =>
      u.dkl.gather = .sealing ∧ u.dkl.sealTimer = true ∧ u.dkl.sealAt = (s.at_ t).tick ∧
      ((∀ m b, s.bnd.op ≠ some (.load m b)) → u.bnd = s.bnd ∧ u.ama = s.ama ∧ u.regs = s.regs) ∧
      BackTo s { u with dkl := { u.dkl with gather := s.dkl.gather, sealTimer := s.dkl.sealTimer, sealAt := s.dkl.sealAt },
                        bnd := s.bnd, ama := s.ama, regs := s.regs })) ∧
  (∀ (t : Nat) (v : BitVec 32) (s : State), s.hostUp 0 = true →
    Answers (.openLimitWrite t v) s (fun u =>
      u.fld F.DKL_OPEN_LIMIT_LIMIT_US =
        (if 10 ≤ v.toNat % 65536 ∧ v.toNat % 65536 ≤ 50000 then v.toNat % 65536 else s.fld F.DKL_OPEN_LIMIT_LIMIT_US) ∧
      RegsBut [R.DKL_OPEN_LIMIT] s u ∧ BackTo s { u with regs := s.regs })) ∧
  (∀ (t : Nat) (s : State), s.coreUp = true → s.dkl.gather = .sealing → s.fld F.DKL_GATHER_ID_ID ≠ 0xFFFFFFFF →
    (s.dkl.sealTimer = true ∨ s.sealOk = true ∨ s.dkl.noLimit = false) → (s.dkl.sealTimer = true → s.dkl.noLimit = false) →
    Answers (.gatherSwitchDone t) s (fun u =>
      u.dkl.gather = .sealed ∧ u.dkl.lastSeal = some (s.at_ t).tick ∧ u.fld F.DKL_GATHER_ID_ID = s.fld F.DKL_GATHER_ID_ID + 1 ∧
      u.fld F.DKL_GATHER_STATUS_RESULT = (if s.sealOk = true ∨ s.dkl.sealTimer = true then 0 else 0x13) ∧
      u.flag F.DKL_GATHER_STATUS_REVERTED = (s.dkl.sealTimer || !s.sealOk) ∧
      u.flag F.DKL_GATHER_STATUS_TIMER = s.dkl.sealTimer ∧ u.flag F.HIF_EVENT_GATHER_SEALED = true ∧
      u.fld F.DKL_DELAY_IN_DELAY = (if s.sealOk = true ∧ s.dkl.sealTimer = false then s.regs else s.dkl.saved).fld F.DKL_DELAY_IN_DELAY ∧
      u.fld F.DKL_DELAY_OUT_DELAY = (if s.sealOk = true ∧ s.dkl.sealTimer = false then s.regs else s.dkl.saved).fld F.DKL_DELAY_OUT_DELAY ∧
      (s.sealOk = true → s.dkl.sealTimer = false → RegsBut switchRegs s u) ∧
      (∀ off, off ∉ switchRegs → lkMask off = 0 → u.rd off = s.rd off) ∧
      Entered s u (fun c => c.tick = (s.at_ t).tick ∧ c.rank = rankGather ∧ c.gather = s.fld F.DKL_GATHER_ID_ID + 1 ∧ c.body.kind = 9) ∧
      u.adm.vIn = 0 ∧ u.adm.vOut = 0 ∧ u.adm.tagsIn = [] ∧ u.adm.tagsOut = [] ∧ u.ama.digest = zeros 48 ∧
      BackTo s { u with dkl := { u.dkl with gather := s.dkl.gather, lastSeal := s.dkl.lastSeal, beginAt := s.dkl.beginAt, noLimit := s.dkl.noLimit },
                        adm := { u.adm with vIn := s.adm.vIn, vOut := s.adm.vOut, tagsIn := s.adm.tagsIn, tagsOut := s.adm.tagsOut,
                                            nOut := s.adm.nOut, fence := s.adm.fence },
                        chain := s.chain, ama := s.ama, casc := s.casc, bnd := s.bnd, regs := s.regs })) ∧
  (∀ (t : Nat) (s : State), s.coreUp = true → s.dkl.gather = .sealing → s.dkl.sealTimer = false → s.sealOk = false → s.dkl.noLimit = true →
    Answers (.gatherSwitchDone t) s (fun u =>
      u.dkl.gather = .openW ∧ u.fld F.DKL_GATHER_STATUS_RESULT = 0x13 ∧ u.chain = s.chain ∧ RegsBut [R.DKL_GATHER_STATUS] s u ∧
      BackTo s { u with dkl := { u.dkl with gather := s.dkl.gather }, regs := s.regs }))

/-- The release gate (R38, R54, R62, R97, R223, R288, Tables 2.3 and 3.4).
The model's readings and choices behind it: log entries 19, 20, 21. -/
def Obligations.GateReleasesOnTimeOrLate : Prop :=
  (∀ (t k : Nat) (snap : Bool) (i : Item) (s : State), s.coreUp = true → s.adm.live.find? (s.at_ t).gateDue = some i →
    i.kind = .block k → i.result = some .pass → i.late = false → i.doneBy i.tRel = true → (s.at_ t).behind i = false →
    (s.frun i.folio).endBlock ≠ some k → (s.folio i.folio).misses i = false → (s.partner (s.folio i.folio).gw).state = .attached →
    Answers (.gateRelease t snap) s (fun u =>
      let f := s.folio i.folio
      u.folio i.folio = { f with relSeq := f.relSeq + 1, tLastRel := (s.at_ t).tick, blocksRel := f.blocksRel + 1 } ∧
      u.frun i.folio = { s.frun i.folio with run := i.work } ∧ FoliosBut [i.folio] s u ∧
      u.adm.live = s.adm.live.filter (fun j => j.id != i.id) ∧
      Entered s u (fun c => c.tick = (s.at_ t).tick ∧ c.rank = rankItem ∧ c.sub = i.admNo ∧ c.status = 0 ∧
        c.handle = handleOf i.folio f.gen ∧ c.tenant = f.tenant ∧ c.body.kind = 1) ∧
      Sent s u (s.partner f.gw).at_ 2 0 (.verdict (handleOf i.folio f.gen) 0 1 0 k (f.relSeq + 1) i.tRel
        ((s.at_ t).nextSeq (s.at_ t).tick rankItem i.admNo)) ∧
      RegsBut ([R.PVC_STATUS, R.PVC_FILL_COUNT, R.PVC_FILL_SKIP_COUNT] ++ colRegs) s u ∧
      BackTo s { u with free := s.free, regs := s.regs, ldg := { u.ldg with folios := s.ldg.folios, runs := s.ldg.runs },
                        adm := { u.adm with live := s.adm.live, backlog := s.adm.backlog }, pvc := s.pvc,
                        eng := { u.eng with waitRows := s.eng.waitRows }, ports := s.ports, chain := s.chain, out := s.out })) ∧
  (∀ (t : Nat) (snap : Bool) (i : Item) (s : State), s.coreUp = true → s.adm.live.find? (s.at_ t).gateDue = some i →
    i.kind = .cand → i.chan = .outp → i.late = false → i.doneBy i.tRel = false → i.openPosture = false → (s.at_ t).behind i = false →
    (s.folio i.folio).misses i = false → (s.folio i.folio).pauseReq = false →
    (s.folio i.folio).withheld + 1 < s.fld F.DKL_LATE_LIMIT_LIMIT →
    Answers (.gateRelease t snap) s (fun u =>
      let f := s.folio i.folio
      u.folio i.folio = { f with withheld := f.withheld + 1, lateItems := f.lateItems + 1 } ∧ FoliosBut [i.folio] s u ∧
      u.rd R.DKL_LATE_OUT_COUNT = (s.rd R.DKL_LATE_OUT_COUNT + 1) % 2 ^ 32 ∧ u.flag F.DKL_STATUS_LATE_SEEN = true ∧
      u.adm.live = s.adm.live.filter (fun j => j.id != i.id) ∧
      Entered s u (fun c => c.tick = (s.at_ t).tick ∧ c.rank = rankItem ∧ c.sub = i.admNo ∧ c.status = 0x20 ∧
        c.handle = handleOf i.folio f.gen ∧ c.body.kind = 3) ∧
      RegsBut ([R.DKL_STATUS, R.DKL_LATE_OUT_COUNT, R.QUIRE_XL_LATE_COUNT i.quire] ++ colRegs) s u ∧
      BackTo s { u with free := s.free, regs := s.regs, ldg := { u.ldg with folios := s.ldg.folios, runs := s.ldg.runs },
                        adm := { u.adm with live := s.adm.live, backlog := s.adm.backlog },
                        eng := { u.eng with waitRows := s.eng.waitRows }, ports := s.ports, chain := s.chain, out := s.out })) ∧
  (∀ (t n : Nat) (snap : Bool) (i : Item) (s : State), s.coreUp = true → s.item? n = some i → i.result.isSome = true → i.doneAt = none →
    i.phase = .admitted → i.late = false →
    Answers (.itemComputeDone t n snap) s (fun u =>
      (u.item? n).map (fun j => (j.doneAt, j.result, j.tRel)) = some (some (s.at_ t).now, i.result, i.tRel) ∧
      u.adm.live.filter (fun j => j.id != n) = s.adm.live.filter (fun j => j.id != n) ∧
      BackTo s { u with adm := { u.adm with live := s.adm.live } })) ∧
  (∀ (t : Nat) (snap : Bool) (i : Item) (s : State), s.coreUp = true → s.dkl.gather = .draining → (s.at_ t).tick = (s.at_ t).drainEnd →
    s.adm.live = [i] → i.phase = .admitted → i.kind = .cand → i.chan = .outp → i.late = true → i.doneBy (s.at_ t).tick = false →
    (s.folio i.folio).misses i = false → (s.folio i.folio).pauseReq = false →
    (s.folio i.folio).withheld + 1 < s.fld F.DKL_LATE_LIMIT_LIMIT →
    Answers (.drainEnd t snap) s (fun u =>
      u.folio i.folio = { s.folio i.folio with withheld := (s.folio i.folio).withheld + 1 } ∧ FoliosBut [i.folio] s u ∧ u.adm.live = [] ∧
      Entered s u (fun c => c.tick = (s.at_ t).tick ∧ c.rank = rankItem ∧ c.status = 0x20 ∧ c.body.kind = 3) ∧ RegsBut colRegs s u ∧
      BackTo s { u with free := s.free, regs := s.regs, ldg := { u.ldg with folios := s.ldg.folios, runs := s.ldg.runs },
                        adm := { u.adm with live := s.adm.live, backlog := s.adm.backlog },
                        eng := { u.eng with waitRows := s.eng.waitRows }, ports := s.ports, chain := s.chain, out := s.out }))

/-- Admission of one item (R37, R45, R102, R104, R105).
The model's readings and choices behind it: log entry 41. -/
def Obligations.AdmissionCommitsFittingHead : Prop :=
  (∀ (t q : Nat) (bad : List Nat) (i : Item) (costs : List (Res × Nat)) (s : State), s.coreUp = true → (s.at_ t).admitting = true →
    s.adm.lastRun ≠ some (s.at_ t).tick → s.adm.cuts = [] → (s.at_ t).eligibles .outp = [] → (s.at_ t).eligibles .inp = [i] →
    s.chanMode .inp = false → 1 ≤ s.lookahead .inp → (s.at_ t).passes i = some (q, costs) →
    Answers (.admissionSchedule t bad) s (fun u =>
      let rel := s.dkl.relTick (tickUp (s.at_ t).now + s.delay .inp)
      u.adm.queue.map (·.id) = (s.adm.queue.filter (fun j => j.id != i.id)).map (·.id) ∧
      u.adm.live.map (·.id) = s.adm.live.map (·.id) ++ [i.id] ∧
      (u.adm.live.getLast?).map (·.phase) = some .admitted ∧ (u.adm.live.getLast?).map (·.tRel) = some rel ∧
      (u.adm.live.getLast?).map (·.tAdm) = some (rel - s.delay .inp) ∧ (u.adm.live.getLast?).map (·.quire) = some q ∧
      (u.adm.live.getLast?).map (·.gather) = some (s.fld F.DKL_GATHER_ID_ID) ∧
      (u.adm.live.getLast?).map (·.admNo) = some s.adm.nextAdm ∧ (u.adm.live.getLast?).map (·.folio) = some i.folio ∧
      u.adm.nextAdm = s.adm.nextAdm + 1 ∧ u.dkl.bookedAt rel = s.dkl.bookedAt rel + 1 ∧
      (∀ x, x ≠ rel → u.dkl.bookedAt x = s.dkl.bookedAt x) ∧
      (u.folio i.folio).admSeq = (s.folio i.folio).admSeq + 1 ∧
      (u.folio i.folio).gatherLast = s.fld F.DKL_GATHER_ID_ID ∧
      (∀ n, n ≠ i.folio → u.folio n = s.folio n) ∧
      RegsBut [R.ADM_ADMIT_IN_COUNT, R.ADM_WAIT_IN_MAX, R.PVC_PROBE_COUNT, R.PVC_ECC_COUNT, R.PVC_STATUS, R.PVC_VERIFY_FAIL_COUNT,
        R.PVC_HIT_COUNT] s u ∧
      u.rd R.ADM_ADMIT_IN_COUNT = (s.rd R.ADM_ADMIT_IN_COUNT + 1) % 2 ^ 32 ∧
      BackTo s { u with regs := s.regs, dkl := { u.dkl with booked := s.dkl.booked }, ldg := { u.ldg with folios := s.ldg.folios },
                        adm := s.adm, pvc := s.pvc, eng := { u.eng with xlBooked := s.eng.xlBooked } })) ∧
  (∀ (t : Nat) (bad : List Nat) (s : State), s.coreUp = true → (s.at_ t).admitting = false → s.adm.cuts = [] →
    Answers (.admissionSchedule t bad) s (fun u =>
      u.adm.lastRun = some (s.at_ t).tick ∧ BackTo s { u with adm := { u.adm with lastRun := s.adm.lastRun } }))

/-- Budgets and the balancer (R107, R112, R113). -/
def Obligations.RefillAndBalancerMoveOneGroup : Prop :=
  (∀ (t : Nat) (s : State), s.coreUp = true → (s.at_ t).tick % 1000 = 0 → s.adm.lastRefill ≠ some (s.at_ t).tick → s.adm.cuts = [] →
    Answers (.budgetRefill t) s (fun u =>
      (∀ k, k < 1024 → u.adm.level .inp k =
        (if s.rate .inp k = unlimited then s.adm.level .inp k else min (s.adm.level .inp k + s.rate .inp k) (s.burst .inp k * 65536))) ∧
      (∀ k, k < 1024 → u.adm.level .outp k =
        (if s.rate .outp k = unlimited then s.adm.level .outp k else min (s.adm.level .outp k + s.rate .outp k) (s.burst .outp k * 65536))) ∧
      BackTo s { u with adm := { u.adm with levIn := s.adm.levIn, levOut := s.adm.levOut, lastRefill := s.adm.lastRefill } })) ∧
  (∀ (t : Nat) (s : State), s.coreUp = true → (s.at_ t).tick % (1000 * s.fld F.ADM_BAL_CTRL_PERIOD_US) = 0 →
    s.adm.lastBal ≠ some (s.at_ t).tick → s.flag F.ADM_BAL_CTRL_ENABLE = true → s.dkl.gather = .sealed →
    s.flag F.DKL_STATUS_HALT = false → s.adm.fence = none → (s.at_ t).balWant = none →
    Answers (.balancerEval t) s (fun u => u.adm.streak = 0 ∧ u.adm.fence = none ∧
      BackTo s { u with adm := { u.adm with lastBal := s.adm.lastBal, streak := s.adm.streak } })) ∧
  (∀ (t : Nat) (w : Bool) (s : State), s.coreUp = true → (s.at_ t).tick % (1000 * s.fld F.ADM_BAL_CTRL_PERIOD_US) = 0 →
    s.adm.lastBal ≠ some (s.at_ t).tick → s.flag F.ADM_BAL_CTRL_ENABLE = true → s.dkl.gather = .sealed →
    s.flag F.DKL_STATUS_HALT = false → s.adm.fence = none → (s.at_ t).balWant = some w →
    s.fld F.ADM_BAL_CTRL_CONFIRM ≤ (if s.adm.lastWant = some w then s.adm.streak + 1 else 1) →
    Answers (.balancerEval t) s (fun u =>
      let lose : Chan := if w then .inp else .outp
      let load (q : Nat) : Nat := sumOf (fun r => s.adm.b q lose r) moveRes
      u.adm.lastWant = some w ∧ RegsBut [R.ADM_STATUS] s u ∧
      (if (List.range 8).any (s.canGive lose) then
        u.adm.fence.isSome = true ∧ u.regs = s.regs ∧
        (∀ q g b, u.adm.fence = some (q, g, b) →
          b = w ∧ q < 8 ∧ s.canGive lose q = true ∧ (∀ q', q' < 8 → s.canGive lose q' = true → load q ≤ load q') ∧
            g = (if w then 7 - s.adm.groups q .outp else 8 - s.adm.groups q .outp))
       else u.adm.fence = none ∧ u.flag F.ADM_STATUS_MOVE_BLOCKED_SEEN = true) ∧
      BackTo s { u with regs := s.regs, adm := { u.adm with
        lastBal := s.adm.lastBal, streak := s.adm.streak, lastWant := s.adm.lastWant, fence := s.adm.fence,
        moveQuire := s.adm.moveQuire, moveToOut := s.adm.moveToOut } })) ∧
  (∀ (t q g : Nat) (b : Bool) (s : State), s.coreUp = true → s.adm.fence = some (q, g, b) → s.groupIdle q g = true → q < s.adm.nOut.length →
    q < 8 →
    Answers (.groupMoveDone t) s (fun u =>
      let lose : Chan := if b then .inp else .outp
      let gain : Chan := if b then .outp else .inp
      let n := s.adm.groups q lose
      let k := s.adm.groups q gain
      u.adm.fence = none ∧ u.adm.nOut = s.adm.nOut.set q (if b then s.adm.groups q .outp + 1 else s.adm.groups q .outp - 1) ∧
      (∀ r ∈ moveRes, u.adm.b q lose r = scale10 (s.adm.b q lose r) n (n - 1) ∧ u.adm.b q gain r = scale10 (s.adm.b q gain r) k (k + 1)) ∧
      u.rd R.ADM_MOVE_COUNT = (s.rd R.ADM_MOVE_COUNT + 1) % 2 ^ 32 ∧ RegsBut [R.ADM_MOVE_COUNT] s u ∧
      BackTo s { u with regs := s.regs, adm := { u.adm with
        fence := s.adm.fence, nOut := s.adm.nOut, backlog := s.adm.backlog, live := s.adm.live } }))

/-- REQ_OPEN (R70, R73, R89, R249, R285).
The model's readings and choices behind it: log entries 28, 34. -/
def Obligations.RequestOpensFolioOrIsRefused : Prop :=
  (∀ (t gw n : Nat) (pr : Partner) (l : Ledger) (hd : Hdr) (q : OpenReq) (s : State), s.portUp hd.port.val = true →
    s.sender hd.src = some (gw, pr) → pr.kind = .gateway → s.openRefuse q gw = none → s.ldg.pop = some (n, l) →
    Answers (.reqOpen t hd q) s (fun u =>
      let f := u.folio n
      f.state = .admitting ∧ f.gen = (s.folio n).gen ∧ f.gw = gw ∧ f.pf = q.pf.toNat ∧ f.dec = q.dec.toNat ∧ f.ft = noPartner ∧
      f.tenant = q.tenant.toNat ∧ f.priority = q.priority.val ∧ f.gwHandle = q.gwHandle.toNat ∧ f.maxOut = q.maxOut.toNat ∧
      f.seed = q.seed.toNat ∧ f.tOpen = (s.at_ t).tick ∧ f.gatherOpen = s.fld F.DKL_GATHER_ID_ID ∧
      f.hasDeadline = (q.deadlineRel.toNat != 0) ∧
      f.deadline = (if q.deadlineRel.toNat = 0 then 0 else (s.at_ t).tick + q.deadlineRel.toNat) ∧
      f.promptLen = 0 ∧ f.relSeq = 0 ∧ f.pages = [] ∧ u.frun n = FRun.zero ∧ FoliosBut [n] s u ∧
      u.ldg.fresh = l.fresh ∧ u.ldg.returned = l.returned ∧
      Replied s u hd 0 (.openAck q.gwHandle.toNat (handleOf n (s.folio n).gen) (s.at_ t).tick) ∧
      BackTo s { u with ldg := { u.ldg with folios := s.ldg.folios, runs := s.ldg.runs, fresh := s.ldg.fresh, returned := s.ldg.returned },
                        free := s.free, ports := s.ports, out := s.out })) ∧
  (∀ (t gw st : Nat) (pr : Partner) (hd : Hdr) (q : OpenReq) (s : State), s.portUp hd.port.val = true →
    s.sender hd.src = some (gw, pr) → (pr.kind ≠ .gateway ∧ st = 0x15 ∨ pr.kind = .gateway ∧ s.openRefuse q gw = some st) →
    Answers (.reqOpen t hd q) s (fun u =>
      Replied s u hd st (.openAck q.gwHandle.toNat 0 0) ∧
      u.rd (R.SPN_PORT_REJECT_COUNT hd.port.val) = (s.rd (R.SPN_PORT_REJECT_COUNT hd.port.val) + 1) % 2 ^ 32 ∧
      u.flag (F.SPN_PORT_STATUS_REJECT_SEEN hd.port.val) = true ∧ (st = 0x24 → u.flag F.LDG_STATUS_FULL_SEEN = true) ∧
      RegsBut (rejectRegs hd.port.val ++ [R.LDG_STATUS]) s u ∧
      BackTo s { u with regs := s.regs, ports := s.ports, out := s.out }))

/-- REQ_TOKENS, REQ_END and REQ_ATTR (R39, R40, R72, R76, R77, R96, R290, R291).
The model's readings and choices behind it: log entries 31, 30, 34. -/
def Obligations.PromptGrowsAndEnds : Prop :=
  (∀ (t p : Nat) (pr : Partner) (hd : Hdr) (h : Handle) (pos : BitVec 22) (toks : List (BitVec 20)) (s : State),
    s.portUp hd.port.val = true → s.sender hd.src = some (p, pr) → pr.kind = .gateway →
    s.tokensRefuse h p pos.toNat toks.length = none →
    Answers (.reqTokens t hd h pos toks) s (fun u =>
      let f := s.folio h.idx
      u.folio h.idx = { f with promptLen := f.promptLen + toks.length, nextPos := f.nextPos + toks.length } ∧
      (u.frun h.idx).prompt = (s.frun h.idx).prompt ++ toks.map (·.toNat) ∧ FoliosBut [h.idx] s u ∧
      u.adm.queue.length = s.adm.queue.length + newBlocks f.promptLen toks.length ∧
      (f.pf = noPartner → u.out = s.out) ∧
      (f.pf ≠ noPartner → (s.partner f.pf).state.on = true →
        Sent s u (s.partner f.pf).at_ 1 0 (.pfTokens h.val pos.toNat false (toks.map (·.toNat)))) ∧
      BackTo s { u with ldg := { u.ldg with folios := s.ldg.folios, runs := s.ldg.runs },
                        adm := { u.adm with queue := s.adm.queue, nextId := s.adm.nextId },
                        free := s.free, ports := s.ports, out := s.out })) ∧
  (∀ (t p st : Nat) (pr : Partner) (hd : Hdr) (h : Handle) (pos : BitVec 22) (toks : List (BitVec 20)) (s : State),
    s.portUp hd.port.val = true → s.sender hd.src = some (p, pr) → pr.kind = .gateway →
    s.tokensRefuse h p pos.toNat toks.length = some st →
    Answers (.reqTokens t hd h pos toks) s (fun u =>
      Replied s u hd st (.reject 0x12 hd.tag.toNat h.val) ∧
      (st = 0x25 → u.rd R.ADM_REFUSE_COUNT = (s.rd R.ADM_REFUSE_COUNT + 1) % 2 ^ 32 ∧ u.flag F.ADM_STATUS_QUEUE_FULL_SEEN = true) ∧
      RegsBut (rejectRegs hd.port.val ++ [R.ADM_REFUSE_COUNT, R.ADM_STATUS]) s u ∧
      BackTo s { u with regs := s.regs, ports := s.ports, out := s.out })) ∧
  (∀ (t p : Nat) (pr : Partner) (hd : Hdr) (h : Handle) (s : State),
    s.portUp hd.port.val = true → s.sender hd.src = some (p, pr) → pr.kind = .gateway → s.limp = false →
    s.genOk h = true → s.promptOpen h p = true → (s.folio h.idx).promptLen ≠ 0 →
    Answers (.reqEnd t hd h) s (fun u =>
      let f := s.folio h.idx
      let stands : Bool := ((s.blockItem h.idx (s.frun h.idx).blocks).map fun i =>
        i.phase == .queued || i.late || decide ((s.at_ t).tick < i.tRel)).getD false
      u.folio h.idx = { f with promptEnd := true } ∧ FoliosBut [h.idx] s u ∧
      (if f.promptLen % 64 ≠ 0 ∨ stands = true then
        (u.frun h.idx).endBlock = some (u.frun h.idx).blocks ∧ u.adm.queue.length = s.adm.queue.length
       else u.frun h.idx = s.frun h.idx ∧ u.adm.queue.dropLast = s.adm.queue ∧
         (u.adm.queue.getLast?.map (·.kind)) = some ItemKind.endItem ∧ (u.adm.queue.getLast?.map (·.slot)) = some false) ∧
      (f.pf ≠ noPartner → (s.partner f.pf).state.on = true →
        Sent s u (s.partner f.pf).at_ 1 0 (.pfTokens h.val f.promptLen true [])) ∧
      BackTo s { u with ldg := { u.ldg with folios := s.ldg.folios, runs := s.ldg.runs },
                        adm := { u.adm with queue := s.adm.queue, nextId := s.adm.nextId },
                        free := s.free, ports := s.ports, out := s.out })) ∧
  (∀ (t p : Nat) (pr : Partner) (hd : Hdr) (h : Handle) (es : List (BitVec 8 × BitVec 32)) (s : State),
    s.portUp hd.port.val = true → s.sender hd.src = some (p, pr) → pr.kind = .gateway → s.limp = false →
    s.genOk h = true → s.gwOf h p = true →
    ((s.folio h.idx).state = .admitting ∨ (s.folio h.idx).state = .screenIn ∨ (s.folio h.idx).state = .hold ∨
      (s.folio h.idx).state = .generating) →
    Answers (.reqAttr t hd h es) s (fun u =>
      (∀ i, i < 256 → Sparse.get (fun _ => none) (u.frun h.idx).attrs i =
        match es.reverse.find? (fun e => e.1.toNat == i) with
        | some e => some e.2.toInt
        | none => Sparse.get (fun _ => none) (s.frun h.idx).attrs i) ∧
      FoliosBut [h.idx] s u ∧
      u.frun h.idx = { s.frun h.idx with attrs := (u.frun h.idx).attrs } ∧
      BackTo s { u with ldg := { u.ldg with runs := s.ldg.runs } })) ∧
  (∀ (t p : Nat) (pr : Partner) (hd : Hdr) (h : Handle) (es : List (BitVec 8 × BitVec 32)) (s : State),
    s.portUp hd.port.val = true → s.sender hd.src = some (p, pr) → pr.kind = .gateway → s.limp = false → s.genOk h = false →
    Answers (.reqEnd t hd h) s (fun u => Replied s u hd 0x21 (.reject 0x14 hd.tag.toNat h.val) ∧ RegsBut (rejectRegs hd.port.val) s u ∧
      BackTo s { u with regs := s.regs, ports := s.ports, out := s.out }) ∧
    Answers (.reqAttr t hd h es) s (fun u => Replied s u hd 0x21 (.reject 0x13 hd.tag.toNat h.val) ∧ RegsBut (rejectRegs hd.port.val) s u ∧
      BackTo s { u with regs := s.regs, ports := s.ports, out := s.out }))

/-- Cancels (R72, R80, R81, R82, R84).
The model's readings and choices behind it: log entries 35, 34. -/
def Obligations.CancelIsRequestedAndCommits : Prop :=
  (∀ (t p : Nat) (pr : Partner) (hd : Hdr) (h : Handle) (s : State), s.portUp hd.port.val = true → s.sender hd.src = some (p, pr) →
    pr.kind = .gateway → s.limp = false → s.gwOf h p = true → s.cancelRefuse h = none →
    Answers (.reqCancel t hd h) s (fun u =>
      u.ldg.cancels = s.ldg.cancels ++ [{ folio := h.idx, gen := h.gen.toNat, at_ := (s.at_ t).now, by_ := .gateway hd.src hd.tag.toNat }] ∧
      BackTo s { u with ldg := { u.ldg with cancels := s.ldg.cancels } })) ∧
  (∀ (t p st : Nat) (pr : Partner) (hd : Hdr) (h : Handle) (s : State), s.portUp hd.port.val = true → s.sender hd.src = some (p, pr) →
    pr.kind = .gateway → s.limp = false → s.gwOf h p = true → s.cancelRefuse h = some st →
    Answers (.reqCancel t hd h) s (fun u =>
      Replied s u hd st (.cancelAck h.val (s.cancelEcho h).1 (s.cancelEcho h).2) ∧
      RegsBut (rejectRegs hd.port.val) s u ∧
      BackTo s { u with regs := s.regs, ports := s.ports, out := s.out })) ∧
  (∀ (t : Nat) (h : Handle) (s : State), s.hostUp 0 = true → s.lockdown = false → s.flag F.LDG_FOLIO_RESULT_BUSY = false →
    Answers (.ldgCancel t h) s (fun u =>
      (s.cancelRefuse h = none → u.flag F.LDG_FOLIO_RESULT_BUSY = true ∧ u.ldg.cancels = s.ldg.cancels ++
        [{ folio := h.idx, gen := h.gen.toNat, at_ := (s.at_ t).now, by_ := .host }]) ∧
      (∀ st, s.cancelRefuse h = some st → u.fld F.LDG_FOLIO_RESULT_STATUS = st % 256 ∧ u.flag F.LDG_FOLIO_RESULT_BUSY = false ∧
        u.ldg = s.ldg) ∧
      RegsBut [R.LDG_FOLIO_RESULT] s u ∧ BackTo s { u with regs := s.regs, ldg := { u.ldg with cancels := s.ldg.cancels } })) ∧
  (∀ (t : Nat) (c : CancelReq) (s : State), s.coreUp = true →
    s.ldg.cancels.find? (fun c => c.at_ ≤ (s.at_ t).now && !(s.at_ t).gateRan c.folio) = some c →
    s.cancelRefuse { folio := BitVec.ofNat 16 c.folio, gen := BitVec.ofNat 8 c.gen } = none → c.folio < 65536 →
    (∀ q k, c.by_ ≠ .queue q k) →
    Answers (.cancelCommit t) s (fun u =>
      let f := s.folio c.folio
      let g := u.folio c.folio
      g.state = .cancelled ∧ g.gen = (f.gen + 1) % 256 ∧ g.endStatus = 0x21 ∧ g.tCack = (s.at_ t).tick ∧ g.tEnd = (s.at_ t).tick ∧
      g.relSeq = f.relSeq ∧ (∀ n, n ≠ c.folio → u.folio n = s.folio n) ∧
      u.adm.live = s.adm.live.filter (fun i => i.folio != c.folio) ∧ u.adm.queue = s.adm.queue.filter (fun i => i.folio != c.folio) ∧
      u.ldg.cancels = s.ldg.cancels.filter (fun d => d != c) ∧
      RegsBut ([R.LDG_CANCEL_COUNT, R.LDG_FOLIO_RESULT, R.SPN_PAGE_DROP_COUNT] ++ colRegs) s u ∧
      u.rd R.LDG_CANCEL_COUNT = (s.rd R.LDG_CANCEL_COUNT + 1) % 2 ^ 32 ∧
      Entered s u (fun e => e.tick = (s.at_ t).tick ∧ e.rank = rankCancel ∧ e.status = 0x21 ∧ e.handle = handleOf c.folio f.gen ∧
        e.tenant = f.tenant ∧ e.body.kind = 4) ∧
      (∀ dst tag, c.by_ = .gateway dst tag → (u.out.head?.map (·.body)) = some (.cancelAck (handleOf c.folio c.gen) f.relSeq (s.at_ t).tick)) ∧
      (c.by_ = .host → u.fld F.LDG_FOLIO_RESULT_STATUS = 0 ∧ u.flag F.LDG_FOLIO_RESULT_BUSY = false) ∧
      BackTo s { u with free := s.free, regs := s.regs, ldg := { u.ldg with folios := s.ldg.folios, cancels := s.ldg.cancels },
                        adm := { u.adm with live := s.adm.live, queue := s.adm.queue, holders := s.adm.holders, backlog := s.adm.backlog },
                        eng := { u.eng with waitRows := s.eng.waitRows }, ports := s.ports, parts := s.parts, chain := s.chain,
                        out := s.out }))

/-- REQ_PAUSE and REQ_RESUME (R90, R92, R285, R292, R324, Table 3.8).
The model's readings and choices behind it: log entries 34, 29. -/
def Obligations.PauseAndResumeStartTheirMoves : Prop :=
  (∀ (t p : Nat) (pr : Partner) (hd : Hdr) (h : Handle) (ft : BitVec 8) (ttl : BitVec 32) (s : State), s.portUp hd.port.val = true →
    s.sender hd.src = some (p, pr) → pr.kind = .gateway → s.pauseRefuse h p ft.toNat ttl.toNat = none →
    s.parts.evicts.any (fun e => e.folio == h.idx) = false →
    Answers (.reqPause t hd h ft ttl) s (fun u =>
      let f := s.folio h.idx
      u.folio h.idx = { f with pauseReq := true, ft := ft.toNat, ttlS := ttl.toNat } ∧ FoliosBut [h.idx] s u ∧
      ({ tick := u.tick, dst := hd.src, vc := 2, tag := hd.tag.toNat, status := 0, body := .pauseAccept h.val } : OutMsg) ∈ u.out ∧
      (s.noneAdmitted h.idx = false → Replied s u hd 0 (.pauseAccept h.val) ∧ u.parts = s.parts) ∧
      (s.noneAdmitted h.idx = true →
        u.parts.evicts = s.parts.evicts ++ [{ folio := h.idx, since := (s.at_ t).now, returned := 0, ended := false }] ∧
        ((s.partner f.dec).state.on = true → (u.out.head?.map (·.body)) = some (.kvEvict (handleOf h.idx f.gen)) ∧
          (u.out.head?.map (·.dst)) = some (s.partner f.dec).at_)) ∧
      BackTo s { u with ldg := { u.ldg with folios := s.ldg.folios }, parts := { u.parts with evicts := s.parts.evicts },
                        free := s.free, ports := s.ports, out := s.out })) ∧
  (∀ (t p st : Nat) (pr : Partner) (hd : Hdr) (h : Handle) (ft : BitVec 8) (ttl : BitVec 32) (s : State), s.portUp hd.port.val = true →
    s.sender hd.src = some (p, pr) → pr.kind = .gateway → s.pauseRefuse h p ft.toNat ttl.toNat = some st →
    Answers (.reqPause t hd h ft ttl) s (fun u => Replied s u hd st (.pauseAccept h.val) ∧
      RegsBut (rejectRegs hd.port.val) s u ∧
      BackTo s { u with regs := s.regs, ports := s.ports, out := s.out })) ∧
  (∀ (t p : Nat) (pr : Partner) (hd : Hdr) (h : Handle) (dec : BitVec 8) (s : State), s.portUp hd.port.val = true →
    s.sender hd.src = some (p, pr) → pr.kind = .gateway → (s.at_ t).resumeRefuse h p dec.toNat = none →
    Answers (.reqResume t hd h dec) s (fun u =>
      let f := s.folio h.idx
      let g := u.folio h.idx
      g.dec = dec.toNat ∧ g.tExpire = 0 ∧ g.gen = f.gen ∧ FoliosBut [h.idx] s u ∧
      ({ tick := u.tick, dst := hd.src, vc := 2, tag := hd.tag.toNat, status := 0, body := .resumeAccept h.val } : OutMsg) ∈ u.out ∧
      ((∃ x ∈ f.pages, x.loc = .far ∧ ∀ y ∈ f.pages, y.no = x.no → y.loc = .far) → g.state = .paused ∧ g.resumeReq = true ∧ u.chain = s.chain) ∧
      ((∀ x ∈ f.pages, x.loc ≠ .far ∧ x.farCopy = none) → g.state = .generating ∧ g.resumeReq = false ∧
        Entered s u (fun e => e.tick = (s.at_ t).tick ∧ e.rank = rankResume ∧ e.status = 0 ∧ e.handle = handleOf h.idx f.gen ∧
          e.body.kind = 6)) ∧
      RegsBut [R.SPN_PAGE_FWD_COUNT, R.SPN_PAGE_DROP_COUNT] s u ∧
      BackTo s { u with regs := s.regs, ldg := { u.ldg with folios := s.ldg.folios, runs := s.ldg.runs }, parts := s.parts,
                        free := s.free, ports := s.ports, chain := s.chain, out := s.out })) ∧
  (∀ (t p st : Nat) (pr : Partner) (hd : Hdr) (h : Handle) (dec : BitVec 8) (s : State), s.portUp hd.port.val = true →
    s.sender hd.src = some (p, pr) → pr.kind = .gateway → (s.at_ t).resumeRefuse h p dec.toNat = some st →
    Answers (.reqResume t hd h dec) s (fun u => Replied s u hd st (.resumeAccept h.val) ∧
      RegsBut (rejectRegs hd.port.val) s u ∧
      BackTo s { u with regs := s.regs, ports := s.ports, out := s.out }))

/-- Folio commands and the scanner (R69, R70, R72, R78, R93, R94).
The model's readings and choices behind it: log entry 40. -/
def Obligations.ReleaseSnapshotAndScannerVisit : Prop :=
  (∀ (t : Nat) (h : Handle) (s : State), s.hostUp 0 = true → s.lockdown = false → s.flag F.LDG_FOLIO_RESULT_BUSY = false →
    Answers (.ldgRelease t h) s (fun u =>
      let f := s.folio h.idx
      let st := if s.genOk h = false then 0x21 else if f.state = .cancelled ∨ f.state = .done ∨ f.state = .orphaned then 0 else 0x15
      u.fld F.LDG_FOLIO_RESULT_STATUS = st ∧ u.flag F.LDG_FOLIO_RESULT_BUSY = false ∧ RegsBut [R.LDG_FOLIO_RESULT] s u ∧
      FoliosBut [h.idx] s u ∧
      (st ≠ 0 → u.ldg = s.ldg) ∧
      (st = 0 → u.folio h.idx = { f with state := .free, pages := [], descAddrs := [] } ∧ u.ldg.returned = s.ldg.returned ++ [h.idx]) ∧
      BackTo s { u with regs := s.regs, ldg := { u.ldg with folios := s.ldg.folios, runs := s.ldg.runs, returned := s.ldg.returned } })) ∧
  (∀ (t : Nat) (n : BitVec 16) (s : State), s.hostUp 0 = true → s.lockdown = false → s.flag F.LDG_FOLIO_RESULT_BUSY = false →
    Answers (.ldgSnapshot t n) s (fun u =>
      (∀ k, k < 128 → u.rd (R.LDG_SNAP k) = fieldAt (4 * k) 4 ((s.at_ t).folioBytes n.toNat)) ∧
      u.fld F.LDG_FOLIO_RESULT_STATUS = 0 ∧ u.flag F.LDG_FOLIO_RESULT_BUSY = false ∧
      RegsBut (R.LDG_FOLIO_RESULT :: (List.range 128).map R.LDG_SNAP) s u ∧ BackTo s { u with regs := s.regs })) ∧
  (∀ (t : Nat) (n : BitVec 16) (s : State), s.coreUp = true →
    (s.at_ t).scanDue n.toNat = true → (s.folio n.toNat).state = .paused → (s.folio n.toNat).resumeReq = false →
    (s.folio n.toNat).tExpire ≤ (s.at_ t).tick →
    Answers (.scannerVisit t n) s (fun u =>
      let f := s.folio n.toNat
      let g := u.folio n.toNat
      g.state = .free ∧ g.gen = (f.gen + 1) % 256 ∧ g.endStatus = 0x23 ∧ g.pages = [] ∧ (∀ m, m ≠ n.toNat → u.folio m = s.folio m) ∧
      u.ldg.returned = s.ldg.returned ++ [n.toNat] ∧ u.rd R.LDG_EXPIRE_COUNT = (s.rd R.LDG_EXPIRE_COUNT + 1) % 2 ^ 32 ∧
      u.flag F.LDG_STATUS_EXPIRED_SEEN = true ∧ RegsBut ([R.LDG_EXPIRE_COUNT, R.LDG_STATUS, R.SPN_PAGE_DROP_COUNT] ++ colRegs) s u ∧
      Entered s u (fun c => c.tick = (s.at_ t).tick ∧ c.rank = rankExpire ∧ c.status = 0x23 ∧ c.handle = handleOf n.toNat f.gen ∧
        c.body.kind = 7) ∧
      BackTo s { u with free := s.free, regs := s.regs, ldg := { u.ldg with folios := s.ldg.folios, runs := s.ldg.runs, returned := s.ldg.returned },
                        adm := s.adm, eng := { u.eng with waitRows := s.eng.waitRows }, ports := s.ports, parts := s.parts,
                        chain := s.chain, out := s.out })) ∧
  (∀ (t : Nat) (n : BitVec 16) (s : State), s.coreUp = true →
    ¬ ((s.at_ t).scanDue n.toNat = true ∧ (s.folio n.toNat).state = .paused ∧ (s.folio n.toNat).resumeReq = false ∧
      (s.folio n.toNat).tExpire ≤ (s.at_ t).tick) →
    Answers (.scannerVisit t n) s (fun u =>
      let f := s.folio n.toNat
      let keep := 1000000 * s.fld F.LDG_RETAIN_RETAIN_MS
      (if (s.at_ t).scanDue n.toNat = true ∧ (f.state = .cancelled ∨ f.state = .done ∨ f.state = .orphaned) ∧ keep ≠ 0 ∧
          f.tEnd + keep ≤ (s.at_ t).tick then
        u.folio n.toNat = { f with state := .free, pages := [], descAddrs := [] } ∧ u.ldg.returned = s.ldg.returned ++ [n.toNat]
       else u.ldg = s.ldg) ∧ FoliosBut [n.toNat] s u ∧
      BackTo s { u with ldg := { u.ldg with folios := s.ldg.folios, runs := s.ldg.runs, returned := s.ldg.returned } }))

/-- KV_PAGE and KV_END of both directions (R72, R85, R86, R87, R315, R316, R317, R320, R322).
The model's readings and choices behind it: log entries 17, 36. -/
def Obligations.PageStreamsUpdatePageList : Prop :=
  (∀ (t p : Nat) (pr : Partner) (hd : Hdr) (h : Handle) (no : BitVec 22) (kib : Fin 65) (data : Bytes) (i : Instr) (s : State),
    (i = .kvPage t hd h no kib data ∨ i = .kvPageEvict t hd h no kib data) → s.portUp hd.port.val = true → s.parts.waiting = [] →
    s.sender hd.src = some (p, pr) → pr.kind = .prefill → s.limp = false → s.genOk h = true → s.pfSender h.idx p = true →
    kib.val = (s.folio h.idx).pageKib → no.toNat = (s.folio h.idx).pages.length →
    Answers i s (fun u =>
      let f := s.folio h.idx
      if s.pageFits h.idx kib.val true then
        u.folio h.idx = { f with pages := (u.folio h.idx).pages, descAddrs := (u.folio h.idx).descAddrs } ∧
        (u.folio h.idx).pages.length = f.pages.length + 1 ∧ RegsBut [R.SPN_PAGE_IN_COUNT, R.SPN_PAGE_FWD_COUNT, R.SPN_PAGE_DROP_COUNT] s u ∧ FoliosBut [h.idx] s u ∧ u.parts.waiting = [] ∧
        u.rd R.SPN_PAGE_IN_COUNT = (s.rd R.SPN_PAGE_IN_COUNT + 1) % 2 ^ 32 ∧
        (f.forwards = false → f.state ≠ .paused →
          (u.folio h.idx).pages.dropLast = f.pages ∧ ((u.folio h.idx).pages.getLast?.map (·.no)) = some no.toNat ∧
          ((u.folio h.idx).pages.getLast?.map (·.loc)) = some .held ∧ ((u.folio h.idx).pages.getLast?.map (·.data)) = some data ∧
          ((u.folio h.idx).pages.getLast?.map (·.holds)) = some true ∧ u.out = s.out) ∧
        (f.forwards = true → f.dec ≠ noPartner → (s.partner f.dec).state.on = true → (∀ x ∈ f.pages, x.loc = .fwd ∧ x.no ≠ no.toNat) →
          ((u.folio h.idx).pages.getLast?.map (·.loc)) = some .fwd ∧
          u.rd R.SPN_PAGE_FWD_COUNT = (s.rd R.SPN_PAGE_FWD_COUNT + 1) % 2 ^ 32 ∧
          Sent s u (s.partner f.dec).at_ 3 0 (.kvPage (handleOf h.idx f.gen) no.toNat f.pageKib data)) ∧
        BackTo s { u with free := s.free, regs := s.regs, ldg := { u.ldg with folios := s.ldg.folios, runs := s.ldg.runs },
                          ports := s.ports, parts := s.parts, out := s.out }
       else u.parts.waiting = [{ src := hd.src, tag := hd.tag.toNat, handle := h.val, isEnd := false, no := no.toNat, kib := kib.val, data := data }] ∧
         BackTo s { u with parts := { u.parts with waiting := s.parts.waiting } })) ∧
  (∀ (t p : Nat) (pr : Partner) (hd : Hdr) (h : Handle) (pages : BitVec 32) (i : Instr) (s : State),
    (i = .kvEnd t hd h pages ∨ i = .kvEndEvict t hd h pages) → s.portUp hd.port.val = true → s.parts.waiting = [] →
    s.sender hd.src = some (p, pr) → pr.kind = .prefill → s.limp = false → s.genOk h = true → s.pfSender h.idx p = true →
    pages.toNat = (s.folio h.idx).pages.length →
    Answers i s (fun u =>
      u.folio h.idx = { s.folio h.idx with pfDone := true, pages := (u.folio h.idx).pages } ∧
      RegsBut [R.SPN_PAGE_FWD_COUNT, R.SPN_PAGE_DROP_COUNT] s u ∧ (u.folio h.idx).pages.length = (s.folio h.idx).pages.length ∧ FoliosBut [h.idx] s u ∧
      ((s.folio h.idx).forwards = false → u.folio h.idx = { s.folio h.idx with pfDone := true } ∧ u.out = s.out) ∧
      BackTo s { u with free := s.free, regs := s.regs, ldg := { u.ldg with folios := s.ldg.folios, runs := s.ldg.runs },
                        ports := s.ports, parts := { u.parts with strays := s.parts.strays }, out := s.out })) ∧
  (∀ (t p : Nat) (pr : Partner) (e : Evict) (x : Page) (hd : Hdr) (h : Handle) (no : BitVec 22) (kib : Fin 65) (data : Bytes) (i : Instr) (s : State),
    (i = .kvPage t hd h no kib data ∨ i = .kvPageEvict t hd h no kib data) → s.portUp hd.port.val = true → s.parts.waiting = [] →
    s.sender hd.src = some (p, pr) → pr.kind = .decode → s.limp = false → s.genOk h = true →
    s.parts.evicts.find? (fun e => e.folio == h.idx) = some e → (s.folio h.idx).dec = p → (s.folio h.idx).state = .generating →
    e.ended = false → no.toNat = e.returned → kib.val = (s.folio h.idx).pageKib → pageNo? (s.folio h.idx).pages no.toNat = some x →
    s.pageFits h.idx kib.val false = true →
    Answers i s (fun u =>
      u.folio h.idx = { s.folio h.idx with pages := (u.folio h.idx).pages } ∧
      ((pageNo? (u.folio h.idx).pages no.toNat).map (·.loc)) = some .held ∧
      ((pageNo? (u.folio h.idx).pages no.toNat).map (·.data)) = some data ∧
      ((u.parts.evicts.find? (fun e => e.folio == h.idx)).map (·.returned)) = some (e.returned + 1) ∧
      (u.folio h.idx).pages.length = (s.folio h.idx).pages.length ∧ FoliosBut [h.idx] s u ∧
      BackTo s { u with free := s.free, ldg := { u.ldg with folios := s.ldg.folios }, ports := s.ports,
                        parts := { u.parts with evicts := s.parts.evicts, waiting := s.parts.waiting }, out := s.out })) ∧
  (∀ (t p : Nat) (pr : Partner) (e : Evict) (hd : Hdr) (h : Handle) (pages : BitVec 32) (i : Instr) (s : State),
    (i = .kvEnd t hd h pages ∨ i = .kvEndEvict t hd h pages) → s.portUp hd.port.val = true → s.parts.waiting = [] →
    s.sender hd.src = some (p, pr) → pr.kind = .decode → s.limp = false → s.genOk h = true →
    s.parts.evicts.find? (fun e => e.folio == h.idx) = some e → (s.folio h.idx).dec = p → e.ended = false → pages.toNat = e.returned →
    Answers i s (fun u =>
      let f := s.folio h.idx
      if f.pages.any (fun x => x.loc == .held && decide (x.no < e.returned)) then
        u.ldg = s.ldg ∧ ((u.parts.evicts.find? (fun e => e.folio == h.idx)).map (·.ended)) = some true ∧ u.chain = s.chain ∧
        BackTo s { u with parts := { u.parts with evicts := s.parts.evicts } }
      else
        u.folio h.idx = { f with state := .paused, pauseReq := false, dec := noPartner, tPause := (s.at_ t).tick,
                                 tExpire := (s.at_ t).tick + f.ttlS * 1000000000, pages := (u.folio h.idx).pages } ∧
        RegsBut colRegs s u ∧
        u.parts.evicts = s.parts.evicts.filter (fun e => e.folio != h.idx) ∧ FoliosBut [h.idx] s u ∧
        Entered s u (fun c => c.tick = (s.at_ t).tick ∧ c.rank = rankPause ∧ c.status = 0 ∧ c.handle = handleOf h.idx f.gen ∧
          c.body.kind = 5) ∧
        BackTo s { u with free := s.free, regs := s.regs, ldg := { u.ldg with folios := s.ldg.folios }, chain := s.chain,
                          ports := s.ports, parts := { u.parts with evicts := s.parts.evicts }, out := s.out })) ∧
  (∀ (t p : Nat) (pr : Partner) (hd : Hdr) (h : Handle) (no : BitVec 22) (kib : Fin 65) (data : Bytes) (pages : BitVec 32) (s : State),
    s.portUp hd.port.val = true → s.parts.waiting = [] → s.sender hd.src = some (p, pr) → (pr.kind = .prefill ∨ pr.kind = .decode) →
    s.limp = false → s.genOk h = false →
    Answers (.kvPage t hd h no kib data) s (fun u => Replied s u hd 0x21 (.reject 0x40 hd.tag.toNat h.val) ∧ RegsBut (rejectRegs hd.port.val) s u ∧
      BackTo s { u with regs := s.regs, ports := s.ports, out := s.out }) ∧
    Answers (.kvEnd t hd h pages) s (fun u => Replied s u hd 0x21 (.reject 0x41 hd.tag.toNat h.val) ∧ RegsBut (rejectRegs hd.port.val) s u ∧
      BackTo s { u with regs := s.regs, ports := s.ports, out := s.out }))

/-- KV_ACK, FT_STORE_ACK and the timeouts of a pause (R293, R318, R321 to R323, R326).
The model's readings and choices behind it: log entries 38, 29. -/
def Obligations.StoresAckOrFailThePause : Prop :=
  (∀ (t n : Nat) (pr : Partner) (x : Page) (hd : Hdr) (h : Handle) (no : BitVec 22) (s : State), s.portUp hd.port.val = true →
    s.sender hd.src = some (n, pr) → s.genOk h = true → pageNo? (s.folio h.idx).pages no.toNat = some x → (s.folio h.idx).dec = n →
    x.loc = .fwd → x.holds = true → (s.folio h.idx).resumeReq = false → s.parts.waiting = [] →
    Answers (.kvAck t hd h no) s (fun u =>
      let f := s.folio h.idx
      u.folio h.idx = { f with pagesFwd := f.pagesFwd + 1, pages := (u.folio h.idx).pages } ∧
      (pageNo? (u.folio h.idx).pages no.toNat).map (·.holds) = some false ∧
      (u.folio h.idx).pages.map (·.no) = f.pages.map (·.no) ∧
      (u.folio h.idx).pages.filter (fun y => y.no != no.toNat) = f.pages.filter (fun y => y.no != no.toNat) ∧
      FoliosBut [h.idx] s u ∧ BackTo s { u with ldg := { u.ldg with folios := s.ldg.folios } })) ∧
  (∀ (t n : Nat) (pr : Partner) (hd : Hdr) (h : Handle) (no : BitVec 22) (s : State), s.portUp hd.port.val = true →
    s.sender hd.src = some (n, pr) →
    (s.genOk h = false ∨ (s.folio h.idx).dec ≠ n ∨ pageNo? (s.folio h.idx).pages no.toNat = none) →
    Answers (.kvAck t hd h no) s (fun u =>
      u.rd (R.SPN_PORT_DROP_COUNT hd.port.val) = (s.rd (R.SPN_PORT_DROP_COUNT hd.port.val) + 1) % 2 ^ 32 ∧
      RegsBut [R.SPN_PORT_DROP_COUNT hd.port.val] s u ∧ BackTo s { u with regs := s.regs })) ∧
  (∀ (t n m a : Nat) (pr : Partner) (x : Page) (hd : Hdr) (status : BitVec 8) (handle : BitVec 40) (s : State), s.portUp hd.port.val = true →
    s.sender hd.src = some (n, pr) → s.asked? n hd.tag.toNat .held = some (m, x) → x.asked = some a →
    pageNo? (s.folio m).pages x.no = some x → (s.at_ t).now ≤ a + 10000000 →
    s.parts.strays.any (fun y => y.partner == n && y.tag == hd.tag.toNat) = false → status = 0 → (s.folio m).resumeReq = false →
    (∀ e, s.parts.evicts.find? (fun e => e.folio == m) = some e → e.ended = false) → s.parts.waiting = [] →
    Answers (.ftStoreAck t hd status handle) s (fun u =>
      u.folio m = { s.folio m with pages := (u.folio m).pages } ∧ FoliosBut [m] s u ∧
      (pageNo? (u.folio m).pages x.no).map (·.loc) = some .far ∧ (pageNo? (u.folio m).pages x.no).map (·.addr) = some handle.toNat ∧
      (pageNo? (u.folio m).pages x.no).map (·.holds) = some false ∧
      u.rd R.SPN_FT_STORE_COUNT = (s.rd R.SPN_FT_STORE_COUNT + 1) % 2 ^ 32 ∧ RegsBut [R.SPN_FT_STORE_COUNT] s u ∧
      BackTo s { u with free := s.free, regs := s.regs, ldg := { u.ldg with folios := s.ldg.folios }, ports := s.ports, out := s.out })) ∧
  (∀ (t n m a : Nat) (pr : Partner) (x : Page) (hd : Hdr) (status : BitVec 8) (handle : BitVec 40) (s : State), s.portUp hd.port.val = true →
    s.sender hd.src = some (n, pr) → s.asked? n hd.tag.toNat .held = some (m, x) → x.asked = some a →
    pageNo? (s.folio m).pages x.no = some x → (s.at_ t).now ≤ a + 10000000 →
    s.parts.strays.any (fun y => y.partner == n && y.tag == hd.tag.toNat) = false → status ≠ 0 → (s.folio m).state = .generating →
    (s.folio m).pauseReq = true →
    Answers (.ftStoreAck t hd status handle) s (fun u => PauseFailed s u m status.toNat)) ∧
  (∀ (t a : Nat) (n : BitVec 16) (no : BitVec 22) (x : Page) (s : State), s.coreUp = true →
    pageNo? (s.folio n.toNat).pages no.toNat = some x → x.loc = .held → x.asked = some a → a + 10000000 < (s.at_ t).now →
    (s.folio n.toNat).state = .generating → (s.folio n.toNat).pauseReq = true →
    Answers (.ftStoreAckTimeout t n no) s (fun u => PauseFailed s u n.toNat 0x2A)) ∧
  (∀ (t : Nat) (n : BitVec 16) (e : Evict) (s : State), s.coreUp = true →
    s.parts.evicts.find? (fun e => e.folio == n.toNat) = some e → e.ended = false → e.since + 100000000 < (s.at_ t).now →
    Answers (.evictKvEndTimeout t n) s (fun u => PauseFailed s u n.toNat 0x2A))

/-- FT_DATA, FT_FREE_ACK and their timeouts (R94, R293, R310, R324, R326).
The model's readings and choices behind it: log entry 38. -/
def Obligations.FetchesRestorePages : Prop :=
  (∀ (t n m a : Nat) (pr : Partner) (x : Page) (hd : Hdr) (status : BitVec 8) (kib : Fin 65) (data : Bytes) (s : State),
    s.portUp hd.port.val = true → s.sender hd.src = some (n, pr) → s.asked? n hd.tag.toNat .far = some (m, x) → x.asked = some a →
    pageNo? (s.folio m).pages x.no = some x → (s.at_ t).now ≤ a + 10000000 → status = 0 → kib.val = (s.folio m).pageKib →
    (s.folio m).dec ≠ noPartner →
    Answers (.ftData t hd status kib data) s (fun u =>
      u.folio m = { s.folio m with pages := (u.folio m).pages } ∧ FoliosBut [m] s u ∧
      (pageNo? (u.folio m).pages x.no).map (·.farCopy) = some (some x.addr) ∧
      (pageNo? (u.folio m).pages x.no).map (·.holds) = some true ∧ (pageNo? (u.folio m).pages x.no).map (·.loc) ≠ some .far ∧
      u.rd R.SPN_FT_FETCH_COUNT = (s.rd R.SPN_FT_FETCH_COUNT + 1) % 2 ^ 32 ∧ RegsBut [R.SPN_FT_FETCH_COUNT, R.SPN_PAGE_FWD_COUNT] s u ∧
      BackTo s { u with free := s.free, regs := s.regs, ldg := { u.ldg with folios := s.ldg.folios, runs := s.ldg.runs }, ports := s.ports,
                        parts := { u.parts with strays := s.parts.strays }, out := s.out })) ∧
  (∀ (t n m a : Nat) (pr : Partner) (x : Page) (hd : Hdr) (status : BitVec 8) (kib : Fin 65) (data : Bytes) (s : State),
    s.portUp hd.port.val = true → s.sender hd.src = some (n, pr) → s.asked? n hd.tag.toNat .far = some (m, x) → x.asked = some a →
    pageNo? (s.folio m).pages x.no = some x → (s.at_ t).now ≤ a + 10000000 → (status ≠ 0 ∨ kib.val ≠ (s.folio m).pageKib) →
    Answers (.ftData t hd status kib data) s (fun u => BackTo s u)) ∧
  (∀ (t a : Nat) (n : BitVec 16) (no : BitVec 22) (x : Page) (s : State), s.coreUp = true →
    pageNo? (s.folio n.toNat).pages no.toNat = some x → x.loc = .far → x.asked = some a → a + 10000000 < (s.at_ t).now →
    (s.folio n.toNat).state = .paused →
    Answers (.ftFetchTimeout t n no) s (fun u => Orphaned [] s u n.toNat)) ∧
  (∀ (t n : Nat) (pr : Partner) (hd : Hdr) (s : State), s.portUp hd.port.val = true → s.sender hd.src = some (n, pr) →
    Answers (.ftFreeAck t hd) s (fun u =>
      let mine (r : FreeReq) : Bool := r.partner == n && r.tag == hd.tag.toNat
      if s.parts.frees.any mine then
        u.parts.frees = s.parts.frees.filter (fun r => !mine r) ∧ BackTo s { u with parts := { u.parts with frees := s.parts.frees } }
      else u.rd (R.SPN_PORT_DROP_COUNT hd.port.val) = (s.rd (R.SPN_PORT_DROP_COUNT hd.port.val) + 1) % 2 ^ 32 ∧
        RegsBut [R.SPN_PORT_DROP_COUNT hd.port.val] s u ∧ BackTo s { u with regs := s.regs })) ∧
  (∀ (t : Nat) (r : FreeReq) (rs : List FreeReq) (s : State), s.coreUp = true → s.parts.frees = r :: rs →
    r.since + 10000000 < (s.at_ t).now →
    Answers (.ftFreeTimeout t) s (fun u => u.parts.frees = rs ∧ u.flag F.LDG_STATUS_FT_FREE_LOST_SEEN = true ∧
      RegsBut [R.LDG_STATUS] s u ∧ BackTo s { u with regs := s.regs, parts := { u.parts with frees := s.parts.frees } }))

/-- CAND_LIST (R96, R248, R285).
The model's readings and choices behind it: log entry 34. -/
def Obligations.CandListTakesSlotOrIsRejected : Prop :=
  (∀ (t p : Nat) (pr : Partner) (hd : Hdr) (body : Bytes) (s : State), s.portUp hd.port.val = true → s.sender hd.src = some (p, pr) →
    pr.kind = .decode → s.candRefuse body p = none →
    Answers (.candList t hd body) s (fun u =>
      let n := fieldAt 0 2 body
      u.adm.queue.dropLast = s.adm.queue ∧ u.adm.queue.length = s.adm.queue.length + 1 ∧
      (u.adm.queue.getLast?.map (·.folio)) = some n ∧ (u.adm.queue.getLast?.map (·.gen)) = some (s.folio n).gen ∧
      (u.adm.queue.getLast?.map (·.tenant)) = some (s.folio n).tenant ∧ (u.adm.queue.getLast?.map (·.chan)) = some .outp ∧
      (u.adm.queue.getLast?.map (·.kind)) = some .cand ∧ (u.adm.queue.getLast?.map (·.phase)) = some .queued ∧
      (u.adm.queue.getLast?.map (·.slot)) = some true ∧ (u.adm.queue.getLast?.map (·.tArr)) = some (s.at_ t).now ∧
      (u.adm.queue.getLast?.map (·.cands)) = some (candsOf (fieldAt 8 1 body) (body.drop 16)) ∧
      (u.adm.queue.getLast?.map (·.body)) = some body ∧
      BackTo s { u with adm := { u.adm with queue := s.adm.queue, nextId := s.adm.nextId } })) ∧
  (∀ (t p st : Nat) (pr : Partner) (hd : Hdr) (body : Bytes) (s : State), s.portUp hd.port.val = true → s.sender hd.src = some (p, pr) →
    (pr.kind = .decode ∧ s.candRefuse body p = some st) →
    Answers (.candList t hd body) s (fun u =>
      Replied s u hd st (.reject 0x30 hd.tag.toNat (handleOf (fieldAt 0 2 body) (fieldAt 2 1 body))) ∧
      (if st = 0x25 then u.rd R.ADM_REFUSE_COUNT = (s.rd R.ADM_REFUSE_COUNT + 1) % 2 ^ 32 ∧ u.rd R.TSU_REJECT_COUNT = s.rd R.TSU_REJECT_COUNT
       else u.rd R.ADM_REFUSE_COUNT = s.rd R.ADM_REFUSE_COUNT ∧
         u.rd R.TSU_REJECT_COUNT = (if st = 0x32 then s.rd R.TSU_REJECT_COUNT else (s.rd R.TSU_REJECT_COUNT + 1) % 2 ^ 32)) ∧
      RegsBut (rejectRegs hd.port.val ++ [R.ADM_REFUSE_COUNT, R.ADM_STATUS, R.TSU_REJECT_COUNT, R.TSU_STATUS, R.TSU_SPEC_COUNT]) s u ∧
      BackTo s { u with regs := s.regs, ports := s.ports, out := s.out }))

/-- R32: no speculative generation. -/
def Obligations.SpeculativeCandListIsRejected : Prop :=
  ∀ (t p : Nat) (pr : Partner) (hd : Hdr) (body : Bytes) (s : State), s.portUp hd.port.val = true → s.sender hd.src = some (p, pr) →
    pr.kind = .decode → s.limp = false → bitOf 0 (fieldAt 3 1 body) = true →
    Answers (.candList t hd body) s (fun u =>
      Replied s u hd 0x14 (.reject 0x30 hd.tag.toNat (handleOf (fieldAt 0 2 body) (fieldAt 2 1 body))) ∧
      u.adm = s.adm ∧ u.ldg = s.ldg ∧ u.eng = s.eng ∧ u.chain = s.chain ∧
      u.rd R.TSU_SPEC_COUNT = (s.rd R.TSU_SPEC_COUNT + 1) % 2 ^ 32 ∧ u.flag F.TSU_STATUS_SPEC_SEEN = true ∧
      BackTo s { u with regs := s.regs, ports := s.ports, out := s.out })

/-- Commands of the Prefix Verdict Cache (R123 to R125, R133, R136).
The model's readings and choices behind it: log entries 43, 44. -/
def Obligations.PrefixCacheInvalidatesAndCopies : Prop :=
  (∀ (t : Nat) (who : Option (Fin 1024)) (i : Instr) (s : State), i = (match who with | some c => .pvcInvalidateTenant t c | none => .pvcInvalidateAll t) →
    s.hostUp 0 = true → s.flag F.PVC_CMD_RESULT_BUSY = false →
    Answers i s (fun u =>
      let now := (s.at_ t).tick
      u.flag F.PVC_CMD_RESULT_BUSY = true ∧ u.fld F.PVC_CMD_RESULT_STATUS = 0 ∧ u.pvc.sweep = some (who.map (·.val)) ∧
      (∀ c, c < 1024 → u.pvc.epochAt now c = s.pvc.epochAt now c) ∧
      (∀ c, c < 1024 → u.pvc.epochAt (now + 10) c =
        (s.pvc.epochAt (now + 10) c + (if who = none ∨ who.map (·.val) = some c then 1 else 0)) % 256) ∧
      u.pvc.ents = s.pvc.ents ∧ u.pvc.pins = s.pvc.pins ∧ RegsBut [R.PVC_CMD_RESULT] s u ∧
      BackTo s { u with regs := s.regs, pvc := s.pvc })) ∧
  (∀ (t : Nat) (c : Fin 1024) (s : State), s.hostUp 0 = true → s.flag F.PVC_CMD_RESULT_BUSY = true →
    Answers (.pvcInvalidateTenant t c) s (fun u => BackTo s u) ∧ Answers (.pvcInvalidateAll t) s (fun u => BackTo s u)) ∧
  (∀ (t : Nat) (who : Option Nat) (s : State), s.coreUp = true → s.pvc.sweep = some who → (∀ e ∈ s.pvc.epochPend, e.1 < (s.at_ t).tick) →
    Answers (.pvcSweepDone t) s (fun u =>
      u.flag F.PVC_CMD_RESULT_BUSY = false ∧ u.pvc.sweep = none ∧ u.pvc.pins = s.pvc.pins ∧ RegsBut [R.PVC_CMD_RESULT] s u ∧
      (∀ c, c < 1024 → u.pvc.epochAt (s.at_ t).tick c = s.pvc.epochAt (s.at_ t).tick c) ∧
      (∀ k, (s.pvc.ent k).tenant < 1024 → u.pvc.ent k = { s.pvc.ent k with valid := (s.pvc.ent k).valid &&
        !((who == none || who == some (s.pvc.ent k).tenant) &&
          (s.pvc.ent k).epoch != s.pvc.epochAt (s.at_ t).tick (s.pvc.ent k).tenant) }) ∧
      BackTo s { u with regs := s.regs, pvc := s.pvc })) ∧
  (∀ (t n k : Nat) (i : Item) (s : State), s.coreUp = true → s.pvc.pins.find? (fun x => x.2 == n) = some (k, n) → s.item? n = some i →
    i.phase = .admitted →
    Answers (.pvcHitCopyDone t n false) s (fun u =>
      (u.item? n).map (·.copying) = some false ∧ (u.item? n).map (·.work) = some (s.pvc.ent k).snap ∧
      (u.item? n).map (·.result) = some (some (if (s.pvc.ent k).blocked then .block else .pass)) ∧
      (u.item? n).map (·.costs) = some (if s.flag F.PVC_CTRL_KEEP_BOOKING then i.costs else []) ∧
      u.adm.live.filter (fun j => j.id != n) = s.adm.live.filter (fun j => j.id != n) ∧
      (s.flag F.PVC_CTRL_KEEP_BOOKING = true → u.adm.backlog = s.adm.backlog) ∧
      u.pvc = { s.pvc with pins := s.pvc.pins.filter (fun x => x.2 != n) } ∧
      BackTo s { u with pvc := s.pvc, adm := { u.adm with live := s.adm.live, backlog := s.adm.backlog } }) ∧
    Answers (.pvcHitCopyDone t n true) s (fun u =>
      (u.item? n).map (·.copying) = some false ∧ (u.item? n).map (·.source) = some .computed ∧ (u.item? n).map (·.hitEnt) = some none ∧
      (u.pvc.ent k).valid = false ∧ (∀ j, j ≠ k → u.pvc.ent j = s.pvc.ent j) ∧ u.pvc.pins = s.pvc.pins.filter (fun x => x.2 != n) ∧
      u.rd R.PVC_ECC_COUNT = (s.rd R.PVC_ECC_COUNT + 1) % 2 ^ 32 ∧ (u.rd R.PVC_HIT_COUNT + 1) % 2 ^ 32 = s.rd R.PVC_HIT_COUNT ∧
      u.flag F.PVC_STATUS_ECC_SEEN = true ∧ RegsBut [R.PVC_ECC_COUNT, R.PVC_HIT_COUNT, R.PVC_STATUS] s u ∧
      BackTo s { u with regs := s.regs, pvc := { u.pvc with ents := s.pvc.ents, pins := s.pvc.pins }, adm := { u.adm with live := s.adm.live } }))

/-- AMA_UPD_WRITE, INVALIDATE, TIP_IN and CLEAR_BANK (R161, R162, R165, R167, R168, R172, R174, R175, R188).
The model's readings and choices behind it: log entry 47. -/
def Obligations.AmaUpdateCommandsStart : Prop :=
  (∀ (t : Nat) (q : Fin 8) (m : Fin 32) (x : Fin 32768) (s : State), s.hostUp 0 = true → s.lockdown = false →
    s.flag (F.QUIRE_AMA_UPD_RESULT_BUSY q.val) = false → s.updRefused (32 * q.val + m.val) (some x.val) 16383 = false →
    Answers (.amaUpdWrite t q m x) s (fun u =>
      let bank := 32 * q.val + m.val
      let e := s.staged q.val (s.bankWidth bank)
      (if e.all Unit3.ok then
        u.flag (F.QUIRE_AMA_UPD_RESULT_BUSY q.val) = true ∧ u.ama.updOf q.val = some
          { op := 1, bank := bank, entry := e, plan := s.ama.writePlan bank x.val, suspended := false } ∧
        (u.ama.jrn q.val).state = 1 ∧ (u.ama.jrn q.val).target = x.val
       else u.fld (F.QUIRE_AMA_UPD_RESULT_STATUS q.val) = 0x14 ∧ u.flag (F.QUIRE_AMA_UPD_RESULT_BUSY q.val) = false ∧ u.ama.upd = s.ama.upd) ∧
      RegsBut [R.QUIRE_AMA_UPD_RESULT q.val] s u ∧ (∀ r, r ≠ q.val → u.ama.updOf r = s.ama.updOf r ∧ u.ama.jrn r = s.ama.jrn r) ∧
      BackTo s { u with regs := s.regs, ama := { u.ama with upd := s.ama.upd, journal := s.ama.journal, res := s.ama.res } })) ∧
  (∀ (t : Nat) (q : Fin 8) (m : Fin 32) (x : Fin 32768) (s : State), s.hostUp 0 = true → s.lockdown = false →
    s.flag (F.QUIRE_AMA_UPD_RESULT_BUSY q.val) = false → s.updRefused (32 * q.val + m.val) (some x.val) 16384 = false →
    Answers (.amaUpdTipIn t q m x) s (fun u =>
      let bank := 32 * q.val + m.val
      let w := s.bankWidth bank
      let p := s.ama.tipPlan bank w x.val
      let st : Option Nat := if (s.staged q.val w).all Unit3.ok = false then some 0x14 else match p with | .refuse st => some st | _ => none
      (st = none → u.flag (F.QUIRE_AMA_UPD_RESULT_BUSY q.val) = true ∧ u.ama.updOf q.val = some
          { op := 3, bank := bank, entry := s.staged q.val w, plan := tipSteps w p, suspended := false }) ∧
      (∀ v, st = some v → u.fld (F.QUIRE_AMA_UPD_RESULT_STATUS q.val) = v % 256 ∧ u.flag (F.QUIRE_AMA_UPD_RESULT_BUSY q.val) = false ∧
        u.ama.upd = s.ama.upd) ∧
      RegsBut [R.QUIRE_AMA_UPD_RESULT q.val, R.QUIRE_AMA_UPD_MOVED q.val] s u ∧
      (∀ r, r ≠ q.val → u.ama.updOf r = s.ama.updOf r ∧ u.ama.jrn r = s.ama.jrn r) ∧
      BackTo s { u with regs := s.regs, ama := { u.ama with upd := s.ama.upd, journal := s.ama.journal, res := s.ama.res } })) ∧
  (∀ (t : Nat) (q : Fin 8) (m : Fin 32) (x : Fin 32768) (s : State), s.hostUp 0 = true → s.lockdown = false →
    s.flag (F.QUIRE_AMA_UPD_RESULT_BUSY q.val) = false → s.updRefused (32 * q.val + m.val) (some x.val) 16383 = false →
    Answers (.amaUpdInvalidate t q m x) s (fun u =>
      let bank := 32 * q.val + m.val
      let e := s.ama.slot bank x.val
      u.ama.slot bank x.val = { e with valid := false, quar := false } ∧
      (∀ b y, slotKey b y ≠ slotKey bank x.val → u.ama.slot b y = s.ama.slot b y) ∧
      u.ama.ver = s.ama.ver + (if e.valid then 1 else 0) ∧ (e.valid = false → u.ama.digest = s.ama.digest) ∧
      u.fld (F.QUIRE_AMA_UPD_RESULT_STATUS q.val) = 0 ∧ u.flag (F.QUIRE_AMA_UPD_RESULT_BUSY q.val) = false ∧
      u.fld (F.QUIRE_AMA_UPD_RESULT_STEPS q.val) = (if e.valid then 1 else 0) ∧ RegsBut [R.QUIRE_AMA_UPD_RESULT q.val] s u ∧
      BackTo s { u with regs := s.regs, ama := { u.ama with
        slots := s.ama.slots, ver := s.ama.ver, digest := s.ama.digest, journal := s.ama.journal, res := s.ama.res } })) ∧
  (∀ (t : Nat) (q : Fin 8) (m : Fin 32) (s : State), s.hostUp 0 = true → s.lockdown = false →
    s.flag (F.QUIRE_AMA_UPD_RESULT_BUSY q.val) = false → s.updRefused (32 * q.val + m.val) none 0 = false →
    Answers (.amaUpdClearBank t q m) s (fun u =>
      let bank := 32 * q.val + m.val
      (∀ y, y < 16384 → u.ama.slot bank y = AmaSlot.blank) ∧ u.ama.failed = s.ama.failed.filter (· != bank) ∧
      (∀ b y, y < 16384 → b ≠ bank → u.ama.slot b y = s.ama.slot b y) ∧ u.ama.ver = s.ama.ver + 1 ∧
      u.fld (F.QUIRE_AMA_UPD_RESULT_STATUS q.val) = 0 ∧ u.fld (F.QUIRE_AMA_UPD_RESULT_STEPS q.val) = 1 ∧
      RegsBut [R.QUIRE_AMA_UPD_RESULT q.val] s u ∧
      BackTo s { u with regs := s.regs, ama := { u.ama with
        slots := s.ama.slots, ver := s.ama.ver, digest := s.ama.digest, journal := s.ama.journal, res := s.ama.res, failed := s.ama.failed } })) ∧
  (∀ (t : Nat) (q : Fin 8) (m : Fin 32) (x : Fin 32768) (i : Instr) (s : State), s.hostUp 0 = true → s.lockdown = false →
    s.flag (F.QUIRE_AMA_UPD_RESULT_BUSY q.val) = true →
    (i = .amaUpdWrite t q m x ∨ i = .amaUpdInvalidate t q m x ∨ i = .amaUpdTipIn t q m x ∨ i = .amaUpdClearBank t q m) →
    Answers i s (fun u => BackTo s u))

/-- AMA_UPD_SUBSTEP and AMA_SCRUB_VISIT (R165, R168, R176, R180, R184, R186, R188, R189).
The model's readings and choices behind it: log entries 48, 49. -/
def Obligations.AmaSubstepAndScrubVisit : Prop :=
  (∀ (t : Nat) (q : Fin 8) (c : AmaUpd) (mc : AmaMicro) (rest : List AmaMicro) (s : State), s.coreUp = true → s.ama.updOf q.val = some c →
    c.suspended = false → c.plan = mc :: rest → (∀ x, copySource c.plan = some x → (s.ama.slot c.bank x).quar = false) →
    Answers (.amaUpdSubstep t q false) s (fun u =>
      (match mc with
       | .put x => u.ama.slot c.bank x = { s.ama.slot c.bank x with units := c.entry, cells := c.entry.cells, valid := false, quar := false } ∧
           (∀ b y, slotKey b y ≠ slotKey c.bank x → u.ama.slot b y = s.ama.slot b y) ∧ u.ama.ver = s.ama.ver
       | .validate x ver _ => u.ama.slot c.bank x = { s.ama.slot c.bank x with valid := true } ∧
           (∀ b y, slotKey b y ≠ slotKey c.bank x → u.ama.slot b y = s.ama.slot b y) ∧ u.ama.ver = s.ama.ver + (if ver then 1 else 0)
       | .clear x ver => u.ama.slot c.bank x = { s.ama.slot c.bank x with valid := false } ∧
           (∀ b y, slotKey b y ≠ slotKey c.bank x → u.ama.slot b y = s.ama.slot b y) ∧ u.ama.ver = s.ama.ver + (if ver then 1 else 0)
       | .copy d x => u.ama.slot c.bank d = { s.ama.slot c.bank d with
             units := (s.ama.slot c.bank x).units, cells := (s.ama.slot c.bank x).units.cells, valid := false } ∧
           (∀ b y, slotKey b y ≠ slotKey c.bank d → u.ama.slot b y = s.ama.slot b y) ∧ u.ama.ver = s.ama.ver) ∧
      (rest ≠ [] → u.ama.updOf q.val = some { c with plan := rest }) ∧
      (rest = [] → u.ama.updOf q.val = none ∧ u.fld (F.QUIRE_AMA_UPD_RESULT_STATUS q.val) = 0 ∧
        u.flag (F.QUIRE_AMA_UPD_RESULT_BUSY q.val) = false ∧ (u.ama.jrn q.val).state = 0) ∧
      (∀ r, r ≠ q.val → u.ama.updOf r = s.ama.updOf r ∧ u.ama.jrn r = s.ama.jrn r) ∧
      RegsBut [R.QUIRE_AMA_UPD_RESULT q.val, R.QUIRE_AMA_MOVE_COPY_COUNT q.val] s u ∧
      BackTo s { u with regs := s.regs, ama := { u.ama with
        slots := s.ama.slots, ver := s.ama.ver, digest := s.ama.digest, upd := s.ama.upd, journal := s.ama.journal, res := s.ama.res } })) ∧
  (∀ (t x : Nat) (q : Fin 8) (c : AmaUpd) (s : State), s.coreUp = true → s.ama.updOf q.val = some c →
    c.suspended = false → copySource c.plan = some x →
    Answers (.amaUpdSubstep t q true) s (fun u =>
      u.ama.updOf q.val = none ∧ u.fld (F.QUIRE_AMA_UPD_RESULT_STATUS q.val) = 0x15 ∧
      u.flag (F.QUIRE_AMA_UPD_RESULT_BUSY q.val) = false ∧ (u.ama.slot c.bank x).quar = true ∧
      RegsBut ([R.QUIRE_AMA_UPD_RESULT q.val] ++ quarRegs (c.bank / 32) ++ logRegs s) s u ∧
      (∀ b y, slotKey b y ≠ slotKey c.bank x → u.ama.slot b y = s.ama.slot b y) ∧
      BackTo s { u with regs := s.regs, ama := { u.ama with slots := s.ama.slots, upd := s.ama.upd, journal := s.ama.journal } })) ∧
  (∀ (t : Nat) (bad : Bool) (q : Fin 8) (s : State), s.coreUp = true → (∀ c, s.ama.updOf q.val = some c → c.suspended = true) →
    Answers (.amaUpdSubstep t q bad) s (fun u => BackTo s u)) ∧
  (∀ (t x : Nat) (bank : Fin 256) (s : State), s.coreUp = true → s.ama.scrubDue.find? (fun y => y.1 == bank.val) = some (bank.val, x) →
    Answers (.amaScrubVisit t bank [] false) s (fun u =>
      let e := s.ama.slot bank.val x
      u.ama.slot bank.val x = { e with cells := e.units.cells, scrubbedAt := some (s.at_ t).tick } ∧
      (∀ b y, slotKey b y ≠ slotKey bank.val x → u.ama.slot b y = s.ama.slot b y) ∧
      u.ama.scrubDue = s.ama.scrubDue.filter (· != (bank.val, x)) ∧
      u.rd (R.QUIRE_AMA_SCRUB_FIX_COUNT (bank.val / 32)) = (if e.cells = e.units.cells then s.rd (R.QUIRE_AMA_SCRUB_FIX_COUNT (bank.val / 32))
        else (s.rd (R.QUIRE_AMA_SCRUB_FIX_COUNT (bank.val / 32)) + 1) % 2 ^ 32) ∧
      RegsBut [R.QUIRE_AMA_SCRUB_FIX_COUNT (bank.val / 32), R.QUIRE_AMA_MAINT_STATUS (bank.val / 32)] s u ∧
      BackTo s { u with regs := s.regs, ama := { u.ama with slots := s.ama.slots, scrubDue := s.ama.scrubDue } })) ∧
  (∀ (t : Nat) (bank : Fin 256) (s : State), s.coreUp = true → s.ama.scrubDue.find? (fun y => y.1 == bank.val) = none →
    Answers (.amaScrubVisit t bank [] false) s (fun u =>
      let n := Sparse.get (fun _ => 0) s.ama.scrubNext bank.val
      let x := s.entryAt bank.val n
      u.ama.slot bank.val x = { s.ama.slot bank.val x with cells := (s.ama.slot bank.val x).units.cells } ∧
      (∀ b y, slotKey b y ≠ slotKey bank.val x → u.ama.slot b y = s.ama.slot b y) ∧
      Sparse.get (fun _ => 0) u.ama.scrubNext bank.val = (n + 1) % 16384 ∧
      RegsBut [R.QUIRE_AMA_SCRUB_FIX_COUNT (bank.val / 32), R.QUIRE_AMA_MAINT_STATUS (bank.val / 32)] s u ∧
      BackTo s { u with regs := s.regs, ama := { u.ama with slots := s.ama.slots, scrubNext := s.ama.scrubNext } }) ∧
    Answers (.amaScrubVisit t bank [] true) s (fun u =>
      (u.ama.slot bank.val (s.entryAt bank.val (Sparse.get (fun _ => 0) s.ama.scrubNext bank.val))).quar = true ∧
      RegsBut (quarRegs (bank.val / 32) ++ logRegs s) s u ∧
      BackTo s { u with regs := s.regs, ama := { u.ama with slots := s.ama.slots, scrubNext := s.ama.scrubNext } }))

/-- AMA_SEARCH_DONE (R143 to R149, R157, R159).
The model's readings and choices behind it: log entry 46. -/
def Obligations.AmaSearchResultReachesItem : Prop :=
  (∀ (t n tab : Nat) (rec : TableRec) (ecc : Bool) (i : Item) (r : SearchRes) (s : State), s.coreUp = true → s.item? n = some i →
    s.maySearch i = true → (s.tablesFor i.chan)[i.srchTab]? = some (tab, rec) → rec.cascade = false →
    (s.at_ t).searchLocal tab (searchKey (widthUnits rec.width) (s.searchAt i i.srchPos).1 i.profile (s.searchAt i i.srchPos).2) [] = (r, s.at_ t) →
    ((i.apply r).nextSearch (s.tablesFor i.chan).length).srchDone = false →
    Answers (.amaSearchDone t n [] ecc) s (fun u =>
      u.item? n = some { (i.apply r).nextSearch (s.tablesFor i.chan).length with
        verFirst := some (i.verFirst.getD s.ama.ver), verLast := s.ama.ver, casc := none } ∧
      u.adm.live.filter (fun j => j.id != n) = s.adm.live.filter (fun j => j.id != n) ∧
      u.rd (R.QUIRE_AMA_SEARCH_COUNT i.quire) = (s.rd (R.QUIRE_AMA_SEARCH_COUNT i.quire) + 1) % 2 ^ 32 ∧
      u.rd (R.QUIRE_AMA_HIT_COUNT i.quire) = (match r with
        | .hit .. => (s.rd (R.QUIRE_AMA_HIT_COUNT i.quire) + 1) % 2 ^ 32
        | _ => s.rd (R.QUIRE_AMA_HIT_COUNT i.quire)) ∧
      u.rd (R.QUIRE_AMA_INCOMPLETE_COUNT i.quire) = (match r with
        | .incomplete => (s.rd (R.QUIRE_AMA_INCOMPLETE_COUNT i.quire) + 1) % 2 ^ 32
        | _ => s.rd (R.QUIRE_AMA_INCOMPLETE_COUNT i.quire)) ∧
      RegsBut [R.QUIRE_AMA_SEARCH_COUNT i.quire, R.QUIRE_AMA_HIT_COUNT i.quire, R.QUIRE_AMA_INCOMPLETE_COUNT i.quire,
        R.QUIRE_AMA_STATUS i.quire] s u ∧
      BackTo s { u with regs := s.regs, adm := { u.adm with live := s.adm.live } })) ∧
  (∀ (t n tab : Nat) (rec : TableRec) (ecc : Bool) (i : Item) (s : State), s.coreUp = true → s.item? n = some i →
    s.maySearch i = true → (s.tablesFor i.chan)[i.srchTab]? = some (tab, rec) → rec.cascade = true → i.casc = none → s.ringUp = false →
    s.casc.flying.any (fun c => c.item == n) = false → ((i.apply .incomplete).nextSearch (s.tablesFor i.chan).length).srchDone = false →
    Answers (.amaSearchDone t n [] ecc) s (fun u =>
      (u.item? n).map (·.incomplete) = some true ∧
      u.rd (R.QUIRE_AMA_INCOMPLETE_COUNT i.quire) = (s.rd (R.QUIRE_AMA_INCOMPLETE_COUNT i.quire) + 1) % 2 ^ 32 ∧
      u.flag (F.QUIRE_AMA_STATUS_INCOMPLETE_SEEN i.quire) = true ∧
      RegsBut [R.QUIRE_AMA_SEARCH_COUNT i.quire, R.QUIRE_AMA_INCOMPLETE_COUNT i.quire, R.QUIRE_AMA_STATUS i.quire] s u ∧
      BackTo s { u with regs := s.regs, adm := { u.adm with live := s.adm.live } })) ∧
  (∀ (t n tab : Nat) (rec : TableRec) (us : List AmaUpset) (ecc : Bool) (i : Item) (r : SearchRes) (s : State), s.coreUp = true →
    s.item? n = some i → s.maySearch i = true → (s.tablesFor i.chan)[i.srchTab]? = some (tab, rec) → rec.cascade = true →
    i.casc = some r → ((i.apply r).nextSearch (s.tablesFor i.chan).length).srchDone = false →
    Answers (.amaSearchDone t n us ecc) s (fun u =>
      u.item? n = some { (i.apply r).nextSearch (s.tablesFor i.chan).length with casc := none } ∧
      u.adm.live.filter (fun j => j.id != n) = s.adm.live.filter (fun j => j.id != n) ∧
      (r = .miss → u.regs = s.regs) ∧
      RegsBut [R.QUIRE_AMA_HIT_COUNT i.quire, R.QUIRE_AMA_INCOMPLETE_COUNT i.quire, R.QUIRE_AMA_STATUS i.quire] s u ∧
      BackTo s { u with regs := s.regs, adm := { u.adm with live := s.adm.live } })) ∧
  (∀ (t n tab : Nat) (rec : TableRec) (ecc : Bool) (i : Item) (r : SearchRes) (s : State), s.coreUp = true → s.item? n = some i →
    s.maySearch i = true → (s.tablesFor i.chan)[i.srchTab]? = some (tab, rec) → (s.at_ t).SearchGives tab rec i r →
    ((i.apply r).nextSearch (s.tablesFor i.chan).length).srchDone = true →
    ((i.apply r).incomplete = true ∨ (i.fetched = false ∧ i.fv = none)) →
    Answers (.amaSearchDone t n [] ecc) s (fun u =>
      (u.item? n).map (fun j => (j.srchDone, j.incomplete, j.work, j.masks)) =
        some (true, (i.apply r).incomplete, (i.apply r).work, (i.apply r).masks) ∧
      (u.item? n).map (·.costs) = some (i.costs.filter fun p => p.1 != .ama) ∧
      u.adm.b i.quire i.chan .ama = s.adm.b i.quire i.chan .ama - i.cost .ama ∧
      u.adm.live.filter (fun j => j.id != n) = s.adm.live.filter (fun j => j.id != n) ∧
      RegsBut [R.QUIRE_AMA_SEARCH_COUNT i.quire, R.QUIRE_AMA_HIT_COUNT i.quire, R.QUIRE_AMA_INCOMPLETE_COUNT i.quire,
        R.QUIRE_AMA_STATUS i.quire] s u ∧
      BackTo s { u with regs := s.regs, adm := { u.adm with live := s.adm.live, backlog := s.adm.backlog } })) ∧
  (∀ (t n : Nat) (us : List AmaUpset) (ecc : Bool) (i : Item) (s : State), s.coreUp = true → s.item? n = some i → s.maySearch i = false →
    Answers (.amaSearchDone t n us ecc) s (fun u => BackTo s u))

/-- The cascade (R152 to R159, Table 6.5).
The model's readings and choices behind it: log entry 51. -/
def Obligations.CascadeTrainsSendsAndGoesDown : Prop :=
  (∀ (t slot n : Nat) (i : Item) (s : State), s.coreUp = true → s.casc.joined = true → s.ringUp = true → s.casc.n ≠ 0 →
    slot % s.casc.n = s.casc.pos → slot < 16 * s.casc.n → s.casc.flying.any (fun c => c.slot == slot) = false → s.item? n = some i → i.quire < 8 →
    Answers (.cascadeSlotSend t slot n) s (fun u =>
      (if s.mayCascade i then
        u.casc.sent = ((s.at_ t).now, s.searchFrame i slot) :: s.casc.sent ∧ u.casc.nextId = (s.casc.nextId + 1) % 2 ^ 32 ∧
        u.casc.flying = s.casc.flying ++ [{ searchId := (s.searchFrame i slot).searchId, item := i.id, slot := slot, frame := s.searchFrame i slot }] ∧
        u.rd R.SHL_CASCADE_SENT_COUNT = (s.rd R.SHL_CASCADE_SENT_COUNT + 1) % 2 ^ 32 ∧
        u.rd (R.QUIRE_AMA_SEARCH_COUNT i.quire) = (s.rd (R.QUIRE_AMA_SEARCH_COUNT i.quire) + 1) % 2 ^ 32
       else u.casc = { s.casc with sent := ((s.at_ t).now, s.emptyFrame slot) :: s.casc.sent } ∧ u.regs = s.regs) ∧
      RegsBut [R.SHL_CASCADE_SENT_COUNT, R.QUIRE_AMA_SEARCH_COUNT i.quire] s u ∧
      BackTo s { u with regs := s.regs, casc := { u.casc with sent := s.casc.sent, nextId := s.casc.nextId, flying := s.casc.flying } })) ∧
  (∀ (t slot n : Nat) (s : State), s.coreUp = true → s.casc.joined = true → s.fld F.SHL_CASCADE_STATUS_STATE = 1 →
    Answers (.cascadeSlotSend t slot n) s (fun u =>
      u.casc = { s.casc with sent := ((s.at_ t).now, s.trainFrame slot) :: s.casc.sent } ∧ BackTo s { u with casc := s.casc })) ∧
  (∀ (t slot : Nat) (bs : Bytes) (us : List AmaUpset) (s : State), s.coreUp = true → s.casc.joined = true → s.casc.n ≠ 0 → s.ringUp = true →
    frameCrcOk bs = true → slot % s.casc.n ≠ s.casc.pos →
    ((parseFrame bs).type ≠ 1 ∨ ((parseFrame bs).cmap = s.cmapId ∧ s.tableBanks (parseFrame bs).table = [])) →
    Answers (.cascadeFrameRx t slot bs us) s (fun u =>
      u.casc.sent = ((s.at_ t).now, if (parseFrame bs).type = 1 then parseFrame bs else { parseFrame bs with slot := slot }) :: s.casc.sent ∧
      u.casc.noGood = 0 ∧ u.casc.crcRun = 0 ∧
      BackTo s { u with casc := { u.casc with sent := s.casc.sent, noGood := s.casc.noGood, crcRun := s.casc.crcRun } })) ∧
  (∀ (t slot : Nat) (c : CSearch) (bs : Bytes) (us : List AmaUpset) (s : State), s.coreUp = true → s.casc.joined = true → s.casc.n ≠ 0 →
    s.ringUp = true → frameCrcOk bs = true → slot % s.casc.n = s.casc.pos → s.casc.flying.find? (fun c => c.slot == slot) = some c →
    (parseFrame bs).type = 1 → (parseFrame bs).searchId = c.searchId → (parseFrame bs).cmap = s.cmapId → s.tableBanks (parseFrame bs).table = [] →
    Answers (.cascadeFrameRx t slot bs us) s (fun u =>
      (∀ i, s.item? c.item = some i → (u.item? c.item).map (·.casc) = some (some (parseFrame bs).result)) ∧
      u.casc.flying = s.casc.flying.filter (fun y => y.searchId != c.searchId) ∧ u.casc.sent = s.casc.sent ∧
      BackTo s { u with adm := { u.adm with live := s.adm.live },
                        casc := { u.casc with flying := s.casc.flying, noGood := s.casc.noGood, crcRun := s.casc.crcRun } })) ∧
  (∀ (t slot : Nat) (bs : Bytes) (us : List AmaUpset) (s : State), s.coreUp = true → s.casc.joined = true → s.casc.n ≠ 0 → s.ringUp = true →
    frameCrcOk bs = false → slot % s.casc.n ≠ s.casc.pos → s.casc.crcRun < 3 → s.casc.noGood < 15 →
    Answers (.cascadeFrameRx t slot bs us) s (fun u =>
      u.rd R.SHL_CASCADE_CRC_COUNT = (s.rd R.SHL_CASCADE_CRC_COUNT + 1) % 2 ^ 32 ∧ u.flag F.SHL_CASCADE_STATUS_CRC_SEEN = true ∧
      u.casc = { s.casc with sent := ((s.at_ t).now, CFrame.error slot) :: s.casc.sent, noGood := s.casc.noGood + 1, crcRun := s.casc.crcRun + 1 } ∧
      RegsBut [R.SHL_CASCADE_CRC_COUNT, R.SHL_CASCADE_STATUS] s u ∧ BackTo s { u with regs := s.regs, casc := s.casc })) ∧
  (∀ (t reason : Nat) (i : Instr) (s : State), s.coreUp = true →
    (i = .cascadeRingDown t ∧ s.ringUp = true ∧ reason = 5 ∨
     i = .cascadeTrainTimeout t ∧ s.fld F.SHL_CASCADE_STATUS_STATE = 1 ∧ s.casc.trainAt + 100000 ≤ (s.at_ t).now ∧
       reason = (if s.casc.lastReason ≠ 0 then s.casc.lastReason else if s.casc.lockedOk then 4 else 1)) →
    Answers i s (fun u =>
      u.fld F.SHL_CASCADE_STATUS_STATE = 3 ∧ u.fld F.SHL_CASCADE_STATUS_REASON = reason % 16 ∧
      u.flag F.SHL_CASCADE_STATUS_DOWN_SEEN = true ∧ u.rd R.SHL_CASCADE_DOWN_COUNT = (s.rd R.SHL_CASCADE_DOWN_COUNT + 1) % 2 ^ 32 ∧
      u.casc.flying = [] ∧ u.casc.downAt = some (s.at_ t).now ∧
      (∀ c ∈ s.casc.flying, (s.item? c.item).isSome = true → (u.item? c.item).map (·.casc) = some (some .incomplete)) ∧
      RegsBut [R.SHL_CASCADE_STATUS, R.SHL_CASCADE_DOWN_COUNT] s u ∧
      BackTo s { u with regs := s.regs, adm := { u.adm with live := s.adm.live },
                        casc := { u.casc with flying := s.casc.flying, downAt := s.casc.downAt, noGood := s.casc.noGood, crcRun := s.casc.crcRun } })) ∧
  (∀ (t c : Nat) (s : State), s.coreUp = true → s.fld F.SHL_CASCADE_STATUS_STATE = 1 → s.casc.closedAt = some c →
    Answers (.cascadeRingUp t) s (fun u =>
      u.fld F.SHL_CASCADE_STATUS_STATE = (if c + 5 * (16 * s.casc.n) ≤ (s.at_ t).now then 2 else 1) ∧
      RegsBut [R.SHL_CASCADE_STATUS] s u ∧ BackTo s { u with regs := s.regs })) ∧
  (∀ (t d : Nat) (s : State), s.coreUp = true → s.casc.joined = true → s.fld F.SHL_CASCADE_STATUS_STATE = 3 → s.casc.downAt = some d →
    d + 1000000 ≤ (s.at_ t).now →
    Answers (.cascadeRetrainTimer t) s (fun u =>
      u.fld F.SHL_CASCADE_STATUS_STATE = 1 ∧ u.casc = { s.casc with
        trainAt := (s.at_ t).now, closedAt := none, lockedOk := false, noGood := 0, crcRun := 0, lastReason := 0 } ∧
      RegsBut [R.SHL_CASCADE_STATUS] s u ∧ BackTo s { u with regs := s.regs, casc := s.casc }))

/-- TWE_STEP, STATE_FETCH_DONE, AMT_PASS_DONE and XL_RERUN_DONE (R202 to R208, R223 to R227, R234 to R239, R241 to R243, R386).
The model's readings and choices behind it: log entries 52, 55. -/
def Obligations.ComputeStepsReachItem : Prop :=
  (∀ (t : Nat) (q m : Fin 8) (ecc : Bool) (x : Sample) (i : Item) (tr : TreeDesc) (bs : Bytes) (s : State), s.coreUp = true →
    s.eng.samples = [x] → x.quire = q.val → x.twe = m.val → x.started = true → s.item? x.item = some i → s.current i = true →
    i.phase = .admitted → i.decided = false → (s.qmodel x.quire).tree x.tree = some tr → (s.qmodel x.quire).read tr.slot (8 * x.node) 8 = .ok bs →
    s.wordBad x.quire (8 * x.node) 8 = false → (parseNode (unle bs)).leaf = false → x.level ≠ tr.depth →
    Answers (.tweStep t q m [] ecc) s (fun u =>
      let nd := parseNode (unle bs)
      let turn := goLeft (s.qmodel x.quire) nd (Sparse.get (fun _ => none) (i.fv.getD []) nd.feature)
      u.eng.samples = [{ x with node := nd.low + (if turn.left then 0 else 1), level := x.level + 1 }] ∧
      u.rd (R.QUIRE_TWE_MISSING_COUNT q.val) = (s.rd (R.QUIRE_TWE_MISSING_COUNT q.val) + b2n turn.missing) % 2 ^ 32 ∧
      u.rd (R.QUIRE_TWE_UNSEEN_COUNT q.val) = (s.rd (R.QUIRE_TWE_UNSEEN_COUNT q.val) + b2n turn.unseen) % 2 ^ 32 ∧
      RegsBut [R.QUIRE_TWE_MISSING_COUNT q.val, R.QUIRE_TWE_UNSEEN_COUNT q.val, R.QUIRE_TWE_STATUS q.val] s u ∧
      BackTo s { u with regs := s.regs, eng := { u.eng with samples := s.eng.samples, visits := s.eng.visits } })) ∧
  (∀ (t : Nat) (q m : Fin 8) (ecc : Bool) (x : Sample) (i : Item) (tr : TreeDesc) (d : EnsDesc) (a : Acc) (bs : Bytes) (s : State),
    s.coreUp = true → s.eng.samples = [x] → x.quire = q.val → x.twe = m.val → x.started = true → s.item? x.item = some i →
    s.current i = true → i.phase = .admitted → (s.qmodel x.quire).tree x.tree = some tr →
    (s.qmodel x.quire).read tr.slot (8 * x.node) 8 = .ok bs → s.wordBad x.quire (8 * x.node) 8 = false → (parseNode (unle bs)).leaf = true →
    (s.qmodel x.quire).ens x.ens = some d → i.accs = [a] → a.ens = x.ens → a.waiting = [] → a.decided = none → mod7 a.sum = a.residue →
    x.tree = d.firstTree + a.next → a.next + 1 ≠ d.trees → overflow64 (a.sum + leafAddend (parseNode (unle bs)).low d.leafShift) = false →
    Answers (.tweStep t q m [] ecc) s (fun u =>
      u.eng.samples = [] ∧ u.rd (R.QUIRE_TWE_TREE_COUNT q.val) = (s.rd (R.QUIRE_TWE_TREE_COUNT q.val) + 1) % 2 ^ 32 ∧
      (u.item? x.item).map (fun j => j.accs.map (·.sum)) = some [a.sum + leafAddend (parseNode (unle bs)).low d.leafShift] ∧
      (u.item? x.item).map (fun j => j.accs.map (·.next)) = some [a.next + 1] ∧
      (u.item? x.item).map (fun j => j.accs.map (·.decided)) = some [none] ∧
      RegsBut [R.QUIRE_TWE_TREE_COUNT q.val] s u ∧
      BackTo s { u with regs := s.regs, adm := { u.adm with live := s.adm.live },
                        eng := { u.eng with samples := s.eng.samples, visits := s.eng.visits } })) ∧
  (∀ (t n : Nat) (rej : List Nat) (ecc : Bool) (i : Item) (s : State), s.coreUp = true → s.item? n = some i → i.phase = .admitted →
    i.fetched = false → i.kind ≠ .endItem → i.hitEnt = none → s.current i = true → s.embBoundary i = none → i.srchDone = false →
    Answers (.stateFetchDone t n rej none ecc) s (fun u =>
      (u.item? n).map (·.fetched) = some true ∧ (u.item? n).map (fun j => j.cls.map (·.num)) = some (s.itemCls i) ∧
      (u.item? n).map (·.work) = some ((s.itemCls i).foldl (fun w c => s.foldCls i c w) i.work) ∧
      u.adm.live.filter (fun j => j.id != n) = s.adm.live.filter (fun j => j.id != n) ∧
      RegsBut [R.QUIRE_AMT_STATUS i.quire] s u ∧
      BackTo s { u with regs := s.regs, adm := { u.adm with live := s.adm.live, backlog := s.adm.backlog },
                        eng := { u.eng with tiles := s.eng.tiles, waitRows := s.eng.waitRows } })) ∧
  (∀ (t : Nat) (q : Fin 8) (tl : Fin 32) (codes : List (List (List Nat))) (wit : List (List Nat)) (fails : List Nat) (ecc : Bool) (r : TRow)
    (d : ClsDesc) (i : Item) (c : ClsRun) (s : State), s.coreUp = true → (s.tile q.val tl.val).running = true → (s.tile q.val tl.val).rows = [r] →
    s.rowLive r = true → s.item? r.item = some i → i.cls = [c] → c.num = r.cls → i.srchDone = false → (s.qmodel q.val).cls r.cls = some d →
    (s.qmodel q.val).clsBoundary d = none → s.clsBadWord q.val d = none → s.eng.waitRows = [] →
    Answers (.amtPassDone t q tl codes wit fails none ecc) s (fun u =>
      let k := s.tile q.val tl.val
      let ls := (s.qmodel q.val).layersOf d
      let est := match k.cal[0]? with | some x => (s.qmodel q.val).rowScores x ls (normCodes ls (codes[0]?.getD [])) 0 | none => []
      let ok := !k.passStale && !s.witBad q.val tl.val ls wit && !fails.contains 0 && !est.isEmpty &&
        est.zipIdx.all fun x => certified ((s.qmodel q.val).thresholds (d.firstSlot + x.2)) x.1.1 x.1.2
      (u.tile q.val tl.val).rows = [] ∧ (u.tile q.val tl.val).running = false ∧
      u.rd (R.QUIRE_AMT_PASS_COUNT q.val) = (s.rd (R.QUIRE_AMT_PASS_COUNT q.val) + 1) % 2 ^ 32 ∧
      (u.item? r.item).map (fun j => j.cls.map (·.status)) = some [if ok then .certified else .toXl] ∧
      (ok = true → (u.item? r.item).map (fun j => j.cls.map (·.scores)) = some [est.map (·.1)]) ∧
      u.rd (R.QUIRE_AMT_CERT_COUNT q.val) = (s.rd (R.QUIRE_AMT_CERT_COUNT q.val) + b2n ok) % 2 ^ 32 ∧
      u.rd (R.QUIRE_AMT_UNCERT_COUNT q.val) = (s.rd (R.QUIRE_AMT_UNCERT_COUNT q.val) + b2n (!ok)) % 2 ^ 32 ∧
      RegsBut [R.QUIRE_AMT_PASS_COUNT q.val, R.QUIRE_AMT_CERT_COUNT q.val, R.QUIRE_AMT_UNCERT_COUNT q.val, R.QUIRE_AMT_STATUS q.val,
        R.QUIRE_AMT_ROW_FAIL_COUNT q.val, R.QUIRE_AMT_WITNESS_FAIL_COUNT q.val] s u ∧
      BackTo s { u with regs := s.regs, adm := { u.adm with live := s.adm.live, backlog := s.adm.backlog },
                        eng := { u.eng with tiles := s.eng.tiles } })) ∧
  (∀ (t n used : Nat) (k : Fin 64) (ecc : Bool) (i : Item) (c : ClsRun) (d : ClsDesc) (s : State), s.coreUp = true → s.item? n = some i →
    i.cls = [c] → c.num = k.val → c.status = .toXl → (s.qmodel i.quire).cls k.val = some d → i.phase = .admitted → s.current i = true →
    i.srchDone = false → (s.qmodel i.quire).clsBoundary d = none → s.clsBadWord i.quire d = none →
    withinBounds ((s.qmodel i.quire).exact ((s.qmodel i.quire).layersOf d) c.x) c.est = true → i.chan = .inp →
    Answers (.xlRerunDone t n k used false none ecc) s (fun u =>
      (u.item? n).map (fun j => j.cls.map (·.status)) = some [.recomputed] ∧
      (u.item? n).map (fun j => j.cls.map (·.scores)) = some [(s.qmodel i.quire).exact ((s.qmodel i.quire).layersOf d) c.x] ∧
      Sparse.get (fun _ => 0) u.eng.xlUsed i.quire = Sparse.get (fun _ => 0) s.eng.xlUsed i.quire + used ∧
      u.rd (R.QUIRE_XL_RERUN_IN_COUNT i.quire) = (s.rd (R.QUIRE_XL_RERUN_IN_COUNT i.quire) + 1) % 2 ^ 32 ∧
      RegsBut [R.QUIRE_XL_RERUN_IN_COUNT i.quire] s u ∧
      BackTo s { u with regs := s.regs, adm := { u.adm with live := s.adm.live, backlog := s.adm.backlog },
                        eng := { u.eng with xlUsed := s.eng.xlUsed } })) ∧
  (∀ (t n used : Nat) (k : Fin 64) (ecc : Bool) (i : Item) (c : ClsRun) (d : ClsDesc) (s : State), s.coreUp = true → s.item? n = some i →
    i.cls = [c] → c.num = k.val → c.status = .toXl → (s.qmodel i.quire).cls k.val = some d → i.phase = .admitted → s.current i = true →
    (s.qmodel i.quire).clsBoundary d = none → s.clsBadWord i.quire d = none → (s.folio i.folio).pauseReq = false →
    (s.folio i.folio).resumeReq = false → i.quire < 8 →
    Answers (.xlRerunDone t n k used true none ecc) s (fun u => Faulted [R.QUIRE_XL_RERUN_IN_COUNT i.quire, R.QUIRE_XL_RERUN_OUT_COUNT i.quire, R.QUIRE_XL_FAULT_COUNT i.quire,
      R.QUIRE_XL_STATUS i.quire] s u i.folio 3 0x42 i.quire 0xFF))

/-- AMT_GATHER_TIMEOUT, AMT_CAL_DUE, AMT_CAL_START, AMT_CAL_DONE, AMT_CAL_ALL and XL_DEMAND_WINDOW (R225, R229 to R231, R241, Table 9.4).
The model's readings and choices behind it: log entries 53, 54. -/
def Obligations.TilePassesAndCalibration : Prop :=
  (∀ (t : Nat) (q : Fin 8) (k : Fin 32) (r : TRow) (rs : List TRow) (s : State), s.coreUp = true → (s.tile q.val k.val).rows = r :: rs →
    (s.tile q.val k.val).running = false → (s.tile q.val k.val).calibrating = false →
    r.at_ + s.fld (F.QUIRE_AMT_CTRL_GATHER_NS q.val) ≤ (s.at_ t).now →
    Answers (.amtGatherTimeout t q k) s (fun u =>
      let ok := (s.tile q.val k.val).validAt (s.at_ t).now
      u.tile q.val k.val = { s.tile q.val k.val with running := true, passStale := !ok, stale := !ok } ∧
      (∀ q' k' : Nat, 32 * q' + k' ≠ 32 * q.val + k.val → u.tile q' k' = s.tile q' k') ∧
      u.flag (F.QUIRE_AMT_STATUS_STALE_SEEN q.val) = (s.flag (F.QUIRE_AMT_STATUS_STALE_SEEN q.val) || !ok) ∧
      RegsBut [R.QUIRE_AMT_STATUS q.val] s u ∧
      BackTo s { u with regs := s.regs, eng := { u.eng with tiles := s.eng.tiles } })) ∧
  (∀ (t : Nat) (q : Fin 8) (k : Fin 32) (temp : BitVec 7) (s : State), s.coreUp = true →
    Answers (.amtCalDue t q k temp) s (fun u =>
      let x := s.tile q.val k.val
      let moved := x.valid && decide (x.tCal + 2 ≤ temp.toNat ∨ temp.toNat + 2 ≤ x.tCal)
      let late := decide (x.lastTry + 10000000 ≤ (s.at_ t).now)
      u.tile q.val k.val = { x with
        temp := temp.toNat, dueAt := if !x.out && !x.calibrating && x.dueAt.isNone && (moved || late) then some (s.at_ t).now else x.dueAt } ∧
      (∀ q' k' : Nat, 32 * q' + k' ≠ 32 * q.val + k.val → u.tile q' k' = s.tile q' k') ∧
      BackTo s { u with eng := { u.eng with tiles := s.eng.tiles } })) ∧
  (∀ (t : Nat) (q : Fin 8) (k : Fin 32) (s : State), s.coreUp = true → (s.tile q.val k.val).running = false →
    (s.tile q.val k.val).dueAt.isSome = true → s.calHead q.val (k.val / 4) = some k.val →
    (∀ j < 4, (s.tile q.val (4 * (k.val / 4) + j)).calibrating = false) →
    Answers (.amtCalStart t q k) s (fun u =>
      u.tile q.val k.val = { s.tile q.val k.val with rows := [], dueAt := none, calibrating := true, calStart := (s.at_ t).now } ∧
      ((s.tile q.val k.val).rows = [] →
        (∀ q' k' : Nat, 32 * q' + k' ≠ 32 * q.val + k.val → u.tile q' k' = s.tile q' k') ∧ u.adm = s.adm ∧ u.regs = s.regs ∧
        u.eng.waitRows = s.eng.waitRows) ∧
      (∀ q' k' : Nat, 32 * q' + k' < 32 * q.val ∨ 32 * q.val + 32 ≤ 32 * q' + k' →
        (∀ i ∈ s.adm.live, i.quire = q.val) → u.tile q' k' = s.tile q' k') ∧
      RegsBut (s.adm.live.map fun i => R.QUIRE_AMT_STATUS i.quire) s u ∧
      BackTo s { u with regs := s.regs, adm := { u.adm with live := s.adm.live },
                        eng := { u.eng with tiles := s.eng.tiles, waitRows := s.eng.waitRows } })) ∧
  (∀ (t : Nat) (q : Fin 8) (k : Fin 32) (fits : List RowCal) (s : State), s.coreUp = true → (s.tile q.val k.val).calibrating = true →
    (s.tile q.val k.val).calStart + 20000 ≤ (s.at_ t).now → s.eng.waitRows = [] →
    Answers (.amtCalDone t q k fits) s (fun u =>
      let x := s.tile q.val k.val
      let worst := fits.foldl (fun m c => max m c.eps16) 0
      let x' := { x with calibrating := false, eps16 := min 255 worst, tCal := x.temp }
      let third := worst > s.fld (F.QUIRE_AMT_CTRL_EPS_LIMIT q.val) ∧ x.failRun + 1 = 3
      u.tile q.val k.val = (if worst ≤ s.fld (F.QUIRE_AMT_CTRL_EPS_LIMIT q.val) then
          { x' with cal := fits, valid := true, disabled := false, failRun := 0, calAt := (s.at_ t).now, firstPass := true }
        else { x' with valid := false, disabled := true, failRun := x.failRun + 1 }) ∧
      (∀ q' k' : Nat, 32 * q' + k' ≠ 32 * q.val + k.val → u.tile q' k' = s.tile q' k') ∧
      u.rd (R.QUIRE_AMT_CAL_COUNT q.val) = (s.rd (R.QUIRE_AMT_CAL_COUNT q.val) + 1) % 2 ^ 32 ∧
      (worst > s.fld (F.QUIRE_AMT_CTRL_EPS_LIMIT q.val) → u.flag (F.QUIRE_AMT_STATUS_CAL_FAIL_SEEN q.val) = true) ∧
      u.rd R.FLT_LOG_SEQ = (if third then (s.rd R.FLT_LOG_SEQ + 1) % 2 ^ 32 else s.rd R.FLT_LOG_SEQ) ∧
      RegsBut ([R.QUIRE_AMT_CAL_COUNT q.val, R.QUIRE_AMT_STATUS q.val] ++ if third then logRegs s else []) s u ∧
      BackTo s { u with regs := s.regs, eng := { u.eng with tiles := s.eng.tiles } })) ∧
  (∀ (t : Nat) (q : Fin 8) (s : State), s.coreUp = true →
    Answers (.amtCalAll t q) s (fun u =>
      (∀ k < 32, u.tile q.val k = (if (s.tile q.val k).out || (s.tile q.val k).calibrating then s.tile q.val k
        else { s.tile q.val k with dueAt := some ((s.tile q.val k).dueAt.getD (s.at_ t).now) })) ∧
      (∀ q' k' : Nat, 32 * q' + k' < 32 * q.val ∨ 32 * q.val + 32 ≤ 32 * q' + k' → u.tile q' k' = s.tile q' k') ∧
      BackTo s { u with eng := { u.eng with tiles := s.eng.tiles } })) ∧
  (∀ (t : Nat) (q : Fin 8) (s : State), s.coreUp = true → (s.at_ t).tick % 1000000 = 0 →
    Answers (.xlDemandWindow t q) s (fun u =>
      let used := Sparse.get (fun _ => 0) s.eng.xlUsed q.val
      let booked := Sparse.get (fun _ => 0) s.eng.xlBooked q.val
      u.fld (F.QUIRE_XL_DEMAND_USED_PERMILLE q.val) = (if used = 0 then 0 else if booked = 0 then 4095 else min 4095 (used * 1000 / booked)) ∧
      Sparse.get (fun _ => 0) u.eng.xlUsed q.val = 0 ∧ Sparse.get (fun _ => 0) u.eng.xlBooked q.val = 0 ∧
      (∀ n, n ≠ q.val → Sparse.get (fun _ => 0) u.eng.xlUsed n = Sparse.get (fun _ => 0) s.eng.xlUsed n ∧
        Sparse.get (fun _ => 0) u.eng.xlBooked n = Sparse.get (fun _ => 0) s.eng.xlBooked n) ∧
      u.flag (F.QUIRE_XL_STATUS_OVER_SEEN q.val) = (s.flag (F.QUIRE_XL_STATUS_OVER_SEEN q.val) || decide (booked < used)) ∧
      RegsBut [R.QUIRE_XL_DEMAND q.val, R.QUIRE_XL_STATUS q.val] s u ∧
      BackTo s { u with regs := s.regs, eng := { u.eng with xlUsed := s.eng.xlUsed, xlBooked := s.eng.xlBooked } }))

/-- SPN_PORT_ENABLE, SPN_PORT_DISABLE, SPN_FULL_TRAIN, SPN_RETRAIN, SPN_TRAIN_TIMEOUT, SPN_DOWN_RESTART, SPN_BLOCK_LOCK_LOST and
SPN_FAST_RETRAIN_TIMEOUT (R266 to R269, R308, R310, chapter 11). -/
def Obligations.PortEnableDisableTrain : Prop :=
  (∀ (t : Nat) (p : Fin 16) (v : BitVec 32) (w : Nat) (i : Instr) (s : State), s.hostUp 0 = true → s.Canon →
    (i = .spnPortEnable t p v ∧ w = setBitsOf 0 0 1 v.toNat ∨ i = .spnPortDisable t p v ∧ w = setBitsOf 0 0 0 v.toNat ∨
     i = .spnFullTrain t p v ∧ w = setBitsOf 4 4 1 v.toNat ∨ i = .spnRetrain t p v ∧ w = setBitsOf 3 3 1 v.toNat) →
    Answers i s (fun u =>
      u.rd (R.SPN_PORT_CTRL p.val) = w % 8 ∧
      (if bitOf 0 w = false then
        u.portState p.val = 0 ∧ u.fld (F.SPN_PORT_STATUS_EPS p.val) = 0 ∧ u.port p.val = (s.port p.val).clearLink ∧
        PartnersLost [R.SPN_PORT_CTRL p.val, R.SPN_PORT_STATUS p.val] s u (s.onPort p.val) 3
       else if s.portsOn = true ∧ (bitOf 4 w = true ∨ s.flag (F.SPN_PORT_CTRL_ENABLE p.val) = false) then
        FullTrained [R.SPN_PORT_CTRL p.val] s u p.val
       else if s.portsOn = true ∧ bitOf 3 w = true ∧ s.portState p.val = 3 then FastRetrained [R.SPN_PORT_CTRL p.val] s u p.val
       else RegsBut [R.SPN_PORT_CTRL p.val] s u ∧ BackTo s { u with regs := s.regs }))) ∧
  (∀ (t : Nat) (p : Fin 16) (s : State), s.coreUp = true → s.portState p.val = 2 → (s.port p.val).t0 + 2000000 ≤ (s.at_ t).now →
    Answers (.spnTrainTimeout t p) s (fun u =>
      u.portState p.val = 1 ∧ u.flag (F.SPN_PORT_STATUS_DOWN_SEEN p.val) = true ∧
      u.port p.val = { (s.port p.val).clearLink with
        downAt := u.now, failed := 255 - Nat.land (s.port p.val).locked (s.port p.val).eqOk } ∧
      (∀ k, k ≠ p.val → u.port k = s.port k) ∧
      RegsBut [R.SPN_PORT_STATUS p.val] s u ∧ BackTo s { u with regs := s.regs, ports := s.ports })) ∧
  (∀ (t : Nat) (p : Fin 16) (s : State), s.coreUp = true → s.Canon → s.portState p.val = 1 → s.portsOn = true →
    s.flag (F.SPN_PORT_CTRL_ENABLE p.val) = true → (s.port p.val).downAt + 1000000 ≤ (s.at_ t).now →
    Answers (.spnDownRestart t p) s (fun u => FullTrained [] s u p.val)) ∧
  (∀ (t : Nat) (p : Fin 16) (s : State), s.coreUp = true → s.Canon → s.portState p.val = 4 →
    (s.port p.val).retrainAt + 100000 ≤ (s.at_ t).now →
    Answers (.spnFastRetrainTimeout t p) s (fun u => FullTrained [] s u p.val)) ∧
  (∀ (t : Nat) (p : Fin 16) (lane : Fin 8) (s : State), s.coreUp = true →
    Answers (.spnBlockLockLost t p lane) s (fun u =>
      if s.portState p.val = 3 ∧ bitOf lane.val (s.lanesInUse p.val) = true then FastRetrained [] s u p.val
      else u.port p.val = { s.port p.val with locked := setBitsOf lane.val lane.val 0 (s.port p.val).locked } ∧
        (∀ k, k ≠ p.val → u.port k = s.port k) ∧ BackTo s { u with ports := s.ports })) ∧
  (∀ (t : Nat) (p : Fin 16) (s : State), s.coreUp = true →
    (s.portState p.val ≠ 2 → Answers (.spnTrainTimeout t p) s (fun u => BackTo s u)) ∧
    (s.portState p.val ≠ 1 ∨ s.flag (F.SPN_PORT_CTRL_ENABLE p.val) = false → Answers (.spnDownRestart t p) s (fun u => BackTo s u)) ∧
    (s.portState p.val ≠ 4 → Answers (.spnFastRetrainTimeout t p) s (fun u => BackTo s u)))

/-- SPN_TRAINING_BLOCK_RX, SPN_FEC_BLOCK_RX and SPN_REPLAY_TIMEOUT (R267, R269, R271, R274 to R277, R279, R281, Table 11.3).
The model's readings and choices behind it: log entries 57, 58, 61, 59. -/
def Obligations.PortBlocksAcceptAndReplay : Prop :=
  (∀ (t : Nat) (p : Fin 16) (lane : Fin 8) (b : TrainBlock) (s : State), s.coreUp = true → s.portState p.val = 2 →
    (s.port p.val).dataOn = false → b.rate.val = (s.port p.val).rate →
    Answers (.spnTrainingBlockRx t p lane b) s (fun u =>
      let q := (s.port p.val).learn lane.val b
      let failed := 255 - Nat.land q.locked q.eqOk
      (if (q.ready (s.at_ t).now && q.remReady == 1) = false then u.port p.val = q ∧ u.regs = s.regs
       else
        (∀ w rev, q.decide = some (w, rev) → u.port p.val = { q with dataOn := true, failed := failed } ∧
            u.fld (F.SPN_PORT_STATUS_RATE p.val) = q.rate % 2 ∧ u.fld (F.SPN_PORT_STATUS_WIDTH p.val) = b2n (w != 0) ∧
            u.fld (F.SPN_PORT_STATUS_HALF p.val) = b2n (w == 2) ∧ u.fld (F.SPN_PORT_STATUS_REVERSED p.val) = b2n rev) ∧
        (q.decide = none → u.regs = s.regs ∧ u.port p.val = (if q.rate = 0 ∧ q.fell = false then
            { q.clearLink with t0 := (s.at_ t).now, rate := 1, fell := true, failed := failed } else { q with failed := failed }))) ∧
      (∀ k, k ≠ p.val → u.port k = s.port k) ∧
      RegsBut [R.SPN_PORT_STATUS p.val] s u ∧ BackTo s { u with regs := s.regs, ports := s.ports })) ∧
  (∀ (t : Nat) (p : Fin 16) (lane : Fin 8) (b : TrainBlock) (s : State), s.coreUp = true → s.portState p.val = 4 →
    (s.port p.val).dataOn = false →
    Answers (.spnTrainingBlockRx t p lane b) s (fun u =>
      let q := { s.port p.val with locked := Nat.lor (s.port p.val).locked (2 ^ lane.val), remWidth := b.widthOk.toNat }
      let far := if s.flag (F.SPN_PORT_STATUS_REVERSED p.val) then mirror8 q.remWidth else q.remWidth
      let w := s.lanesInUse p.val
      u.port p.val = (if Nat.land q.locked w = w ∧ Nat.land far w = w then { q with dataOn := true } else q) ∧
      (∀ k, k ≠ p.val → u.port k = s.port k) ∧ BackTo s { u with ports := s.ports })) ∧
  (∀ (t : Nat) (p : Fin 16) (s : State), s.coreUp = true → s.carries p.val = true →
    Answers (.spnFecBlockRx t p none) s (fun u =>
      u.port p.val = { (s.port p.val).free (s.stalledEps p.val) with nak := true } ∧
      u.rd (R.SPN_PORT_FEC_UNCORR_COUNT p.val) = (s.rd (R.SPN_PORT_FEC_UNCORR_COUNT p.val) + 1) % 2 ^ 32 ∧
      u.flag (F.SPN_PORT_STATUS_FEC_UNCORR_SEEN p.val) = true ∧ (∀ k, k ≠ p.val → u.port k = s.port k) ∧
      RegsBut [R.SPN_PORT_FEC_UNCORR_COUNT p.val, R.SPN_PORT_STATUS p.val] s u ∧ BackTo s { u with regs := s.regs, ports := s.ports })) ∧
  (∀ (t a b : Nat) (p : Fin 16) (bs : Bytes) (s : State), s.coreUp = true → s.portState p.val = 3 →
    Answers (.spnFecBlockRx t p (some (a, b, [bs]))) s (fun u =>
      let q := (s.port p.val).free (s.stalledEps p.val)
      let f := parseFlit bs
      let q' := if f.ackValid && decide ((dropAcked f.ackSeq q.unacked).length < q.unacked.length) then
          { q with unacked := dropAcked f.ackSeq q.unacked, replayFrom := none, replayRun := 0, ackAt := u.now } else q
      let q'' := (q'.takeCredits f).pump u.now
      let st := streamOf f.vc f.dataEp
      u.rd (R.SPN_PORT_FEC_CORR_COUNT p.val) = (s.rd (R.SPN_PORT_FEC_CORR_COUNT p.val) + (a + b)) % 2 ^ 32 ∧
      (if flitCrcOk bs = false then
        u.port p.val = { q with nak := true } ∧ u.flag (F.SPN_PORT_STATUS_CRC_SEEN p.val) = true ∧
        u.rd (R.SPN_PORT_CRC_COUNT p.val) = (s.rd (R.SPN_PORT_CRC_COUNT p.val) + 1) % 2 ^ 32 ∧
        RegsBut [R.SPN_PORT_FEC_CORR_COUNT p.val, R.SPN_PORT_CRC_COUNT p.val, R.SPN_PORT_STATUS p.val] s u ∧
        BackTo s { u with regs := s.regs, ports := s.ports }
       else f.nak = false →
        (f.kind = 0 → u.port p.val = q'' ∧ RegsBut [R.SPN_PORT_FEC_CORR_COUNT p.val] s u ∧ BackTo s { u with regs := s.regs, ports := s.ports }) ∧
        (f.kind = 1 → f.seq = q''.rxSeq → cnt q''.taken st - cnt q''.freed st < rxBuffer st → u.port p.val = q''.accept f ∧
          RegsBut [R.SPN_PORT_FEC_CORR_COUNT p.val] s u ∧ BackTo s { u with regs := s.regs, ports := s.ports }) ∧
        (f.kind = 1 → f.seq ≠ q''.rxSeq → u.port p.val = { q'' with nak := true } ∧
          RegsBut [R.SPN_PORT_FEC_CORR_COUNT p.val] s u ∧ BackTo s { u with regs := s.regs, ports := s.ports }) ∧
        (f.kind = 1 → f.seq = q''.rxSeq → rxBuffer st ≤ cnt q''.taken st - cnt q''.freed st →
          u.portState p.val = 2 ∧ u.flag (F.SPN_PORT_STATUS_CREDIT_SEEN p.val) = true) ∧
        (f.kind = 2 → fieldAt 0 1 f.payload = 2 → u.portState p.val = 4 ∧ u.flag (F.SPN_PORT_STATUS_RETRAIN_SEEN p.val) = true ∧
          u.port p.val = { q'' with
            retrainAt := u.now, locked := 0, remWidth := 0, dataOn := false, initRx := false, initSeen := false })))) ∧
  (∀ (t : Nat) (p : Fin 16) (f : TxFlit) (fs : List TxFlit) (s : State), s.coreUp = true → s.portState p.val = 3 →
    (s.port p.val).unacked = f :: fs → (s.port p.val).ackAt + 4000 ≤ (s.at_ t).now →
    Answers (.spnReplayTimeout t p) s (fun u =>
      let q := s.port p.val
      let run := if q.replayFrom = some f.seq then q.replayRun + 1 else 1
      let q' := { q with
        replayFrom := some f.seq, replayRun := run, ackAt := u.now, txCount := (q.txCount + (fs.length + 1)) % 2 ^ 64 }
      u.rd (R.SPN_PORT_REPLAY_COUNT p.val) = (s.rd (R.SPN_PORT_REPLAY_COUNT p.val) + 1) % 2 ^ 32 ∧
      u.flag (F.SPN_PORT_STATUS_REPLAY_SEEN p.val) = true ∧ u.portState p.val = (if 8 ≤ run then 4 else 3) ∧
      u.port p.val = (if 8 ≤ run then { q' with
        retrainAt := u.now, locked := 0, remWidth := 0, dataOn := false, initRx := false, initSeen := false } else q') ∧
      (∀ k, k ≠ p.val → u.port k = s.port k) ∧
      RegsBut [R.SPN_PORT_REPLAY_COUNT p.val, R.SPN_PORT_RETRAIN_COUNT p.val, R.SPN_PORT_STATUS p.val] s u ∧
      BackTo s { u with regs := s.regs, ports := s.ports }))

/-- HELLO, CAPS, CAPS_TIMEOUT, UNSUPPORTED_MESSAGE, DETACH, PARTNER_CLOSE, PARTNER_OPEN and PARTNER_DETACH (R285, R286, R296 to R303, R308,
R309).
The model's readings and choices behind it: log entries 64, 33, 32. -/
def Obligations.EndpointsAttachAndDetach : Prop :=
  (∀ (t : Nat) (hd : Hdr) (kind proto : BitVec 8) (id : Bytes) (s : State), s.portUp hd.port.val = true → s.sender hd.src = none →
    Answers (.hello t hd kind proto id) s (fun u =>
      if PKind.ofCode kind.toNat = none ∨ proto ≠ 1 then
        Replied s u hd 0x14 deviceHello ∧
        u.rd (R.SPN_PORT_REJECT_COUNT hd.port.val) = (s.rd (R.SPN_PORT_REJECT_COUNT hd.port.val) + 1) % 2 ^ 32 ∧
        u.flag (F.SPN_PORT_STATUS_REJECT_SEEN hd.port.val) = true ∧
        RegsBut (rejectRegs hd.port.val) s u ∧ BackTo s { u with regs := s.regs, ports := s.ports, out := s.out }
      else (∀ k, PKind.ofCode kind.toNat = some k →
          u.parts.attaches = s.parts.attaches.filter (fun a => a.at_ != hd.src) ++ [{ at_ := hd.src, kind := k, unitId := id, since := u.now }]) ∧
        BackTo s { u with parts := { u.parts with attaches := s.parts.attaches } })) ∧
  (∀ (t n : Nat) (pr : Partner) (hd : Hdr) (kind : BitVec 8) (id : Bytes) (k : PKind) (s : State), s.portUp hd.port.val = true → s.Canon →
    s.sender hd.src = some (n, pr) → PKind.ofCode kind.toNat = some k →
    Answers (.hello t hd kind 1 id) s (fun u =>
      u.parts.attaches = s.parts.attaches.filter (fun a => a.at_ != hd.src) ++ [{ at_ := hd.src, kind := k, unitId := id, since := u.now }] ∧
      PartnersLost [] s u [n] 5)) ∧
  (∀ (t : Nat) (hd : Hdr) (cp : Caps) (a : Attach) (s : State), s.portUp hd.port.val = true →
    s.parts.attaches.find? (fun a => a.at_ == hd.src) = some a →
    Answers (.caps t hd cp) s (fun u =>
      u.parts.attaches = s.parts.attaches.filter (fun a => a.at_ != hd.src) ∧
      (∀ n, capsRefuse a.kind cp = none → s.parts.lowestFree = some n →
        u.partner n = { Partner.blank with
          state := .attached, kind := a.kind, at_ := a.at_, unitId := a.unitId, caps := cp, tAttach := tickUp u.now } ∧
        (∀ m, m ≠ n → u.partner m = s.partner m) ∧ u.parts.rosterAfter = insertNat (tickUp u.now) s.parts.rosterAfter ∧
        u.rd R.SPN_ATTACH_COUNT = (s.rd R.SPN_ATTACH_COUNT + 1) % 2 ^ 32 ∧ u.flag F.SPN_PARTNER_STATUS_ATTACH_SEEN = true ∧
        Replied s u hd 0 deviceCaps ∧ RegsBut [R.SPN_ATTACH_COUNT, R.SPN_PARTNER_STATUS] s u) ∧
      (∀ st, (capsRefuse a.kind cp).orElse (fun _ => if s.parts.lowestFree = none then some 0x29 else none) = some st →
        u.partner = s.partner ∧ Replied s u hd st deviceCaps ∧ u.flag F.SPN_PARTNER_STATUS_ATTACH_FAIL_SEEN = true ∧
        (st = 0x29 → u.flag F.SPN_PARTNER_STATUS_FULL_SEEN = true) ∧
        u.rd (R.SPN_PORT_REJECT_COUNT hd.port.val) = (s.rd (R.SPN_PORT_REJECT_COUNT hd.port.val) + 1) % 2 ^ 32 ∧
        RegsBut (R.SPN_PARTNER_STATUS :: rejectRegs hd.port.val) s u) ∧
      BackTo s { u with regs := s.regs, ports := s.ports, out := s.out, parts := { u.parts with
        table := s.parts.table, attaches := s.parts.attaches, rosterAfter := s.parts.rosterAfter } })) ∧
  (∀ (t : Nat) (hd : Hdr) (cp : Caps) (s : State), s.portUp hd.port.val = true →
    s.parts.attaches.find? (fun a => a.at_ == hd.src) = none →
    Answers (.caps t hd cp) s (fun u =>
      Replied s u hd 0x15 deviceCaps ∧
      u.rd (R.SPN_PORT_REJECT_COUNT hd.port.val) = (s.rd (R.SPN_PORT_REJECT_COUNT hd.port.val) + 1) % 2 ^ 32 ∧
      RegsBut (rejectRegs hd.port.val) s u ∧ BackTo s { u with regs := s.regs, ports := s.ports, out := s.out })) ∧
  (∀ (t : Nat) (p : Fin 16) (ep : Fin 4) (a : Attach) (s : State), s.coreUp = true →
    s.parts.attaches.find? (fun a => a.at_ == { port := p.val, ep := ep.val }) = some a →
    Answers (.capsTimeout t p ep) s (fun u =>
      if a.since + 1000000 < u.now then
        u.parts.attaches = s.parts.attaches.filter (fun a => a.at_ != { port := p.val, ep := ep.val }) ∧
        u.flag F.SPN_PARTNER_STATUS_ATTACH_FAIL_SEEN = true ∧ RegsBut [R.SPN_PARTNER_STATUS] s u ∧
        BackTo s { u with regs := s.regs, parts := { u.parts with attaches := s.parts.attaches } }
      else BackTo s u)) ∧
  (∀ (t : Nat) (hd : Hdr) (type : BitVec 8) (body : Bytes) (s : State), s.portUp hd.port.val = true → type ≠ 0 →
    Answers (.unsupportedMessage t hd type body) s (fun u =>
      let v := if handleFirst type.toNat = true ∧ 4 ≤ body.length then fieldAt 0 3 body else 0
      let ty := type.toNat
      if noReject ty = true then
        u.rd (R.SPN_PORT_DROP_COUNT hd.port.val) = (s.rd (R.SPN_PORT_DROP_COUNT hd.port.val) + 1) % 2 ^ 32 ∧
        RegsBut [R.SPN_PORT_DROP_COUNT hd.port.val] s u ∧ BackTo s { u with regs := s.regs }
      else
        Replied s u hd 0x14 (
          if ty = 0x01 then deviceHello else if ty = 0x02 then deviceCaps
          else if ty = 0x10 then .openAck (if 4 ≤ body.length then fieldAt 0 4 body else 0) 0 0
          else if ty = 0x15 then .cancelAck v 0 0 else if ty = 0x17 then .pauseAccept v else if ty = 0x1A then .resumeAccept v
          else .reject ty hd.tag.toNat v) ∧
        u.rd (R.SPN_PORT_REJECT_COUNT hd.port.val) = (s.rd (R.SPN_PORT_REJECT_COUNT hd.port.val) + 1) % 2 ^ 32 ∧
        u.flag (F.SPN_PORT_STATUS_REJECT_SEEN hd.port.val) = true ∧
        RegsBut (rejectRegs hd.port.val) s u ∧
        BackTo s { u with regs := s.regs, ports := s.ports, out := s.out })) ∧
  (∀ (t n : Nat) (pr : Partner) (hd : Hdr) (s : State), s.portUp hd.port.val = true → s.Canon → s.sender hd.src = some (n, pr) →
    Answers (.detach t hd) s (fun u => PartnersLost [] s u [n] 2)) ∧
  (∀ (t : Nat) (hd : Hdr) (s : State), s.portUp hd.port.val = true → s.sender hd.src = none →
    Answers (.detach t hd) s (fun u => u.parts.attaches = s.parts.attaches.filter (fun a => a.at_ != hd.src) ∧
      BackTo s { u with parts := { u.parts with attaches := s.parts.attaches } })) ∧
  (∀ (t : Nat) (n : Fin 48) (s : State), s.hostUp 0 = true → s.Canon →
    Answers (.partnerDetach t n) s (fun u =>
      if (s.partner n.val).state.on = true then PartnersLost [] s u [n.val] 4 else BackTo s u)) ∧
  (∀ (t : Nat) (n : Fin 48) (s : State) (x y : PState) (i : Instr), s.hostUp 0 = true →
    (i = .partnerClose t n ∧ x = .attached ∧ y = .closing ∨ i = .partnerOpen t n ∧ x = .closing ∧ y = .attached) →
    Answers i s (fun u =>
      if (s.partner n.val).state = x then
        u.partner n.val = { s.partner n.val with state := y } ∧ (∀ m, m ≠ n.val → u.partner m = s.partner m) ∧
        u.parts.rosterAfter = insertNat u.tick s.parts.rosterAfter ∧
        BackTo s { u with parts := { u.parts with table := s.parts.table, rosterAfter := s.parts.rosterAfter } }
      else BackTo s u))

/-- HEARTBEAT, HEARTBEAT_SEND, HEARTBEAT_WINDOW_END, ROSTER_SEND, PARTNER_COOL_END and ORPHAN_AT_HOLD (R302, R304 to R306, R311, R312).
The model's readings and choices behind it: log entries 65, 66. -/
def Obligations.HeartbeatsRosterAndCooling : Prop :=
  (∀ (t n : Nat) (pr : Partner) (hd : Hdr) (q : BitVec 32) (s : State), s.portUp hd.port.val = true → s.sender hd.src = some (n, pr) →
    Answers (.heartbeat t hd q) s (fun u =>
      u.partner n = { s.partner n with
        hbSeen := true, missed := 0, hbNext := (q.toNat + 1) % 2 ^ 32
        gaps := if q.toNat = (s.partner n).hbNext then (s.partner n).gaps else ((s.partner n).gaps + 1) % 2 ^ 32 } ∧
      (∀ m, m ≠ n → u.partner m = s.partner m) ∧
      u.flag F.SPN_PARTNER_STATUS_HB_GAP_SEEN = (s.flag F.SPN_PARTNER_STATUS_HB_GAP_SEEN || q.toNat != (s.partner n).hbNext) ∧
      RegsBut [R.SPN_PARTNER_STATUS] s u ∧ BackTo s { u with regs := s.regs, parts := { u.parts with table := s.parts.table } })) ∧
  (∀ (t : Nat) (n : Fin 48) (s : State), s.coreUp = true → (s.partner n.val).state.on = true →
    (s.partner n.val).tAttach + 50000 * (s.partner n.val).hbSent ≤ (s.at_ t).now →
    Answers (.heartbeatSend t n) s (fun u =>
      Sent s u (s.partner n.val).at_ 0 0 (.heartbeat ((s.partner n.val).hbSent % 2 ^ 32) u.now) ∧
      u.partner n.val = { s.partner n.val with hbSent := (s.partner n.val).hbSent + 1 } ∧ (∀ m, m ≠ n.val → u.partner m = s.partner m) ∧
      BackTo s { u with free := s.free, ports := s.ports, out := s.out, parts := { u.parts with table := s.parts.table } })) ∧
  (∀ (t : Nat) (n : Fin 48) (s : State), s.coreUp = true → s.Canon → (s.partner n.val).state.on = true →
    (s.partner n.val).tAttach + 50000 * ((s.partner n.val).windows + 1) ≤ (s.at_ t).now →
    Answers (.heartbeatWindowEnd t n) s (fun u =>
      let missed := if (s.partner n.val).hbSeen then 0 else (s.partner n.val).missed + 1
      let x := { s.partner n.val with windows := (s.partner n.val).windows + 1, hbSeen := false, missed := missed }
      if 8 ≤ missed then
        PartnersLost [] (s.updPartner n.val fun _ => x) u [n.val] 1 ∧
        u.out.any (fun m => m.dst == (s.partner n.val).at_ && m.body == .detach 2) = true
      else u.partner n.val = x ∧ BackTo s { u with parts := { u.parts with table := s.parts.table } })) ∧
  (∀ (t due : Nat) (later : List Nat) (s : State), s.coreUp = true → s.parts.rosterAfter = due :: later →
    Answers (.rosterSend t) s (fun u =>
      if due < u.tick then
        let gws := (s.parts.table.filter fun x => x.2.state.on && x.2.kind == .gateway).map (·.1)
        u.parts.rosterAfter = later ∧
        (s.Canon → ∀ n ∈ gws, u.out.any (fun m => m.dst == (s.partner n).at_ && m.body == .roster s.rosterEntries) = true) ∧
        (s.Canon → u.out.length = s.out.length + gws.length) ∧
        BackTo s { u with free := s.free, ports := s.ports, out := s.out, parts := { u.parts with rosterAfter := s.parts.rosterAfter } }
      else BackTo s u)) ∧
  (∀ (t : Nat) (n : Fin 48) (s : State), s.coreUp = true → (s.partner n.val).state = .cooling →
    Answers (.partnerCoolEnd t n) s (fun u =>
      u.partner n.val = (if (s.partner n.val).lostAt + 10000000 ≤ u.now ∧ s.refs n.val = 0 then { s.partner n.val with state := .none }
        else s.partner n.val) ∧ (∀ m, m ≠ n.val → u.partner m = s.partner m) ∧
      BackTo s { u with parts := { u.parts with table := s.parts.table } })) ∧
  (∀ (t due gen : Nat) (n : BitVec 16) (s : State), s.coreUp = true → s.parts.orphanAt.find? (fun x => x.2.1 == n.toNat) = some (due, n.toNat, gen) →
    due ≤ (s.at_ t).tick →
    Answers (.orphanAtHold t n) s (fun u =>
      u.parts.orphanAt = s.parts.orphanAt.filter (fun y => y.2.1 != n.toNat) ∧
      if (s.folio n.toNat).gen = gen ∧ (s.folio n.toNat).state = .hold then Orphaned [] s u n.toNat
      else BackTo s { u with parts := { u.parts with orphanAt := s.parts.orphanAt } })) ∧
  (∀ (t : Nat) (n : Fin 48) (m : BitVec 16) (s : State), s.coreUp = true →
    (s.parts.rosterAfter = [] → Answers (.rosterSend t) s (fun u => BackTo s u)) ∧
    ((s.partner n.val).state.on = false → Answers (.heartbeatSend t n) s (fun u => BackTo s u) ∧
      Answers (.heartbeatWindowEnd t n) s (fun u => BackTo s u)) ∧
    ((s.partner n.val).state ≠ .cooling → Answers (.partnerCoolEnd t n) s (fun u => BackTo s u)) ∧
    (s.parts.orphanAt = [] → Answers (.orphanAtHold t m) s (fun u => BackTo s u)))

/-- SEAL_COUNT_TRIGGER, SEAL_TIMER_TRIGGER, COL_SEAL_NOW and SEAL_SIGNATURE_DONE (R339 to R341).
The model's readings and choices behind it: log entries 68, 70. -/
def Obligations.SealsAreTriggeredAndSigned : Prop :=
  (∀ (t : Nat) (s : State), s.coreUp = true → s.canSeal = true →
    let warm := s.col.warmReq && decide (1 ≤ (lastPart0 s.chain).2)
    let timer := decide (1 ≤ (lastPart0 s.chain).2 ∧ 1000000 ≤ (s.at_ t).now - lastPart0Tick s.col.startAt s.chain)
    Answers (.sealCountTrigger t) s (fun u =>
      if s.sealCount = true then SealOpened [] s u (if warm then 3 else 0) else BackTo s u) ∧
    Answers (.sealTimerTrigger t) s (fun u =>
      if timer = true then SealOpened [] s u (if warm then 3 else if s.sealCount then 0 else 1) else BackTo s u)) ∧
  (∀ (t : Nat) (s : State), s.coreUp = true → s.canSeal = false →
    Answers (.sealCountTrigger t) s (fun u => BackTo s u) ∧ Answers (.sealTimerTrigger t) s (fun u => BackTo s u)) ∧
  (∀ (t : Nat) (v : BitVec 32) (s : State), s.hostUp 0 = true → bitOf 1 v.toNat = false → s.col.warmReq = false → s.chain ≠ [] →
    Answers (.colSealNow t v) s (fun u =>
      let timer := decide (1 ≤ (lastPart0 s.chain).2 ∧ 1000000 ≤ (s.at_ t).now - lastPart0Tick s.col.startAt s.chain)
      let host := 1 ≤ (lastPart0 s.chain).2 ∨ ((lastPart0 s.chain).1 ≠ 0 ∧ s.col.lastSeal ≠ (lastPart0 s.chain).1)
      u.rd R.COL_CTRL = setBitsOf 1 1 0 (s.regAfter 0 R.COL_CTRL (setBitsOf 0 0 1 v.toNat) % 2 ^ 32) ∧
      if s.canSeal = true ∧ (s.sealCount = true ∨ timer = true ∨ host) then
        SealOpened [R.COL_CTRL] s u (if s.sealCount then 0 else if timer then 1 else 2)
      else u.col = (if s.canSeal || !s.flag F.COL_STATUS_KEY_OK then { s.col with hostReq := s.col.hostReq && !s.canSeal }
          else { s.col with hostReq := true }) ∧
        RegsBut [R.COL_CTRL] s u ∧ BackTo s { u with regs := s.regs, col := s.col })) ∧
  (∀ (t k : Nat) (r g : BitVec 384) (s : State), s.coreUp = true → s.col.pendingSig = some k → (lastPart0 s.chain).2 = 0 →
    s.col.hostReq = false →
    Answers (.sealSignatureDone t r g) s (fun u =>
      let q := (lastPart0 s.chain).1
      let ok := ecdsaVerify s.col.pubKey (s.sealMessage q (lastPart0Tick s.col.startAt s.chain)) r.toNat g.toNat
      if ok = false ∧ k = 0 then u.col = { s.col with pendingSig := some 1 } ∧ BackTo s { u with col := s.col }
      else
        Entered s u (fun c => c.tick = u.tick ∧ c.rank = rankSeal1 ∧ c.status = (if ok then 0 else 0x31) ∧
          c.body = .seal1 q (if ok then be 48 r.toNat else zeros 48) (if ok then be 48 g.toNat else zeros 48)) ∧
        u.col.pendingSig = none ∧ u.col.lastSeal = (if ok then q else s.col.lastSeal) ∧
        u.flag F.COL_STATUS_SEAL_PENDING = false ∧
        u.rd R.COL_SEAL_COUNT = (if ok then (s.rd R.COL_SEAL_COUNT + 1) % 2 ^ 32 else s.rd R.COL_SEAL_COUNT) ∧
        (ok = false → u.flag F.COL_STATUS_UNSEALED_SEEN = true) ∧
        RegsBut (R.COL_SEAL_COUNT :: colRegs) s u ∧
        BackTo s { u with regs := s.regs, chain := s.chain, col := { u.col with
          pendingSig := s.col.pendingSig, lastSeal := s.col.lastSeal, warmReq := s.col.warmReq } })) ∧
  (∀ (t : Nat) (r g : BitVec 384) (s : State), s.coreUp = true → s.col.pendingSig = none →
    Answers (.sealSignatureDone t r g) s (fun u => BackTo s u))

/-- COL_PUSH_ENABLE, COL_PUSH_WRITE, COL_TAIL_COMMIT and COL_APERTURE_READ (R345 to R348, R390, R464, R465).
The model's readings and choices behind it: log entries 69, 83. -/
def Obligations.PushRingAndTailMove : Prop :=
  (∀ (t : Nat) (v : BitVec 32) (s : State), s.hostUp 0 = true → bitOf 0 v.toNat = false →
    Answers (.colPushEnable t v) s (fun u =>
      let ctrl := s.regAfter 0 R.COL_CTRL (setBitsOf 1 1 1 v.toNat) % 2 ^ 32
      let st := s.dmaStatus (bitsOf 21 16 ctrl) 0 true s.pushBase (128 * 2 ^ bitsOf 12 8 ctrl)
      u.rd R.COL_CTRL = setBitsOf 1 1 (if st = 0 then 1 else 0) ctrl ∧ u.fld F.COL_STATUS_PUSH_RESULT = st ∧
      (st ≠ 0 → u.flag F.COL_STATUS_PUSH_ERR_SEEN = true) ∧
      u.col.pushed = (if st = 0 ∧ bitOf 1 ctrl = false then s.col.tail else s.col.pushed) ∧
      (st = 0x10 → u.flag F.HIF_STATUS_BOUNDARY_SEEN = true ∧ u.fld F.HIF_DMA_FAULT_INFO_WINDOW = bitsOf 21 16 ctrl ∧
        u.fld F.HIF_DMA_FAULT_INFO_STATUS = 0x10) ∧
      RegsBut ([R.COL_CTRL, R.COL_STATUS] ++ if st = 0x10 then [R.HIF_DMA_FAULT_ADDR_LO, R.HIF_DMA_FAULT_INFO, R.HIF_STATUS] else []) s u ∧
      BackTo s { u with regs := s.regs, col := { u.col with pushed := s.col.pushed }, hif := { u.hif with faultHi := s.hif.faultHi } })) ∧
  (∀ (t : Nat) (ecc fails : Bool) (s : State), s.hostLink = true → s.flag F.COL_CTRL_PUSH_ENABLE = true →
    let n := max s.col.pushed s.col.tail + 1
    let w := s.fld F.COL_CTRL_PUSH_WINDOW
    let off := s.pushBase + (n - 1) % 2 ^ s.fld F.COL_CTRL_PUSH_LOG2 * 128
    let st := s.dmaStatus w 0 true off 128
    n ≤ s.headSeq → n ≤ s.col.tail + 2 ^ s.fld F.COL_CTRL_PUSH_LOG2 →
    (st = 0 → fails = false → s.col.badSeqs.contains n = false → ecc = false →
      Answers (.colPushWrite t ecc fails) s (fun u =>
        (∀ c, s.entry? n = some c → u.dma = { tick := u.tick, win := w, off := off, data := c.bytes n } :: s.dma) ∧ u.col.pushed = n ∧
        BackTo s { u with dma := s.dma, col := { u.col with pushed := s.col.pushed } })) ∧
    (st = 0 → fails = false → s.col.badSeqs.contains n = false → ecc = true →
      Answers (.colPushWrite t ecc fails) s (fun u =>
        u.dma = { tick := u.tick, win := w, off := off, data := List.replicate 128 0xFF } :: s.dma ∧ u.col.pushed = n ∧
        u.col.badSeqs = s.col.badSeqs ++ [n] ∧ u.flag F.FLT_STATUS_COL_ECC_SEEN = true ∧
        u.rd R.FLT_LOG_SEQ = (s.rd R.FLT_LOG_SEQ + 1) % 2 ^ 32 ∧ RegsBut (logRegs s) s u ∧
        BackTo s { u with regs := s.regs, dma := s.dma, col := { u.col with pushed := s.col.pushed, badSeqs := s.col.badSeqs } })) ∧
    (st ≠ 0 ∨ fails = true →
      Answers (.colPushWrite t ecc fails) s (fun u =>
        u.flag F.COL_CTRL_PUSH_ENABLE = false ∧ u.flag F.COL_STATUS_PUSH_ERR_SEEN = true ∧ u.col = s.col ∧ u.dma = s.dma ∧
        (st = 0 → u.flag F.HIF_STATUS_DMA_ERR_SEEN = true) ∧
        RegsBut [R.COL_CTRL, R.COL_STATUS, R.HIF_STATUS, R.HIF_DMA_FAULT_ADDR_LO, R.HIF_DMA_FAULT_INFO] s u ∧
        BackTo s { u with regs := s.regs, hif := { u.hif with faultHi := s.hif.faultHi } }))) ∧
  (∀ (t : Nat) (ecc fails : Bool) (s : State), s.hostLink = true →
    (s.flag F.COL_CTRL_PUSH_ENABLE = false ∨ s.headSeq ≤ max s.col.pushed s.col.tail) →
    Answers (.colPushWrite t ecc fails) s (fun u => BackTo s u)) ∧
  (∀ (t : Nat) (v : BitVec 32) (s : State), s.hostUp 0 = true →
    Answers (.colTailCommit t v) s (fun u =>
      let n := s.col.tailHi * 2 ^ 32 + v.toNat
      if s.col.tail ≤ n ∧ n ≤ s.headSeq then
        u.col.tail = n ∧ u.col.badSeqs = s.col.badSeqs.filter (fun k => n < k) ∧
        u.flag F.COL_STATUS_STOP = (s.flag F.COL_STATUS_STOP && decide (524288 < s.headSeq - n)) ∧
        RegsBut [R.COL_STATUS] s u ∧
        BackTo s { u with regs := s.regs, col := { u.col with tail := s.col.tail, badSeqs := s.col.badSeqs } }
      else BackTo s u)) ∧
  (∀ (t : Nat) (off : Fin 0x4000000) (ecc : Bool) (s : State), s.hostUp 0 = true →
    Answers (.colApertureRead t off ecc) s (fun u =>
      let n := s.apertureSeq off.val
      let bad := s.col.badSeqs.contains n || ecc
      u.reads = { tick := u.tick, space := 2, off := 0x2000000 + off.val / 128 * 128, data :=
        if s.headSeq < n then zeros 128 else if bad then List.replicate 128 0xFF
        else ((s.entry? n).map fun c => c.bytes n).getD (zeros 128) } :: s.reads ∧
      (if n ≤ s.headSeq ∧ ecc = true ∧ s.col.badSeqs.contains n = false then
        u.col.badSeqs = s.col.badSeqs ++ [n] ∧ u.flag F.FLT_STATUS_COL_ECC_SEEN = true ∧
        u.rd R.FLT_LOG_SEQ = (s.rd R.FLT_LOG_SEQ + 1) % 2 ^ 32 ∧ RegsBut (logRegs s) s u
       else u.col = s.col ∧ u.regs = s.regs) ∧
      BackTo s { u with regs := s.regs, reads := s.reads, col := { u.col with badSeqs := s.col.badSeqs } }))

/-- BIND_STAGE, BIND_STAGE_DONE, BIND_DISCARD, BIND_LOAD and BIND_LOAD_DONE (R354, R372 to R376, R449, R464).
The model's readings and choices behind it: log entries 74, 75, 76, 71, 79. -/
def Obligations.BindingStagesAndLoads : Prop :=
  (∀ (t : Nat) (w : Fin 64) (n : Fin 4096) (i : Instr) (s : State), s.hostUp 0 = true →
    (i = .bindStage t w ∨ i = .bindDiscard t ∨ i = .bindLoad t ∨ i = .catAdd t w n ∨ i = .catRemove t n) →
    (s.flag F.SHL_BIND_RESULT_BUSY = true → Answers i s (fun u => BackTo s u)) ∧
    (s.flag F.SHL_BIND_RESULT_BUSY = false → s.lockdown = true → Answers i s (fun u =>
      BindDone u 0x30 0xFFFF ∧ RegsBut [R.SHL_BIND_RESULT] s u ∧ BackTo s { u with regs := s.regs, bnd := { u.bnd with op := s.bnd.op } }))) ∧
  (∀ (t : Nat) (w : Fin 64) (s : State), s.hostUp 0 = true → s.flag F.SHL_BIND_RESULT_BUSY = false → s.lockdown = false →
    Answers (.bindStage t w) s (fun u =>
      let st := s.dmaStatus w.val 0 false s.bindSrc 64
      if st = 0 then
        BindRuns u (.stage w.val s.bindSrc) ∧ u.bnd.staged = none ∧ u.bnd.stale = (s.bnd.stale || s.bnd.loaded.isSome) ∧
        RegsBut [R.SHL_BIND_RESULT] s u ∧
        BackTo s { u with regs := s.regs, bnd := { u.bnd with op := s.bnd.op, staged := s.bnd.staged, stale := s.bnd.stale } }
      else
        BindDone u st 0xFFFF ∧ RegsBut (R.SHL_BIND_RESULT :: dmaRegs) s u ∧
        BackTo s { u with regs := s.regs, bnd := { u.bnd with op := s.bnd.op }, hif := { u.hif with faultHi := s.hif.faultHi } })) ∧
  (∀ (t w src : Nat) (bs : Bytes) (s : State), s.coreUp = true → s.bnd.op = some (.stage w src) → s.winPermits w 0 false = true →
    let n := fieldAt 0x10 8 bs
    (n < 112 ∨ 268435456 < n → Answers (.bindStageDone t (.ok bs)) s (fun u => BindDone u 0x13 0xFFFF ∧ u.bnd.staged = s.bnd.staged ∧
      RegsBut [R.SHL_BIND_RESULT] s u ∧ BackTo s { u with regs := s.regs, bnd := { u.bnd with op := s.bnd.op } })) ∧
    (112 ≤ n → n ≤ 268435456 → s.dmaStatus w 0 false src n = 0 → Answers (.bindStageDone t (.ok bs)) s (fun u =>
      (∀ b, stageCheck s.stageEnv (padTo n bs) = .ok b → u.bnd.staged = some b ∧ BindDone u 0 0xFFFF) ∧
      (∀ d, stageCheck s.stageEnv (padTo n bs) = .error d → u.bnd.staged = s.bnd.staged ∧ BindDone u 0x13 (d % 65536)) ∧
      RegsBut [R.SHL_BIND_RESULT] s u ∧
      BackTo s { u with regs := s.regs, bnd := { u.bnd with op := s.bnd.op, staged := s.bnd.staged } })) ∧
    Answers (.bindStageDone t .error) s (fun u => BindDone u 0x15 0xFFFF ∧ u.bnd.staged = s.bnd.staged ∧
      u.flag F.HIF_STATUS_DMA_ERR_SEEN = true ∧ RegsBut [R.SHL_BIND_RESULT, R.HIF_STATUS] s u ∧
      BackTo s { u with regs := s.regs, bnd := { u.bnd with op := s.bnd.op } })) ∧
  (∀ (t : Nat) (s : State), s.hostUp 0 = true → s.flag F.SHL_BIND_RESULT_BUSY = false → s.lockdown = false →
    Answers (.bindDiscard t) s (fun u =>
      u.bnd.staged = none ∧ u.bnd.stale = (s.bnd.stale || s.bnd.loaded.isSome) ∧ BindDone u 0 0xFFFF ∧ RegsBut [R.SHL_BIND_RESULT] s u ∧
      BackTo s { u with regs := s.regs, bnd := { u.bnd with op := s.bnd.op, staged := s.bnd.staged, stale := s.bnd.stale } }) ∧
    Answers (.bindLoad t) s (fun u =>
      (if s.dkl.gather = .openW ∧ (s.bnd.staged.isSome = true ∨ s.bnd.cur.isSome = true) ∧ s.epd.handover = none then
        BindRuns u (.load s.msetRegs s.bnd.staged.isSome) ∧
        (∀ b, s.loadBinding s.bnd.staged.isSome = some b → u.ama = s.ama.save (rewrites s.bnd.cur b))
       else BindDone u 0x15 0xFFFF ∧ u.ama = s.ama) ∧
      RegsBut [R.SHL_BIND_RESULT] s u ∧
      BackTo s { u with regs := s.regs, bnd := { u.bnd with op := s.bnd.op }, ama := { u.ama with saves := s.ama.saves } })) ∧
  (∀ (t : Nat) (m : MSet) (fromStage : Bool) (b : Binding) (s : State), s.coreUp = true → s.bnd.op = some (.load m fromStage) →
    s.loadBinding fromStage = some b →
    Answers (.bindLoadDone t) s (fun u =>
      (∀ d, loadCheck b m s.bnd.cat s.bnd.cur (s.liveCount != 0) = some d →
        BindDone u 0x13 (d % 65536) ∧ u.bnd.loaded = none ∧ u.bnd.loadFailed = true ∧ u.bnd.models = s.bnd.models ∧
        u.ama = s.ama.save (rewrites s.bnd.cur b) ∧ RegsBut [R.SHL_BIND_RESULT] s u) ∧
      (loadCheck b m s.bnd.cat s.bnd.cur (s.liveCount != 0) = none →
        BindDone u 0 0xFFFF ∧ u.rd R.SHL_BIND_LOAD_COUNT = (s.rd R.SHL_BIND_LOAD_COUNT + 1) % 2 ^ 32 ∧
        u.bnd.models = (List.range 8).map (buildModel b s.bnd.cat m) ∧ u.bnd.stale = false ∧ u.bnd.loadFailed = false ∧
        (u.bnd.loaded.map (·.binding) = some b) ∧ (u.bnd.loaded.map (·.mset) = some m) ∧
        (u.bnd.loaded.map (·.msetDigest) = some (sha384 (msetRecord s.bnd.cat m))) ∧
        ((s.ama.saves.all fun x => (rewrites s.bnd.cur b).contains x.bank) = true → ∀ k,
          if (rewrites s.bnd.cur b).contains k then ∀ e : Nat, e < 16384 → u.ama.slot k e = (Ama.loadBank b s.ama k).slot k e
          else ∀ e : Nat, e < 16384 → u.ama.slot k e = s.ama.slot k e) ∧
        RegsBut [R.SHL_BIND_RESULT, R.SHL_BIND_LOAD_COUNT] s u) ∧
      u.bnd.cur = s.bnd.cur ∧ u.bnd.mset = s.bnd.mset ∧ u.bnd.staged = s.bnd.staged ∧ u.bnd.cat = s.bnd.cat ∧
      BackTo s { u with regs := s.regs, ama := s.ama, bnd := s.bnd }))

/-- CAT_ADD, CAT_ADD_DONE, CAT_REMOVE, CAT_SIZE_WRITE, MSET_WRITE and CONFIG_RESTORE_DONE (R9, R368 to R371, R374, R375, R378).
The model's readings and choices behind it: log entry 76. -/
def Obligations.CatalogueAndModelSetChange : Prop :=
  (∀ (t : Nat) (w : Fin 64) (n : Fin 4096) (s : State), s.hostUp 0 = true → s.flag F.SHL_BIND_RESULT_BUSY = false → s.lockdown = false →
    let dest := s.rd64 R.SHL_CAT_DEST_LO R.SHL_CAT_DEST_HI
    let len := s.rd R.SHL_BIND_LEN
    let inside := s.catRegions.filter fun r => r.base ≤ dest && dest < r.base + r.size
    Answers (.catAdd t w n) s (fun u =>
      (∀ r, inside.find? (fun r => r.base + r.size < dest + len) = some r →
        BindDone u 0x10 0xFFFF ∧ u.bnd.faultAddr = r.base + r.size ∧ RegsBut [R.SHL_BIND_RESULT] s u) ∧
      (inside.find? (fun r => r.base + r.size < dest + len) = none →
        u.bnd.faultAddr = s.bnd.faultAddr ∧
        if inside = [] ∨ s.bnd.variants.any (fun v => !disjoint v.addr v.len dest len) = true ∨ (catGet s.bnd.cat n.val).isSome = true then
          BindDone u 0x15 0xFFFF ∧ RegsBut [R.SHL_BIND_RESULT] s u
        else if s.dmaStatus w.val 0 false s.bindSrc len = 0 then
          BindRuns u (.catAdd n.val w.val s.bindSrc len dest) ∧ RegsBut [R.SHL_BIND_RESULT] s u
        else BindDone u (s.dmaStatus w.val 0 false s.bindSrc len) 0xFFFF ∧ RegsBut (R.SHL_BIND_RESULT :: dmaRegs) s u) ∧
      BackTo s { u with regs := s.regs, hif := { u.hif with faultHi := s.hif.faultHi },
                        bnd := { u.bnd with op := s.bnd.op, faultAddr := s.bnd.faultAddr } })) ∧
  (∀ (t n w src len dest : Nat) (bs : Bytes) (s : State), s.coreUp = true → s.bnd.op = some (.catAdd n w src len dest) →
    s.winPermits w 0 false = true →
    Answers (.catAddDone t (.ok bs)) s (fun u =>
      (parseVariant (padTo len bs) = none → BindDone u 0x13 0xFFFF ∧ u.bnd.cat = s.bnd.cat) ∧
      (∀ d b, parseVariant (padTo len bs) = some (d, b) →
        BindDone u 0 0xFFFF ∧ (∀ k, k ≠ n → catGet u.bnd.cat k = catGet s.bnd.cat k) ∧
        (catGet u.bnd.cat n).map (·.num) = some n ∧ (catGet u.bnd.cat n).map (·.addr) = some dest ∧
        (catGet u.bnd.cat n).map (·.len) = some len ∧ (catGet u.bnd.cat n).map (·.digest) = some d ∧
        (catGet u.bnd.cat n).map (·.body) = some b) ∧
      RegsBut [R.SHL_BIND_RESULT] s u ∧ BackTo s { u with regs := s.regs, bnd := { u.bnd with op := s.bnd.op, cat := s.bnd.cat } }) ∧
    Answers (.catAddDone t .error) s (fun u =>
      BindDone u 0x15 0xFFFF ∧ u.flag F.HIF_STATUS_DMA_ERR_SEEN = true ∧ RegsBut [R.SHL_BIND_RESULT, R.HIF_STATUS] s u ∧
      BackTo s { u with regs := s.regs, bnd := { u.bnd with op := s.bnd.op } })) ∧
  (∀ (t : Nat) (n : Fin 4096) (s : State), s.hostUp 0 = true → s.flag F.SHL_BIND_RESULT_BUSY = false → s.lockdown = false →
    Answers (.catRemove t n) s (fun u =>
      (if s.bnd.mset.any (fun p => p.2 == some n.val) = true ∨ s.bnd.loadedVars.contains n.val = true ∨ catGet s.bnd.cat n.val = none then
        BindDone u 0x15 0xFFFF ∧ u.bnd.cat = s.bnd.cat
       else BindDone u 0 0xFFFF ∧ catGet u.bnd.cat n.val = none ∧ (∀ k, k ≠ n.val → catGet u.bnd.cat k = catGet s.bnd.cat k)) ∧
      RegsBut [R.SHL_BIND_RESULT] s u ∧ BackTo s { u with regs := s.regs, bnd := { u.bnd with op := s.bnd.op, cat := s.bnd.cat } })) ∧
  (∀ (t : Nat) (v : BitVec 32) (s : State), s.hostUp 0 = true →
    Answers (.catSizeWrite t v) s (fun u =>
      u.fld F.SHL_CAT_SIZE_GIB = (if s.fld F.DKL_GATHER_ID_ID = 0 ∧ s.dkl.gather = .openW ∧ 1 ≤ v.toNat % 128 ∧ v.toNat % 128 ≤ 64 ∧
        catStart + v.toNat % 128 * 2 ^ 30 ≤ s.nearCap then v.toNat % 128 else s.fld F.SHL_CAT_SIZE_GIB) ∧
      RegsBut [R.SHL_CAT_SIZE] s u ∧ BackTo s { u with regs := s.regs })) ∧
  (∀ (t : Nat) (q : Fin 8) (k : Fin 16) (v : BitVec 32) (s : State), s.hostUp 0 = true →
    Answers (.msetWrite t q k v) s (fun u =>
      if s.dkl.gather = .openW then
        u.fld (F.SHL_MSET_VARIANT q.val k.val) = v.toNat % 4096 ∧ u.flag (F.SHL_MSET_USE q.val k.val) = v.toNat.testBit 15 ∧
        u.bnd.stale = (s.bnd.stale || s.bnd.loaded.isSome) ∧ RegsBut [R.SHL_MSET q.val k.val] s u ∧
        BackTo s { u with regs := s.regs, bnd := { u.bnd with stale := s.bnd.stale } }
      else BackTo s u)) ∧
  (∀ (t : Nat) (q : Fin 8) (s : State), s.coreUp = true → s.bnd.restoring.contains q.val = true → s.ama.upd = [] →
    (∀ x ∈ s.ama.saves, x.journal = none) →
    Answers (.configRestoreDone t q) s (fun u =>
      u.bnd.restoring = s.bnd.restoring.filter (· != q.val) ∧ u.bnd.quireOut = s.bnd.quireOut.filter (· != q.val) ∧
      u.bnd.badWords = s.bnd.badWords.filter (fun w => w.1 != q.val) ∧
      (∀ b, s.bnd.cur = some b → q.val < s.bnd.models.length → u.bnd.models[q.val]? = some (buildModel b s.bnd.cat s.bnd.mset q.val)) ∧
      (∀ k, k ≠ q.val → u.bnd.models[k]? = s.bnd.models[k]?) ∧
      u.ama.saves = s.ama.saves.filter (fun x => x.bank / 32 != q.val) ∧
      (∀ bank, bank / 32 ≠ q.val → ∀ e : Nat, e < 16384 → u.ama.slot bank e = s.ama.slot bank e) ∧
      (∀ x ∈ s.ama.saves, s.ama.saves.length = 1 → x.bank / 32 = q.val → (x.failed = true → u.ama.failed.contains x.bank = true) ∧
        ∀ e : Nat, e < 16384 → u.ama.slot x.bank e = (s.ama.unsave x).slot x.bank e) ∧
      u.ama.ver = s.ama.ver ∧ u.ama.digest = s.ama.digest ∧ u.ama.res = s.ama.res ∧ u.ama.upd = s.ama.upd ∧ u.regs = s.regs ∧
      BackTo s { u with regs := s.regs, ama := s.ama, bnd := { u.bnd with
        restoring := s.bnd.restoring, quireOut := s.bnd.quireOut, badWords := s.bnd.badWords, models := s.bnd.models } })) ∧
  (∀ (t : Nat) (q : Fin 8) (bs : Bytes) (s : State), s.coreUp = true →
    (s.bnd.restoring = [] → Answers (.configRestoreDone t q) s (fun u => BackTo s u)) ∧
    (s.bnd.op = none → Answers (.catAddDone t (.ok bs)) s (fun u => BackTo s u) ∧ Answers (.bindStageDone t (.ok bs)) s (fun u => BackTo s u) ∧
      Answers (.bindLoadDone t) s (fun u => BackTo s u)))

/-- CENSUS_SETTLED, FLT_CENSUS_READ, FLT_CENSUS_RETRY, MODEL_SCRUB_VISIT and MODEL_REPAIR_DONE (R391 to R398, R449).
The model's readings and choices behind it: log entries 82, 81. -/
def Obligations.CensusSettlesAndRetryRecovers : Prop :=
  (∀ (t : Nat) (n : BitVec 16) (s : State), s.coreUp = true →
    Answers (.censusSettled t n) s (fun u =>
      u.frun n.toNat = (if (s.folio n.toNat).state = .faulted then
        { s.frun n.toNat with cens := (s.frun n.toNat).cens.map fun e => { e with settled := true } } else s.frun n.toNat) ∧
      (∀ m, m ≠ n.toNat → u.frun m = s.frun m) ∧ BackTo s { u with ldg := { u.ldg with runs := s.ldg.runs } })) ∧
  (∀ (t : Nat) (n : BitVec 16) (s : State), s.hostUp 0 = true →
    Answers (.fltCensusRead t n) s (fun u =>
      (if s.lockdown = true then u.fld F.FLT_CENSUS_RESULT_STATUS = 0x30 ∧ RegsBut [R.FLT_CENSUS_RESULT] s u
       else u.fld F.FLT_CENSUS_RESULT_STATUS = 0 ∧ (∀ k < 8, u.rd (R.FLT_CENSUS_DATA k) = wordOfBytes k (s.censusBytes n.toNat)) ∧
        RegsBut (R.FLT_CENSUS_RESULT :: (List.range 8).map R.FLT_CENSUS_DATA) s u) ∧
      BackTo s { u with regs := s.regs })) ∧
  (∀ (t st : Nat) (h : Handle) (s : State), s.hostUp 0 = true →
    (s.lockdown = true ∧ st = 0x30 ∨ s.lockdown = false ∧ s.retryRefuse h = some st) →
    Answers (.fltCensusRetry t h) s (fun u =>
      u.fld F.FLT_CENSUS_RESULT_STATUS = st ∧ RegsBut [R.FLT_CENSUS_RESULT] s u ∧ BackTo s { u with regs := s.regs })) ∧
  (∀ (t : Nat) (h : Handle) (e : Census) (s : State), s.hostUp 0 = true → s.lockdown = false → s.retryRefuse h = none →
    (s.frun h.idx).cens = some e → s.lostSince h.idx e.tFault = none →
    Answers (.fltCensusRetry t h) s (fun u =>
      let n := h.idx
      let held := (s.liveOf n).filter fun i => i.phase == Phase.held
      (u.folio n).state = s.retryState n e.prior ∧ (u.folio n).census = 0 ∧ (u.folio n).censusStep = 0 ∧
      (u.folio n).gen = (s.folio n).gen ∧ (u.folio n).relSeq = (s.folio n).relSeq ∧ (u.folio n).tOpen = (s.folio n).tOpen ∧
      (u.frun n).cens = none ∧ FoliosBut [n] s u ∧
      u.adm.queue = held.map Item.putBack ++ s.adm.queue ∧
      u.adm.live = s.adm.live.filter (fun i => !(i.folio == n && i.phase == Phase.held)) ∧
      Entered s u (fun c => c.tick = u.tick ∧ c.rank = rankFault ∧ c.sub = n ∧ c.status = 0 ∧ c.handle = handleOf n (s.folio n).gen ∧
        c.body.kind = 8) ∧
      u.rd R.FLT_RETRY_COUNT = (s.rd R.FLT_RETRY_COUNT + 1) % 2 ^ 32 ∧
      u.fld F.FLT_CENSUS_RESULT_STATUS = 0 ∧ u.fld F.FLT_CENSUS_RESULT_NEW_STATE = (s.retryState n e.prior).code ∧
      RegsBut ([R.FLT_RETRY_COUNT, R.FLT_CENSUS_RESULT, R.SPN_PAGE_FWD_COUNT, R.SPN_PAGE_DROP_COUNT] ++ colRegs) s u ∧
      BackTo s { u with free := s.free, regs := s.regs, ldg := { u.ldg with folios := s.ldg.folios, runs := s.ldg.runs },
                        adm := { u.adm with live := s.adm.live, queue := s.adm.queue }, ports := s.ports,
                        parts := { u.parts with strays := s.parts.strays }, chain := s.chain, out := s.out })) ∧
  (∀ (t p : Nat) (h : Handle) (e : Census) (s : State), s.hostUp 0 = true → s.lockdown = false → s.retryRefuse h = none →
    (s.frun h.idx).cens = some e → s.lostSince h.idx e.tFault = some p →
    Answers (.fltCensusRetry t h) s (fun u =>
      Orphaned [R.FLT_CENSUS_RESULT] s u h.idx ∧ u.fld F.FLT_CENSUS_RESULT_STATUS = 0 ∧
      u.fld F.FLT_CENSUS_RESULT_NEW_STATE = FState.code .orphaned)) ∧
  (∀ (t : Nat) (q : Fin 8) (a : BitVec 28) (bad : Bool) (s : State), s.coreUp = true →
    Answers (.modelScrubVisit t q a bad) s (fun u =>
      u.bnd.badWords = (if bad = true ∧ s.bnd.badWords.contains (q.val, a.toNat) = false then s.bnd.badWords ++ [(q.val, a.toNat)]
        else s.bnd.badWords) ∧ BackTo s { u with bnd := { u.bnd with badWords := s.bnd.badWords } }) ∧
    Answers (.modelRepairDone t q a bad) s (fun u =>
      if s.bnd.badWords.contains (q.val, a.toNat) = true then
        u.bnd.badWords = s.bnd.badWords.filter (· != (q.val, a.toNat)) ∧
        u.rd R.FLT_REPAIR_COUNT = (if bad then s.rd R.FLT_REPAIR_COUNT else (s.rd R.FLT_REPAIR_COUNT + 1) % 2 ^ 32) ∧
        (if bad then (u.fld F.FLT_REPAIR_FAILED_QUIRES).testBit q.val = true ∧ u.flag F.FLT_STATUS_REPAIR_FAIL_SEEN = true
         else u.flag F.FLT_STATUS_REPAIR_SEEN = true ∧ u.rd R.FLT_REPAIR_FAILED = s.rd R.FLT_REPAIR_FAILED) ∧
        RegsBut [R.FLT_REPAIR_COUNT, R.FLT_REPAIR_FAILED, R.FLT_STATUS] s u ∧
        BackTo s { u with regs := s.regs, bnd := { u.bnd with badWords := s.bnd.badWords } }
      else BackTo s u))

/-- NVM_READ, NVM_PROGRAM, NVM_ERASE and NVM_OP_DONE (R404 to R409, R449, R464).
The model's readings and choices behind it: log entries 86, 85. -/
def Obligations.NvmReadsProgramsErases : Prop :=
  (∀ (t op : Nat) (w : Fin 64) (i : Instr) (s : State), s.hostUp 0 = true →
    (i = .nvmRead t w ∧ op = 1 ∨ i = .nvmProgram t w ∧ op = 2 ∨ i = .nvmErase t ∧ op = 3) →
    Answers i s (fun u =>
      let a := s.fld F.NVM_ADDR_ADDR
      let n := s.rd R.NVM_LEN
      let host := s.rd64 R.NVM_HOST_LO R.NVM_HOST_HI
      let dma := if op = 3 then 0 else s.dmaStatus w.val 0 (op == 1) host n
      let formOk := if op = 1 then a % 4 = 0 ∧ n % 4 = 0 ∧ n ≤ 1048576 else if op = 2 then a % 256 = 0 ∧ n % 256 = 0 ∧ n ≤ 65536
        else a % 65536 = 0 ∧ n % 65536 = 0
      let area := (nvmArea (op == 1) a).getD 0
      let st := if s.lockdown = true ∧ op ≠ 1 then 0x30 else if nvmArea (op == 1) a = none then 0x15 else if area < a + n then 0x10
        else if dma ≠ 0 then dma else if op ≠ 1 ∧ s.nvm.readOnly = true then 0x18 else if ¬formOk then 0x15
        else if op = 2 ∧ (s.nvm.read a n).all (· == 0xFF) = false then 0x11 else 0
      if s.flag F.NVM_RESULT_BUSY = true then BackTo s u
      else
        (if st = 0 then u.fld F.NVM_RESULT_STATUS = 0 ∧ u.flag F.NVM_RESULT_BUSY = true ∧
            u.nvm.op = some { op := op, addr := a, len := n, win := if op = 3 then 0 else w.val, host := host }
         else NvmDone u st) ∧
        u.rd R.NVM_FAULT_ADDR = (if (s.lockdown = false ∨ op = 1) ∧ nvmArea (op == 1) a ≠ none ∧ area < a + n then area else s.rd R.NVM_FAULT_ADDR) ∧
        RegsBut ([R.NVM_RESULT, R.NVM_FAULT_ADDR] ++ dmaRegs) s u ∧
        BackTo s { u with regs := s.regs, nvm := { u.nvm with op := s.nvm.op }, hif := { u.hif with faultHi := s.hif.faultHi } })) ∧
  (∀ (t : Nat) (o : NvmOp) (bs : Bytes) (bad : NvmBad) (s : State), s.liveUp = true → s.nvm.op = some o → o.op = 1 →
    Answers (.nvmOpDone t (.ok bs) bad) s (fun u =>
      (if s.winPermits o.win 0 true = true then
        NvmDone u 0 ∧ u.dma = { tick := u.tick, win := o.win, off := o.host, data := s.nvm.read o.addr o.len } :: s.dma
       else NvmDone u 0x15 ∧ u.dma = s.dma) ∧
      RegsBut [R.NVM_RESULT] s u ∧ BackTo s { u with regs := s.regs, dma := s.dma, nvm := { u.nvm with op := s.nvm.op } })) ∧
  (∀ (t : Nat) (o : NvmOp) (bs : Bytes) (bad : NvmBad) (s : State), s.liveUp = true → s.nvm.op = some o → o.op = 2 →
    s.winPermits o.win 0 false = true → s.Canon →
    Answers (.nvmOpDone t (.ok bs) bad) s (fun u =>
      let ps := asPages (o.addr / 256) (padTo o.len bs)
      (bad.pages = [] → NvmDone u 0 ∧ (∀ p ∈ ps, u.nvm.page p.1 = padTo 256 p.2) ∧ u.nvm.spares = s.nvm.spares) ∧
      (∀ p ∈ ps, bad.pages = [p.1] → s.nvm.spares ≠ 0 → NvmDone u 0 ∧ (∀ x ∈ ps, u.nvm.page x.1 = padTo 256 x.2) ∧
        u.nvm.spares = s.nvm.spares - 1 ∧ u.nvm.retired = s.nvm.retired + 1 ∧ u.flag F.NVM_STATUS_RETIRE_SEEN = true) ∧
      (∀ p ∈ ps, bad.pages.contains p.1 = true → s.nvm.spares = 0 → NvmDone u 0x18 ∧ u.nvm.readOnly = true ∧
        u.flag F.NVM_STATUS_READ_ONLY_SEEN = true) ∧
      (∀ p, ps.all (fun x => x.1 != p) = true → u.nvm.page p = s.nvm.page p) ∧
      RegsBut [R.NVM_RESULT, R.NVM_STATUS] s u ∧ BackTo s { u with free := s.free, regs := s.regs, nvm := s.nvm })) ∧
  (∀ (t : Nat) (o : NvmOp) (d : DmaIn) (bad : NvmBad) (s : State), s.liveUp = true → s.nvm.op = some o → o.op = 3 →
    Answers (.nvmOpDone t d bad) s (fun u =>
      let bs := (List.range (o.len / 65536)).map (o.addr / 65536 + ·)
      (bad.blocks = [] → (∀ b ∈ bs, Sparse.get (fun _ => 0) s.nvm.erases b < 10000) → NvmDone u 0 ∧
        (∀ b ∈ bs, (∀ k < 256, u.nvm.page (256 * b + k) = blankPage (256 * b + k)) ∧
          Sparse.get (fun _ => 0) u.nvm.erases b = Sparse.get (fun _ => 0) s.nvm.erases b + 1) ∧ u.nvm.spares = s.nvm.spares) ∧
      (∀ b, bs = [b] → (10000 ≤ Sparse.get (fun _ => 0) s.nvm.erases b ∨ bad.blocks.contains b = true) →
        (s.nvm.spares ≠ 0 → NvmDone u 0 ∧ (∀ k < 256, u.nvm.page (256 * b + k) = blankPage (256 * b + k)) ∧
          u.nvm.spares = s.nvm.spares - 1 ∧ u.nvm.retired = s.nvm.retired + 1 ∧ u.flag F.NVM_STATUS_RETIRE_SEEN = true) ∧
        (s.nvm.spares = 0 → NvmDone u 0x18 ∧ u.nvm.pages = s.nvm.pages ∧ u.nvm.readOnly = true ∧
          u.flag F.NVM_STATUS_READ_ONLY_SEEN = true)) ∧
      (∀ p, bs.contains (p / 256) = false → u.nvm.page p = s.nvm.page p) ∧
      RegsBut [R.NVM_RESULT, R.NVM_STATUS] s u ∧ BackTo s { u with regs := s.regs, nvm := s.nvm })) ∧
  (∀ (t : Nat) (d : DmaIn) (bad : NvmBad) (s : State), s.liveUp = true →
    (s.nvm.op = none → Answers (.nvmOpDone t d bad) s (fun u => BackTo s u)) ∧
    (∀ o, s.nvm.op = some o → o.op ≠ 3 → Answers (.nvmOpDone t .error bad) s (fun u =>
      NvmDone u 0x15 ∧ u.flag F.HIF_STATUS_DMA_ERR_SEEN = true ∧ RegsBut [R.NVM_RESULT, R.HIF_STATUS] s u ∧
      BackTo s { u with regs := s.regs, nvm := { u.nvm with op := s.nvm.op } })))

/-- R406. -/
def Obligations.ProgramOfBlankPageStaysBlank : Prop :=
  (∀ (t : Nat) (w : Fin 64) (s : State), s.hostUp 0 = true → s.flag F.NVM_RESULT_BUSY = false → s.lockdown = false → s.nvm.readOnly = false →
    let a := s.fld F.NVM_ADDR_ADDR
    let n := s.rd R.NVM_LEN
    352 * 65536 ≤ a → a + n ≤ 992 * 65536 → a % 256 = 0 → n % 256 = 0 → n ≤ 65536 → a < 992 * 65536 →
    s.dmaStatus w.val 0 false (s.rd64 R.NVM_HOST_LO R.NVM_HOST_HI) n = 0 →
    Answers (.nvmProgram t w) s (fun u =>
      u.nvm.pages = s.nvm.pages ∧ u.nvm.erases = s.nvm.erases ∧
      if (s.nvm.read a n).any (· != 0xFF) = true then NvmDone u 0x11
      else u.flag F.NVM_RESULT_BUSY = true ∧ u.nvm.op = some { op := 2, addr := a, len := n, win := w.val, host := s.rd64 R.NVM_HOST_LO R.NVM_HOST_HI })) ∧
  (∀ (t p : Nat) (o : NvmOp) (bs : Bytes) (s : State), s.liveUp = true → s.nvm.op = some o → o.op = 2 → s.winPermits o.win 0 false = true →
    (p, List.replicate 256 (0xFF : BitVec 8)) ∈ asPages (o.addr / 256) (padTo o.len bs) →
    Answers (.nvmOpDone t (.ok bs) { blocks := [], pages := [] }) s (fun u =>
      NvmDone u 0 ∧ u.nvm.page p = List.replicate 256 0xFF ∧ (u.nvm.read (256 * p) 256).all (· == 0xFF) = true))

/-- EPD_CHECK, EPD_WRITE, EPD_RESUME, EPD_WRITE_DONE, and the gate of every EPD command (R408 to R415, R425, R449, R464, R465).
The model's readings and choices behind it: log entries 89, 88. -/
def Obligations.LoaderChecksAndWritesImage : Prop :=
  (∀ (t : Nat) (w : Fin 64) (d : DmaIn) (bad : NvmBad) (key : BitVec 16) (inLimp writes : Bool) (i : Instr) (s : State), s.hostUp 0 = true →
    (i = .epdCheck t w d ∧ inLimp = true ∧ writes = false ∨ i = .epdWrite t w d bad ∧ inLimp = true ∧ writes = true ∨
     i = .epdResume t w d ∧ inLimp = true ∧ writes = true ∨ i = .epdArm t ∧ inLimp = false ∧ writes = true ∨
     i = .epdDisarm t ∧ inLimp = false ∧ writes = false ∨ i = .epdSet t key ∧ inLimp = true ∧ writes = true ∨
     i = .epdGet t key ∧ inLimp = true ∧ writes = false) →
    (s.flag F.EPD_RESULT_BUSY = true → Answers i s (fun u => BackTo s u)) ∧
    (s.flag F.EPD_RESULT_BUSY = false → (s.lockdown = true ∨ s.limp = true ∧ inLimp = false ∨ writes = true ∧ s.nvm.readOnly = true) →
      Answers i s (fun u =>
        EpdDone u (if s.lockdown = true then 0x30 else if s.limp = true ∧ inLimp = false then 0x32 else 0x18) 0xFFFF ∧
        RegsBut [R.EPD_RESULT] s u ∧ BackTo s { u with regs := s.regs, epd := { u.epd with op := s.epd.op } }))) ∧
  (∀ (t : Nat) (w : Fin 64) (bs : Bytes) (bad : NvmBad) (s : State), s.hostUp 0 = true → s.flag F.EPD_RESULT_BUSY = false →
    s.lockdown = false →
    let dma := s.dmaStatus w.val 0 false s.epdSrc 65536
    let c := padTo 65536 bs
    let st := if dma ≠ 0 then dma else fwCheck s.epd.fuses s.epd.conf c
    Answers (.epdCheck t w (.ok bs)) s (fun u =>
      EpdDone u st 0xFFFF ∧ RegsBut (R.EPD_RESULT :: dmaRegs) s u ∧
      BackTo s { u with regs := s.regs, epd := { u.epd with op := s.epd.op }, hif := { u.hif with faultHi := s.hif.faultHi } }) ∧
    Answers (.epdCheck t w .error) s (fun u =>
      EpdDone u (if dma ≠ 0 then dma else 0x15) 0xFFFF ∧ (dma = 0 → u.flag F.HIF_STATUS_DMA_ERR_SEEN = true) ∧
      RegsBut (R.EPD_RESULT :: dmaRegs) s u ∧
      BackTo s { u with regs := s.regs, epd := { u.epd with op := s.epd.op }, hif := { u.hif with faultHi := s.hif.faultHi } }) ∧
    (s.nvm.readOnly = false → Answers (.epdWrite t w (.ok bs) bad) s (fun u =>
      let spent := 10000 ≤ Sparse.get (fun _ => 0) s.nvm.erases 16 ∨ bad.blocks.contains 16 = true
      if 3 < s.fld F.EPD_STATE_PHASE ∨ st ≠ 0 then
        EpdDone u (if 3 < s.fld F.EPD_STATE_PHASE then 0x15 else st) 0xFFFF ∧ RegsBut (R.EPD_RESULT :: dmaRegs) s u ∧
        BackTo s { u with regs := s.regs, epd := { u.epd with op := s.epd.op }, hif := { u.hif with faultHi := s.hif.faultHi } }
      else
        u.epd.journal.digest = fwDigest c ∧ u.epd.journal.cursor = 1 ∧
        (if spent ∧ s.nvm.spares = 0 then
          EpdDone u 0x18 0 ∧ u.fld F.EPD_STATE_PHASE = 2 ∧ u.epd.journal.phase = 2 ∧ u.nvm.readOnly = true ∧ u.nvm.pages = s.nvm.pages ∧
          u.flag F.NVM_STATUS_READ_ONLY_SEEN = true
         else
          EpdRuns u w.val s.epdSrc c ∧ u.fld F.EPD_STATE_PHASE = 1 ∧ u.epd.journal.phase = 1 ∧ u.epd.journal.seq = s.epd.journal.seq + 1 ∧
          u.epd.older = s.epd.journal ∧ (∀ k < 256, u.nvm.page (16 * 256 + k) = blankPage (16 * 256 + k)) ∧
          u.nvm.spares = s.nvm.spares - (if spent then 1 else 0)) ∧
        (∀ p, p / 256 ≠ 16 → u.nvm.page p = s.nvm.page p) ∧ u.rd R.EPD_STATE / 8 = s.rd R.EPD_STATE / 8 ∧
        RegsBut [R.EPD_RESULT, R.EPD_STATE, R.NVM_STATUS] s u ∧
        BackTo s { u with regs := s.regs, nvm := s.nvm,
                          epd := { u.epd with op := s.epd.op, journal := s.epd.journal, older := s.epd.older } })) ∧
    (s.nvm.readOnly = false → Answers (.epdResume t w (.ok bs)) s (fun u =>
      if s.fld F.EPD_STATE_PHASE ≠ 1 ∧ s.fld F.EPD_STATE_PHASE ≠ 2 ∨ st ≠ 0 ∨ fwDigest c ≠ s.epd.journal.digest then
        EpdDone u (if s.fld F.EPD_STATE_PHASE ≠ 1 ∧ s.fld F.EPD_STATE_PHASE ≠ 2 then 0x15 else if st ≠ 0 then st else 0x15) 0xFFFF ∧
        RegsBut (R.EPD_RESULT :: dmaRegs) s u ∧
        BackTo s { u with regs := s.regs, epd := { u.epd with op := s.epd.op }, hif := { u.hif with faultHi := s.hif.faultHi } }
      else
        EpdRuns u w.val s.epdSrc c ∧ PhaseMoved s u 1 ∧ u.rd R.EPD_STATE / 8 = s.rd R.EPD_STATE / 8 ∧
        RegsBut [R.EPD_RESULT, R.EPD_STATE] s u ∧
        BackTo s { u with regs := s.regs, epd := { u.epd with op := s.epd.op, journal := s.epd.journal, older := s.epd.older } }))) ∧
  (∀ (t w src : Nat) (c0 bs : Bytes) (d : DmaIn) (bad : NvmBad) (s : State), s.coreUp = true → s.epd.op = some (.write w src c0) →
    (d = .ok bs ∨ d = .error) → 1 ≤ s.epd.journal.cursor → s.epd.journal.cursor < fwChunks c0 → c0.length ≤ 65536 → s.Canon →
    Answers (.epdWriteDone t [d] bad) s (fun u =>
      let k := s.epd.journal.cursor
      let dma := s.dmaStatus w 0 false (src + 65536 * k) 65536
      let b := padTo 65536 bs
      (dma ≠ 0 ∨ d = .error ∨ sha384 b ≠ chunkDigest c0 k →
        EpdDone u (if dma ≠ 0 then dma else if d = .error then 0x15 else 0x16) k ∧ PhaseMoved s u 2 ∧ u.nvm = s.nvm ∧
        (dma = 0 → d = .error → u.flag F.HIF_STATUS_DMA_ERR_SEEN = true)) ∧
      (dma = 0 → d = .ok bs → sha384 b = chunkDigest c0 k →
        (∀ p, p / 256 ≠ 16 + k → p / 256 ≠ 16 → u.nvm.page p = s.nvm.page p) ∧
        (bad.blocks.contains (16 + k) = true → s.nvm.spares = 0 →
          EpdDone u 0x18 k ∧ PhaseMoved s u 2 ∧ u.nvm.pages = s.nvm.pages ∧ u.nvm.readOnly = true) ∧
        (bad = { blocks := [], pages := [] } → Sparse.get (fun _ => 0) s.nvm.erases (16 + k) < 10000 →
          (∀ p ∈ asPages (256 * (16 + k)) b, u.nvm.page p.1 = padTo 256 p.2) ∧
          (if k + 1 < fwChunks c0 then
            u.epd.op = s.epd.op ∧ u.epd.journal = { s.epd.journal with seq := s.epd.journal.seq + 1, phase := 1, cursor := k + 1 } ∧
            u.epd.older = s.epd.journal ∧ u.fld F.EPD_STATE_PHASE = s.fld F.EPD_STATE_PHASE
           else
            EpdDone u 0 0xFFFF ∧ u.fld F.EPD_STATE_PHASE = 3 ∧ u.epd.journal.phase = 3 ∧ u.epd.journal.digest = s.epd.journal.digest ∧
            ∀ p ∈ asPages (16 * 256) c0, p.1 / 256 = 16 → u.nvm.page p.1 = padTo 256 p.2))) ∧
      u.rd R.EPD_STATE / 8 = s.rd R.EPD_STATE / 8 ∧ RegsBut ([R.EPD_RESULT, R.EPD_STATE, R.NVM_STATUS] ++ dmaRegs) s u ∧
      BackTo s { u with free := s.free, regs := s.regs, nvm := s.nvm, hif := { u.hif with faultHi := s.hif.faultHi },
                        epd := { u.epd with op := s.epd.op, journal := s.epd.journal, older := s.epd.older } })) ∧
  (∀ (t : Nat) (ds : List DmaIn) (bad : NvmBad) (s : State), s.coreUp = true → s.epd.op = none →
    Answers (.epdWriteDone t ds bad) s (fun u => BackTo s u))

/-- EPD_ARM, EPD_PRELOAD_DONE, EPD_DISARM, EPD_SET, EPD_GET and HANDOVER_DONE (R418 to R422, R428, R429).
The model's readings and choices behind it: log entries 91, 87. -/
def Obligations.ArmSettingsAndHandover : Prop :=
  (∀ (t : Nat) (s : State), s.hostUp 0 = true → s.flag F.EPD_RESULT_BUSY = false → s.lockdown = false → s.limp = false →
    (s.nvm.readOnly = false → Answers (.epdArm t) s (fun u =>
      (if s.fld F.EPD_STATE_PHASE = 3 ∧ s.flag F.EPD_STATE_UNCONFIRMED = false ∧
          (s.nvm.chunk0.any fun c => steppingListed (fieldAt 0x14 1 c)) = true then
        EpdDone u 0 0xFFFF ∧ PhaseMoved s u 4 ∧ u.rd R.EPD_STATE / 8 = s.rd R.EPD_STATE / 8 ∧ RegsBut [R.EPD_RESULT, R.EPD_STATE] s u
       else EpdDone u 0x15 0xFFFF ∧ RegsBut [R.EPD_RESULT] s u ∧ u.epd = { s.epd with op := none }) ∧
      BackTo s { u with regs := s.regs, epd := { u.epd with op := s.epd.op, journal := s.epd.journal, older := s.epd.older } })) ∧
    Answers (.epdDisarm t) s (fun u =>
      (if s.fld F.EPD_STATE_PHASE = 4 ∨ s.fld F.EPD_STATE_PHASE = 5 then
        EpdDone u 0 0xFFFF ∧ PhaseMoved s u 3 ∧ u.rd R.EPD_STATE / 8 = s.rd R.EPD_STATE / 8 ∧ RegsBut [R.EPD_RESULT, R.EPD_STATE] s u
       else EpdDone u 0x15 0xFFFF ∧ RegsBut [R.EPD_RESULT] s u ∧ u.epd = { s.epd with op := none }) ∧
      BackTo s { u with regs := s.regs, epd := { u.epd with op := s.epd.op, journal := s.epd.journal, older := s.epd.older } })) ∧
  (∀ (t : Nat) (upset : Bool) (s : State), s.coreUp = true →
    (s.fld F.EPD_STATE_PHASE ≠ 4 → Answers (.epdPreloadDone t upset) s (fun u => BackTo s u)) ∧
    (s.fld F.EPD_STATE_PHASE = 4 → Answers (.epdPreloadDone t upset) s (fun u =>
      (if upset = false ∧ (s.nvm.chunk0.any s.nvm.codeOk) = true then
        PhaseMoved s u 5 ∧ u.epd.bank0 = (if s.flag F.EPD_STATE_BANK = true then s.nvm.image else s.epd.bank0) ∧
        u.epd.bank1 = (if s.flag F.EPD_STATE_BANK = true then s.epd.bank1 else s.nvm.image) ∧ u.rd R.EPD_RESULT = s.rd R.EPD_RESULT
       else
        PhaseMoved s u 3 ∧ u.epd.bank0 = s.epd.bank0 ∧ u.epd.bank1 = s.epd.bank1 ∧ u.fld F.EPD_RESULT_STATUS = 0x17) ∧
      u.rd R.EPD_STATE / 8 = s.rd R.EPD_STATE / 8 ∧ u.rd R.EPD_RESULT / 256 = s.rd R.EPD_RESULT / 256 ∧
      RegsBut [R.EPD_RESULT, R.EPD_STATE] s u ∧
      BackTo s { u with regs := s.regs, epd := { u.epd with journal := s.epd.journal, older := s.epd.older, bank0 := s.epd.bank0,
                                                            bank1 := s.epd.bank1 } }))) ∧
  (∀ (t : Nat) (key : BitVec 16) (s : State), s.hostUp 0 = true → s.flag F.EPD_RESULT_BUSY = false → s.lockdown = false →
    let k := key.toNat
    (s.nvm.readOnly = false → Answers (.epdSet t key) s (fun u =>
      let len := s.fld F.EPD_SET_LEN_LEN
      (if 0x8000 ≤ k then EpdDone u 0x15 0xFFFF ∧ u.epd.settings = s.epd.settings ∧ u.epd.setSeq = s.epd.setSeq
       else
        EpdDone u 0 0xFFFF ∧ u.epd.setSeq = s.epd.setSeq + 1 ∧
        { key := k, format := s.setFormat, seq := s.epd.setSeq + 1, len := len, data := s.setData } ∈ u.epd.settings ∧
        (s.flag F.EPD_STATE_DUAL = true →
          { key := k, format := s.epd.confFormat, seq := s.epd.setSeq + 1, len := len, data := s.setData } ∈ u.epd.settings) ∧
        (∀ r ∈ u.epd.settings, r ∈ s.epd.settings ∨ r.key = k ∧ r.seq = s.epd.setSeq + 1 ∧ r.len = len ∧ r.data = s.setData) ∧
        (∀ r ∈ s.epd.settings, r.key ≠ k → r ∈ u.epd.settings)) ∧
      RegsBut [R.EPD_RESULT] s u ∧
      BackTo s { u with regs := s.regs, epd := { u.epd with op := s.epd.op, settings := s.epd.settings, setSeq := s.epd.setSeq } })) ∧
    Answers (.epdGet t key) s (fun u =>
      (if 0x8000 ≤ k then EpdDone u 0x15 0xFFFF ∧ RegsBut [R.EPD_RESULT] s u
       else
        EpdDone u 0 0xFFFF ∧
        ((∀ r ∈ s.epd.settings, r.key ≠ k) → u.fld F.EPD_SET_LEN_LEN = 0 ∧ RegsBut [R.EPD_RESULT, R.EPD_SET_LEN] s u) ∧
        (∀ r ∈ s.epd.settings, r.key = k →
          (∀ x ∈ s.epd.settings, x.key = k → x.seq < r.seq ∨ x.seq = r.seq ∧ x.len = r.len ∧ x.data = r.data) →
          u.fld F.EPD_SET_LEN_LEN = r.len % 256 ∧ ∀ n < 60, u.rd (R.EPD_SET_DATA n) = wordOfBytes n r.data % 2 ^ 32)) ∧
      RegsBut ([R.EPD_RESULT, R.EPD_SET_LEN] ++ (List.range 60).map R.EPD_SET_DATA) s u ∧
      BackTo s { u with regs := s.regs, epd := { u.epd with op := s.epd.op } })) ∧
  (∀ (t : Nat) (ok : Bool) (s : State), s.coreUp = true →
    (s.epd.handover = none → Answers (.handoverDone t ok) s (fun u => BackTo s u)) ∧
    (∀ x, s.epd.handover = some x → Answers (.handoverDone t ok) s (fun u =>
      u.epd.handover = none ∧ u.epd.sealWait = none ∧
      (if ok = true then
        let i := if s.flag F.EPD_STATE_BANK = true then s.epd.bank0 else s.epd.bank1
        PhaseMoved s u 7 ∧ u.flag F.EPD_STATE_BANK = !s.flag F.EPD_STATE_BANK ∧ u.flag F.EPD_STATE_UNCONFIRMED = true ∧
        u.flag F.EPD_STATE_DUAL = true ∧ u.fld F.EPD_STATE_QSV_HELD = (if i.qsvTag = i.bundleTag then 0 else 0xFF) ∧
        u.rd R.EPD_RUN_VERSION = i.version % 2 ^ 32 ∧ u.flag F.EPD_STATUS_HANDOVER_SEEN = true ∧ u.flag F.HIF_EVENT_HANDOVER_DONE = true ∧
        u.rd R.EPD_RESULT = s.rd R.EPD_RESULT
       else
        PhaseMoved s u 3 ∧ u.rd R.EPD_STATE / 8 = s.rd R.EPD_STATE / 8 ∧ u.fld F.EPD_RESULT_STATUS = 0x15 ∧
        u.rd R.EPD_RUN_VERSION = s.rd R.EPD_RUN_VERSION ∧ u.rd R.EPD_STATUS = s.rd R.EPD_STATUS ∧ u.rd R.HIF_EVENT = s.rd R.HIF_EVENT) ∧
      (∀ w, s.epd.sealWait = some w → u.dkl = { s.dkl with gather := .sealing, sealTimer := w, sealAt := u.tick + 10 }) ∧
      (s.epd.sealWait = none ∨ (∀ m b, s.bnd.op ≠ some (.load m b)) → u.bnd = s.bnd ∧ u.ama = s.ama ∧
        u.rd R.SHL_BIND_RESULT = s.rd R.SHL_BIND_RESULT) ∧
      (s.epd.sealWait = none → u.dkl = s.dkl) ∧
      RegsBut [R.EPD_RESULT, R.EPD_STATE, R.EPD_RUN_VERSION, R.EPD_STATUS, R.HIF_EVENT, R.SHL_BIND_RESULT] s u ∧
      BackTo s { u with regs := s.regs, dkl := s.dkl, bnd := s.bnd, ama := s.ama,
                        epd := { u.epd with journal := s.epd.journal, older := s.epd.older, handover := s.epd.handover,
                                            sealWait := s.epd.sealWait } })))

/-- POWER_ON, RESET_N_LOW, PERST_N_LOW, BROWN_OUT, CRITICAL_TEMP, SHL_RESET_COLD and POWER_DOWN (Table 17.1, R350, R430 to R432, R445, R479,
R487, R489, R490, R493). That a part without power does nothing is the model's choice (log entry 95). -/
def Obligations.ColdResetLeavesResetState : Prop :=
  (∀ (t : Nat) (s : State),
    (s.pins.powered = true → Answers (.powerOn t) s (fun u => u = s)) ∧
    (s.pins.powered = false → Answers (.powerOn t) s (fun u => ColdDone s u 0 ∧
      u.pins = { s.pins with powered := true, resetLow := true, perstLow := true, vid := 30 } ∧ u.pending = s.pending ∧ u.free = s.free))) ∧
  (∀ (t ns : Nat) (s : State), s.pins.powered = true →
    Answers (.resetNLow t ns) s (fun u =>
      if 10000 ≤ ns then ColdDone s u 1 ∧ u.pins = { s.pins with resetLow := true, vid := 30 } ∧ u.pending = s.pending ∧ u.free = s.free
      else BackTo s u) ∧
    Answers (.perstNLow t ns) s (fun u =>
      if 1000 ≤ ns then ColdDone s u 2 ∧ u.pins = { s.pins with perstLow := true, vid := 30 } ∧ u.pending = s.pending ∧ u.free = s.free
      else BackTo s u) ∧
    Answers (.brownOut t ns) s (fun u =>
      if 20000 ≤ ns then ColdDone s u 4 ∧ u.pins = { s.pins with vid := 30 } ∧ u.pending = s.pending ∧ u.free = s.free else BackTo s u) ∧
    Answers (.criticalTemp t) s (fun u => ColdDone s u 5 ∧ u.pins = { s.pins with tripLow := true, vid := 30 } ∧
      u.pending = s.pending ∧ u.free = s.free) ∧
    Answers (.powerDown t) s (fun u => ColdDone s u 0 ∧
      u.pins = { s.pins with powered := false, tripLow := false, jtag := .bypass, vid := 30 } ∧ u.pending = s.pending ∧ u.free = s.free)) ∧
  (∀ (t : Nat) (g : BitVec 16) (s : State), s.hostUp 0 = true →
    Answers (.shlResetCold t g) s (fun u =>
      if g.toNat = 0xB007 then ColdDone s u 3 ∧ u.pins = { s.pins with vid := 30 } ∧ u.pending = s.pending ∧ u.free = s.free
      else BackTo s u)) ∧
  (∀ (i : Instr) (s : State), s.pins.powered = false → (∀ t, i ≠ .powerOn t) → Answers i s (fun u => u = s))

/-- COLD_START (Table 17.3, R350, R411, R417, R423 to R425, R435, R436, R446, R447, R449, R452).
The model's readings and choices behind it: log entries 93, 97, 92, 99. -/
def Obligations.ColdStartGoesAsFarAsItComes : Prop :=
  (∀ (t : Nat) (c : ColdIn) (s : State), s.pins.powered = true →
    (s.fld F.SHL_BOOT_STATUS_STEP ≠ 0 ∨ s.flag F.SHL_BOOT_STATUS_HALTED = true) → Answers (.coldStart t c) s (fun u => BackTo s u)) ∧
  (∀ (t : Nat) (c : ColdIn) (s : State), s.pins.powered = true → s.fld F.SHL_BOOT_STATUS_STEP = 0 → s.flag F.SHL_BOOT_STATUS_HALTED = false →
    let bad := c.endpaperOk = false ∨ c.sensors ≠ 0 ∨ s.fld F.SEC_STATE_LOCK_CODE ≠ 0 ∨ c.selfTestOk = false ∨ c.stack0 = 0 ∨ c.stack1 = 0 ∨
      c.trainOk = false
    Answers (.coldStart t c) s (fun u =>
      u.pins = { s.pins with resetLow := false, perstLow := false } ∧
      (bad →
        u.flag F.SHL_BOOT_STATUS_HALTED = true ∧ u.flag F.SHL_BOOT_STATUS_READY = s.flag F.SHL_BOOT_STATUS_READY ∧
        u.fld F.HIF_LINK_SPEED = c.speed.val ∧ u.fld F.HIF_LINK_WIDTH = c.width.val % 32 ∧
        u.epd = s.epd ∧ (u.nvm = s.nvm ∨ u.nvm = s.nvm.kill) ∧ u.sec.key = s.sec.key ∧
        (if c.endpaperOk = false then u.fld F.SHL_BOOT_STATUS_STEP = 2 ∧ u.fld F.SHL_BOOT_STATUS_REASON = 4 ∧ u.nvm = s.nvm
         else if c.sensors ≠ 0 ∨ s.fld F.SEC_STATE_LOCK_CODE ≠ 0 then
          u.fld F.SHL_BOOT_STATUS_STEP = 3 ∧ u.fld F.SHL_BOOT_STATUS_REASON = 5 ∧ u.fld F.SEC_STATE_MODE = 1 ∧ u.fld F.SEC_STATE_LOCK_CODE ≠ 0 ∧
          (s.fld F.SEC_STATE_LOCK_CODE ≠ 0 → u.fld F.SEC_STATE_LOCK_CODE = s.fld F.SEC_STATE_LOCK_CODE) ∧
          u.fld F.SEC_TAMPER_ACTIVE = c.sensors.toNat ∧
          (c.sensors.toNat % 16 ≠ 0 → u.nvm = s.nvm.kill ∧ u.flag F.SEC_STATE_KILLED = true) ∧ (c.sensors.toNat % 16 = 0 → u.nvm = s.nvm)
         else if c.selfTestOk = false then u.fld F.SHL_BOOT_STATUS_STEP = 4 ∧ u.fld F.SHL_BOOT_STATUS_REASON = 3 ∧ u.nvm = s.nvm
         else u.fld F.SHL_BOOT_STATUS_STEP = 5 ∧ u.fld F.SHL_BOOT_STATUS_REASON = (if c.stack0 = 0 ∨ c.stack1 = 0 then 1 else 2) ∧
          u.nvm = s.nvm ∧ u.pwr = { s.pwr with stack0 := c.stack0.val, stack1 := c.stack1.val }) ∧
        RegsBut [R.SHL_BOOT_STATUS, R.HIF_LINK, R.SEC_STATE, R.SEC_TAMPER] s u ∧
        BackTo s { u with regs := s.regs, nvm := s.nvm, pwr := s.pwr, sec := { u.sec with tick := s.sec.tick }, pins := s.pins,
                          hif := { u.hif with ibis := s.hif.ibis, ibiPend := s.hif.ibiPend } }) ∧
      (¬bad →
        u.nvm = { s.nvm with readOnly := s.nvm.spares == 0 } ∧ u.pwr = { s.pwr with stack0 := c.stack0.val, stack1 := c.stack1.val } ∧
        BackTo s { u with free := s.free, regs := s.regs, ldg := s.ldg, adm := s.adm, eng := s.eng, ports := s.ports, parts := s.parts,
                          nvm := s.nvm, epd := s.epd, pwr := s.pwr, sec := s.sec, pins := s.pins, chain := s.chain, col := s.col, out := s.out,
                          hif := { u.hif with ibis := s.hif.ibis, ibiPend := s.hif.ibiPend } }))) ∧
  (∀ (t : Nat) (c : ColdIn) (s : State), s.pins.powered = true → s.fld F.SHL_BOOT_STATUS_STEP = 0 → s.flag F.SHL_BOOT_STATUS_HALTED = false →
    c.endpaperOk = true → c.sensors = 0 → s.fld F.SEC_STATE_LOCK_CODE = 0 → c.selfTestOk = true → c.stack0 ≠ 0 → c.stack1 ≠ 0 → c.trainOk = true →
    s.lockdown = false → s.limp = false →
    let j := if c.journalTorn = true then s.epd.older else s.epd.journal
    let sv := max (if j.phase = 0 ∨ s.audit c.auditUpset ≠ 0 then 0 else s.nvm.image.secVersion) (s.epd.fuseRetry.getD 0)
    Answers (.coldStart t c) s (fun u =>
      (c.fuseTo = none → u.epd.fuses = (if s.epd.terminal = true then s.epd.fuses else max s.epd.fuses sv)) ∧
      (s.audit c.auditUpset ≠ 0 → s.parts = State.reset.parts → s.Canon →
        PortsTrained s u ∧
        u.fld F.SHL_BOOT_STATUS_STEP = 15 ∧ u.flag F.SHL_BOOT_STATUS_READY = true ∧ u.flag F.SHL_BOOT_STATUS_HALTED = false ∧
        u.fld F.SHL_BOOT_STATUS_REASON = 6 ∧ u.limp = true ∧ u.fld F.EPD_STATE_LIMP_CAUSE = s.audit c.auditUpset ∧
        u.flag F.EPD_STATUS_LIMP_SEEN = true ∧ u.epd.conf = s.epd.conf ∧ u.epd.settings = s.epd.settings ∧ u.epd.journal = j ∧
        u.sec.key = s.sec.key ∧ u.flag F.HIF_EVENT_BOOT_READY = true ∧
        RegsBut ([R.SHL_BOOT_STATUS, R.HIF_LINK, R.SEC_STATE, R.SEC_TAMPER, R.EPD_STATE, R.EPD_STATUS, R.HIF_EVENT] ++ trainRegs) s u ∧
        BackTo s { u with regs := s.regs, ports := s.ports, nvm := s.nvm, epd := s.epd, pwr := s.pwr, pins := s.pins,
                          hif := { u.hif with ibis := s.hif.ibis, ibiPend := s.hif.ibiPend } }) ∧
      (s.audit c.auditUpset = 0 →
        u.epd.bank0 = s.nvm.image ∧
        (j.phase ≠ 0 → u.epd.conf = s.nvm.image.version ∧ u.epd.confFormat = s.nvm.image.settingsFormat ∧ u.epd.journal.phase = 0 ∧
          u.epd.journal.seq = j.seq + 1 ∧ u.epd.settings = s.epd.settings.filter fun r => r.format == s.nvm.image.settingsFormat) ∧
        (j.phase = 0 → u.epd.conf = s.epd.conf ∧ u.epd.journal = j ∧ u.epd.settings = s.epd.settings) ∧
        (∀ code, s.nvm.unseal = .error code → 0 < code → code < 256 →
          u.fld F.SHL_BOOT_STATUS_STEP = 8 ∧ u.flag F.SHL_BOOT_STATUS_HALTED = true ∧ u.fld F.SHL_BOOT_STATUS_REASON = 5 ∧
          u.fld F.SEC_STATE_MODE = 1 ∧ u.fld F.SEC_STATE_LOCK_CODE = code ∧ (code = 0x80 → u.flag F.SEC_STATE_KILLED = true) ∧
          u.sec.key = s.sec.key ∧ u.col = s.col) ∧
        (∀ k, s.nvm.unseal = .ok k →
          u.fld F.SHL_BOOT_STATUS_STEP = 15 ∧ u.flag F.SHL_BOOT_STATUS_READY = true ∧ u.sec.key = some k.scalar ∧
          u.col = { s.col with pubKey := k.pub, keyEpoch := k.epoch, endorse := k.endorse, chainId := be 16 c.chainId.toNat, startAt := u.now } ∧
          u.flag F.HIF_EVENT_BOOT_READY = true ∧ (s.parts = State.reset.parts → s.Canon → u.parts = s.parts ∧ u.out = s.out ∧
            u.ldg = s.ldg ∧ u.chain = s.chain ∧
            ∀ p : Nat, p < 16 → s.flag (F.SPN_PORT_CTRL_ENABLE p) = true → u.portState p = 2)))))

/-- SHL_RESET_WARM, SCP_WATCHDOG_EXPIRY, PCIE_HOT_RESET, PCIE_LINK_DOWN and PF_FLR (Tables 16.6, 17.1, 17.2, R349, R430 to R434, R479).
The model's readings and choices behind it: log entries 94, 101, 102, 103, 104. -/
def Obligations.WarmResetKeepsAndLoses : Prop :=
  (∀ (t : Nat) (g : BitVec 16) (sp : Fin 8) (wd : Fin 32) (w : WarmIn) (s : State),
    (s.hostUp 0 = true → g.toNat ≠ 0xB007 → Answers (.shlResetWarm t g w) s (fun u => BackTo s u)) ∧
    (s.hostLink = false → Answers (.scpWatchdogExpiry t w) s (fun u => BackTo s u) ∧ Answers (.pcieHotReset t sp wd w) s (fun u => BackTo s u) ∧
      Answers (.pcieLinkDown t sp wd w) s (fun u => BackTo s u) ∧ Answers (.pfFlr t w) s (fun u => BackTo s u))) ∧
  (∀ (t cause speed width : Nat) (w : WarmIn) (i : Instr) (s : State), WarmCmd t speed width w s i cause → s.Canon →
    (s.lockdown = true ∨ s.limp = true ∨ s.flag F.SHL_BOOT_STATUS_READY = false) →
    Answers i s (fun u =>
      HifReset s u cause speed width ∧ (∀ off, off ≠ R.SHL_RESET_CAUSE → inHifPwr off = false → u.rd off = s.rd off) ∧
      u.fld F.SHL_RESET_CAUSE_COLD = s.fld F.SHL_RESET_CAUSE_COLD ∧ u.fld F.SHL_RESET_CAUSE_QUIRE_SEEN = s.fld F.SHL_RESET_CAUSE_QUIRE_SEEN ∧
      BackTo s { u with regs := s.regs, hif := { u.hif with qps := s.hif.qps, d3 := s.hif.d3 } })) ∧
  (∀ (t cause speed width : Nat) (w : WarmIn) (i : Instr) (s : State), WarmCmd t speed width w s i cause → s.Canon →
    s.lockdown = false → s.limp = false → s.flag F.SHL_BOOT_STATUS_READY = true → s.fld F.PWR_STATE_CURRENT ≠ 2 →
    Answers i s (fun u =>
      let j := s.epd.journal
      s.now ≤ u.now ∧ w.tEnd ≤ u.now ∧ u.fld F.PWR_STATE_CURRENT = 0 ∧ u.flag F.PWR_STATE_BUSY = false ∧ u.pwr.target = 0 ∧
      u.pwr.stopFrom = none ∧ u.pvc = Pvc.empty ∧
      u.dkl.gather = .openW ∧ u.dkl.openFrom = u.tick ∧ u.dkl.beginAt = none ∧ u.dkl.sealTimer = false ∧ u.dkl.booked = s.dkl.booked ∧
      (∀ n, (s.folio n).state.live = true → s.adm.live.any (fun i => i.folio == n && i.phase == .admitted) = true →
        (u.folio n).state = .faulted ∧ ((u.frun n).cens.map (·.status)) = some 0x48 ∧
        u.adm.live.any (fun i => i.folio == n && i.phase == .admitted) = false) ∧
      (∀ n, s.adm.live.any (fun i => i.folio == n && i.phase == .admitted) = false → u.folio n = s.folio n ∧ u.frun n = s.frun n) ∧
      u.adm.live.map (·.id) = s.adm.live.map (·.id) ∧ u.adm.queue = s.adm.queue ∧
      (∀ n, (u.partner n).state = (s.partner n).state ∧ (u.partner n).at_ = (s.partner n).at_) ∧
      u.bnd.cur = s.bnd.cur ∧ u.bnd.mset = s.bnd.mset ∧ (∀ c ∈ s.chain, c ∈ u.chain) ∧
      u.col.chainId = s.col.chainId ∧ u.col.startAt = s.col.startAt ∧ u.col.pubKey = s.col.pubKey ∧
      u.epd.op = none ∧ u.epd.handover = none ∧ u.epd.sealWait = none ∧ u.epd.conf = s.epd.conf ∧ u.epd.settings = s.epd.settings ∧
      (let ph := s.fld F.EPD_STATE_PHASE
       if ph = 1 ∨ 4 ≤ ph ∧ ph ≤ 6 then
        u.epd.journal = { j with seq := j.seq + 1, phase := if ph = 1 then 2 else if ph = 6 ∧ w.switched = true then 7 else 3 }
       else u.epd.journal = j) ∧
      u.hif.d3 = (if cause = 3 then [] else if cause = 4 then s.hif.d3.filter (· != 0) else s.hif.d3) ∧ u.hif.qps = [] ∧
      BackTo s { u with free := s.free, regs := s.regs, dkl := s.dkl, ldg := s.ldg, adm := s.adm, pvc := s.pvc, ama := s.ama, eng := s.eng,
                        ports := s.ports, parts := s.parts, bnd := s.bnd, epd := s.epd, pwr := s.pwr, chain := s.chain, col := s.col,
                        out := s.out, hif := { u.hif with qps := s.hif.qps, d3 := s.hif.d3 } }))

/-- SHL_RESET_QUIRE, QSV_WATCHDOG_EXPIRY and QSV_MEMORY_ERROR (Tables 17.1, 17.2, R379, R383, R386, R434).
The model's readings and choices behind it: log entries 94, 104, 105. -/
def Obligations.QuireResetKeepsAndLoses : Prop :=
  (∀ (t tEnd : Nat) (g : BitVec 16) (m : BitVec 8) (bad : List (Fin 8)) (cals : List CalIn) (s : State), s.hostUp 0 = true →
    (g.toNat ≠ 0xB007 ∨ m = 0 ∨ s.lockdown = true ∨ s.limp = true ∨ s.flag F.SHL_BOOT_STATUS_READY = false ∨ s.fld F.PWR_STATE_CURRENT = 3) →
    Answers (.shlResetQuire t g m tEnd bad cals) s (fun u => BackTo s u)) ∧
  (∀ (t tEnd : Nat) (q : Fin 8) (bad : List (Fin 8)) (cals : List CalIn) (s : State), s.coreUp = true → s.limp = true →
    Answers (.qsvWatchdogExpiry t q tEnd bad cals) s (fun u => BackTo s u) ∧
    Answers (.qsvMemoryError t q tEnd bad cals) s (fun u => BackTo s u)) ∧
  (∀ (t tEnd : Nat) (m : BitVec 8) (q : Fin 8) (bad : List (Fin 8)) (cals : List CalIn) (i : Instr) (s : State), s.coreUp = true →
    s.limp = false → s.Canon →
    (i = .shlResetQuire t 0xB007 m tEnd bad cals ∧ s.hostUp 0 = true ∧ m ≠ 0 ∨
     (i = .qsvWatchdogExpiry t q tEnd bad cals ∨ i = .qsvMemoryError t q tEnd bad cals) ∧ m = BitVec.ofNat 8 (2 ^ q.val)) →
    Answers i s (fun u =>
      let inM := fun x : Nat => decide (x < 8) && m.toNat.testBit x
      let hit := fun n : Nat => s.adm.live.any fun i => i.folio == n && i.phase == .admitted && inM i.quire && i.doneAt.isNone &&
        i.hitEnt.isNone && i.kind != .endItem
      (∀ n, hit n = true → (s.folio n).state.live = true → (u.folio n).state = .faulted ∧
        ((u.frun n).cens.map (·.status)) = some 0x47 ∧ u.adm.live.any (fun i => i.folio == n && i.phase == .admitted) = false) ∧
      (∀ n, hit n = false → u.folio n = s.folio n ∧ u.frun n = s.frun n ∧
        (u.adm.live.filter (fun i => i.folio == n)).map (fun i => (i.id, i.phase)) =
          (s.adm.live.filter (fun i => i.folio == n)).map (fun i => (i.id, i.phase))) ∧
      u.adm.queue = s.adm.queue ∧
      u.bnd.resetting = (s.bnd.resetting.filter fun x => !inM x.1) ++ ((List.range 8).filter inM).map (fun x => (x, tEnd)) ∧
      u.bnd.cur = s.bnd.cur ∧ u.bnd.mset = s.bnd.mset ∧ u.bnd.models = s.bnd.models ∧ (u.bnd.op = none ∨ ∀ mm b, s.bnd.op ≠ some (.load mm b)) ∧
      (∀ n, u.partner n = s.partner n) ∧ (∀ c ∈ s.chain, c ∈ u.chain) ∧
      (∀ x ∈ u.eng.samples, inM x.quire = false) ∧
      BackTo s { u with free := s.free, regs := s.regs, ldg := s.ldg, adm := s.adm, ama := s.ama, eng := s.eng, ports := s.ports,
                        parts := s.parts, bnd := s.bnd, chain := s.chain, out := s.out }))

/-- PWR_STATE_REQUEST, PWR_TRANSITION_DONE, WAKE_N_LOW, THERMAL_READING, THERMAL_RESUME and THERM_TRIP_RELEASE (R439 to R445, R449, R478,
R493).
The model's readings and choices behind it: log entries 106, 107, 108, 109. -/
def Obligations.PowerTransitionsAndThermalStop : Prop :=
  (∀ (t : Nat) (tg : Fin 4) (s : State), s.hostUp 0 = true →
    Answers (.pwrStateRequest t tg) s (fun u =>
      let refused := s.limp = true ∨ s.flag F.SHL_BOOT_STATUS_READY = false ∨ 2 ≤ tg.val ∧ (s.liveCount ≠ 0 ∨ s.pendingFaults ≠ [] ∨
        s.dkl.gather ≠ .sealed ∧ s.dkl.gather ≠ .openW)
      (if s.lockdown = true then u.fld F.PWR_STATE_RESULT = 0x30 ∧ u.pwr = s.pwr ∧ u.flag F.PWR_STATE_BUSY = s.flag F.PWR_STATE_BUSY
       else if refused then u.fld F.PWR_STATE_RESULT = 0x15 ∧ u.pwr = s.pwr ∧ u.flag F.PWR_STATE_BUSY = s.flag F.PWR_STATE_BUSY
       else u.fld F.PWR_STATE_RESULT = 0 ∧ u.pwr.target = tg.val ∧ u.flag F.PWR_STATE_BUSY = (tg.val != s.fld F.PWR_STATE_CURRENT) ∧
        u.pwr.stopFrom = (if tg.val = 0 ∧ s.fld F.PWR_STATE_CURRENT = 0 then none else some (s.pwr.stopFrom.getD (u.tick + 10)))) ∧
      u.fld F.PWR_STATE_CURRENT = s.fld F.PWR_STATE_CURRENT ∧ RegsBut [R.PWR_STATE] s u ∧
      BackTo s { u with regs := s.regs, pwr := { u.pwr with target := s.pwr.target, stopFrom := s.pwr.stopFrom } })) ∧
  (∀ (t : Nat) (e : PwrIn) (s : State), s.pins.powered = true →
    let c := s.fld F.PWR_STATE_CURRENT
    let tg := s.pwr.target
    (s.lockdown = true ∨ s.flag F.PWR_STATE_BUSY = false → Answers (.pwrTransitionDone t e) s (fun u => BackTo s u)) ∧
    (s.lockdown = false → s.flag F.PWR_STATE_BUSY = true →
      (c = 0 → 0 < tg → Answers (.pwrTransitionDone t e) s (fun u =>
        if (s.adm.live.any fun i => i.phase == .admitted) = true then BackTo s u
        else u.fld F.PWR_STATE_CURRENT = 1 ∧ u.flag F.PWR_STATE_BUSY = (tg != 1) ∧ RegsBut [R.PWR_STATE] s u ∧ BackTo s { u with regs := s.regs })) ∧
      (c = 1 → 1 < tg → Answers (.pwrTransitionDone t e) s (fun u =>
        u.fld F.PWR_STATE_CURRENT = 2 ∧ u.flag F.PWR_STATE_BUSY = (tg != 2) ∧ (∀ p : Nat, p < 16 → u.portState p = 0) ∧
        (∀ n, (s.partner n).state.on = true → (s.partner n).at_.port < 16 → (u.partner n).state = .cooling ∧ (u.partner n).loss = 3) ∧
        (∀ n, (s.partner n).state.on = true → u.out.any (fun m => m.dst == (s.partner n).at_ && m.body == .detach 1) = true) ∧
        u.pwr = s.pwr ∧
        BackTo s { u with free := s.free, regs := s.regs, ldg := s.ldg, adm := s.adm, eng := s.eng, ports := s.ports, parts := s.parts,
                          chain := s.chain, out := s.out })) ∧
      (c = 2 → 2 < tg → Answers (.pwrTransitionDone t e) s (fun u =>
        (s.col.pendingSig.isSome = true → BackTo s u) ∧
        (s.col.pendingSig = none → s.flag F.COL_STATUS_KEY_OK = true ∧ 1 ≤ (lastPart0 s.chain).2 → SealOpened [] s u 2) ∧
        (s.col.pendingSig = none → ¬(s.flag F.COL_STATUS_KEY_OK = true ∧ 1 ≤ (lastPart0 s.chain).2) →
          u.fld F.PWR_STATE_CURRENT = 3 ∧ u.flag F.PWR_STATE_BUSY = (tg != 3) ∧ u.fld F.HIF_LINK_SPEED = 0 ∧ u.fld F.HIF_LINK_WIDTH = 0 ∧
          RegsBut [R.PWR_STATE, R.HIF_LINK] s u ∧ BackTo s { u with regs := s.regs }))) ∧
      (c = 3 → tg < 3 → Answers (.pwrTransitionDone t e) s (fun u =>
        u.fld F.PWR_STATE_CURRENT = 2 ∧ u.flag F.PWR_STATE_BUSY = (tg != 2) ∧ u.fld F.HIF_LINK_SPEED = e.speed.val ∧
        u.fld F.HIF_LINK_WIDTH = e.width.val ∧ u.pwr = { s.pwr with waking := true } ∧
        (let i := if s.flag F.EPD_STATE_BANK = true then s.epd.bank1 else s.epd.bank0
         u.fld F.EPD_STATE_QSV_HELD = if i.qsvTag = i.bundleTag then 0 else 0xFF) ∧
        RegsBut [R.PWR_STATE, R.HIF_LINK, R.EPD_STATE] s u ∧ BackTo s { u with regs := s.regs, pwr := s.pwr })) ∧
      (c = 2 → tg < 2 → s.Canon → s.parts = State.reset.parts → Answers (.pwrTransitionDone t e) s (fun u =>
        u.fld F.PWR_STATE_CURRENT = 1 ∧ u.flag F.PWR_STATE_BUSY = (tg != 1) ∧ PortsTrained s u ∧
        RegsBut (R.PWR_STATE :: trainRegs) s u ∧ BackTo s { u with regs := s.regs, ports := s.ports })) ∧
      (c = 1 → tg < 1 → Answers (.pwrTransitionDone t e) s (fun u =>
        u.fld F.PWR_STATE_CURRENT = 0 ∧ u.flag F.PWR_STATE_BUSY = false ∧ u.pwr = { s.pwr with stopFrom := none, waking := false } ∧
        (∀ q t : Nat, q < 8 → t < 32 → (u.tile q t).calibrating = false) ∧
        (s.pwr.waking = true → u.dkl.gather = .openW ∧ u.dkl.openFrom = u.tick ∧ u.dkl.beginAt = none ∧ u.pvc = Pvc.empty ∧
          u.bnd.cur = s.bnd.cur ∧ (∀ b, s.bnd.cur = some b → u.bnd.models = (List.range 8).map (buildModel b s.bnd.cat s.bnd.mset))) ∧
        (s.pwr.waking = false → u.dkl = s.dkl ∧ u.pvc = s.pvc ∧ u.bnd = s.bnd ∧ u.ama = s.ama) ∧
        BackTo s { u with regs := s.regs, dkl := s.dkl, adm := s.adm, pvc := s.pvc, ama := s.ama, eng := s.eng, bnd := s.bnd, pwr := s.pwr })))) ∧
  (∀ (t ns hottest : Nat) (s : State), s.pins.powered = true → hottest < 256 →
    Answers (.wakeNLow t ns) s (fun u =>
      if 1000 ≤ ns ∧ s.fld F.PWR_STATE_CURRENT = 3 then
        u.pwr = { s.pwr with target := 0 } ∧ u.flag F.PWR_STATE_BUSY = true ∧ u.fld F.PWR_STATE_CURRENT = 3 ∧ RegsBut [R.PWR_STATE] s u ∧
        BackTo s { u with regs := s.regs, pwr := s.pwr }
      else BackTo s u) ∧
    Answers (.thermTripRelease t ns (BitVec.ofNat 8 hottest)) s (fun u =>
      u.pins = (if 10000000 ≤ ns ∧ hottest ≤ 115 then { s.pins with tripLow := false } else s.pins) ∧ BackTo s { u with pins := s.pins })) ∧
  (∀ (t : Nat) (tj : BitVec 8) (k : Fin 40) (s : State), s.liveUp = true →
    Answers (.thermalReading t tj k) s (fun u =>
      let x := tj.toNat
      let stop := s.fld F.PWR_THERM_LIMIT_STOP ≤ x ∧ s.flag F.PWR_STATE_THERM_STOP = false
      u.fld F.PWR_THERM_TJ = x ∧ u.fld F.PWR_THERM_SENSOR = k.val ∧
      u.pwr = { s.pwr with coolFrom := (if x ≤ s.fld F.PWR_THERM_LIMIT_RESUME then some (s.pwr.coolFrom.getD u.now) else none)
                           thermFrom := (if stop then some (u.tick + 10) else s.pwr.thermFrom) } ∧
      u.flag F.PWR_STATUS_WARN_SEEN = (s.flag F.PWR_STATUS_WARN_SEEN || decide (s.fld F.PWR_THERM_LIMIT_WARN ≤ x)) ∧
      u.flag F.PWR_STATUS_STOP_SEEN = (s.flag F.PWR_STATUS_STOP_SEEN || decide stop) ∧
      u.flag F.PWR_STATE_THERM_STOP = (s.flag F.PWR_STATE_THERM_STOP || decide stop) ∧
      (if stop then (if s.flag F.HIF_I3C_STATUS_IBI_EN = true then u.hif.ibis = { tick := u.tick, cause := 2, value := x } :: s.hif.ibis
          else ∃ v, (2, v) ∈ u.hif.ibiPend)
       else u.hif.ibis = s.hif.ibis ∧ u.hif.ibiPend = s.hif.ibiPend) ∧
      u.fld F.PWR_STATE_CURRENT = s.fld F.PWR_STATE_CURRENT ∧ RegsBut [R.PWR_THERM, R.PWR_STATUS, R.PWR_STATE] s u ∧
      BackTo s { u with regs := s.regs, pwr := s.pwr, hif := { u.hif with ibis := s.hif.ibis, ibiPend := s.hif.ibiPend } })) ∧
  (∀ (t : Nat) (cals : List CalIn) (s : State), s.liveUp = true →
    Answers (.thermalResume t cals) s (fun u =>
      (∀ x, s.pwr.coolFrom = some x → s.flag F.PWR_STATE_THERM_STOP = true → x + 10000000 ≤ u.now →
        u.pwr = { s.pwr with thermFrom := none } ∧
        (s.fld F.PWR_STATE_CURRENT ≠ 0 → u.flag F.PWR_STATE_THERM_STOP = false ∧ RegsBut [R.PWR_STATE] s u ∧ u.eng = s.eng ∧ u.adm = s.adm) ∧
        (s.fld F.PWR_STATE_CURRENT = 0 → s.lockdown = false → s.limp = false →
          ∀ q t : Nat, q < 8 → t < 32 → (u.tile q t).calibrating = false) ∧
        BackTo s { u with regs := s.regs, adm := s.adm, eng := s.eng, pwr := s.pwr }) ∧
      (s.pwr.coolFrom = none ∨ s.flag F.PWR_STATE_THERM_STOP = false ∨ (∃ x, s.pwr.coolFrom = some x ∧ u.now < x + 10000000) → BackTo s u)))

/-- TAMPER_EVENT, LOCKDOWN_ENTRY, SEC_PROV_BEGIN, SEC_PROV_COMMIT and SEC_PROV_ABORT (Tables 17.6, 17.7, R446 to R453, R478, R491).
The model's readings and choices behind it: log entries 110, 111, 112, 113, 114, 100. -/
def Obligations.TamperLeadsToLockdown : Prop :=
  (∀ (t : Nat) (code : BitVec 8) (active : Bool) (s : State), s.pins.powered = true →
    let c := code.toNat
    let isA := 1 ≤ c ∧ c ≤ 4
    let isB := 0x10 ≤ c ∧ c ≤ 0x13
    let bit := if c < 0x10 then c - 1 else c - 12
    let armed := isA ∨ isB ∧ s.fld F.SHL_BOOT_STATUS_STEP ≠ 0 ∧ s.pins.resetLow = false ∧ s.pins.perstLow = false
    (¬armed → Answers (.tamperEvent t code active) s (fun u => BackTo s u)) ∧
    (armed → active = false → Answers (.tamperEvent t code active) s (fun u =>
      (∀ k : Nat, k < 8 → (u.fld F.SEC_TAMPER_ACTIVE).testBit k = ((s.fld F.SEC_TAMPER_ACTIVE).testBit k && k != bit)) ∧
      RegsBut [R.SEC_TAMPER] s u ∧ BackTo s { u with regs := s.regs })) ∧
    (armed → active = true → Answers (.tamperEvent t code active) s (fun u =>
      let first := s.fld F.SEC_STATE_LOCK_CODE = 0
      (∀ k : Nat, k < 8 → (u.fld F.SEC_TAMPER_ACTIVE).testBit k = ((s.fld F.SEC_TAMPER_ACTIVE).testBit k || k == bit)) ∧
      u.fld F.SEC_STATE_LOCK_CODE = (if first then c else s.fld F.SEC_STATE_LOCK_CODE) ∧
      u.sec.tick = (if first then u.tick else s.sec.tick) ∧
      u.nvm = (if isA then s.nvm.kill else s.nvm) ∧ (isA → u.flag F.SEC_STATE_KILLED = true) ∧
      u.sec.key = none ∧ u.sec.newKey = none ∧ u.flag F.SEC_STATE_KEY_LOADED = false ∧
      (s.sec.key.isSome = true → u.flag F.COL_STATUS_KEY_OK = false ∧ u.flag F.COL_STATUS_SEAL_PENDING = false ∧
        u.flag F.COL_STATUS_UNSEALED_SEEN = true ∧ u.col.pendingSig = none ∧ u.col.unsealedFirst = s.col.lastSeal + 1) ∧
      (s.sec.key = none → u.col = s.col ∧ u.rd R.COL_STATUS = s.rd R.COL_STATUS) ∧
      (s.lockdown = false → s.fld F.SHL_BOOT_STATUS_STEP ≠ 0 → s.sec.newKey = none →
        if s.flag F.SHL_BOOT_STATUS_HALTED = true then
          u.fld F.SEC_STATE_MODE = 1 ∧ u.fld F.SHL_BOOT_STATUS_REASON = 5 ∧ u.sec.tamper = s.sec.tamper
        else if s.fld F.PWR_STATE_CURRENT = 3 then
          u.fld F.SEC_STATE_MODE = 1 ∧ u.fld F.PWR_STATE_CURRENT = 0 ∧ u.flag F.PWR_STATE_BUSY = false ∧ u.sec.tamper = s.sec.tamper
        else
          u.sec.tamper = true ∧ u.fld F.SEC_STATE_MODE = 0 ∧
          (s.sec.tamper = true → u.sec.lockAt = s.sec.lockAt) ∧
          (s.sec.tamper = false → u.tick + 10 ≤ u.sec.lockAt ∧ (∀ i ∈ s.adm.live, i.phase = .admitted → i.tRel + 10 ≤ u.sec.lockAt) ∧
            (u.sec.lockAt = u.tick + 10 ∨ ∃ i ∈ s.adm.live, i.phase = .admitted ∧ u.sec.lockAt = i.tRel + 10))) ∧
      (first → s.flag F.HIF_I3C_STATUS_IBI_EN = true → u.hif.ibis = { tick := u.tick, cause := 1, value := c } :: s.hif.ibis) ∧
      RegsBut ([R.SEC_TAMPER, R.SEC_STATE, R.COL_STATUS, R.SHL_BOOT_STATUS, R.PWR_STATE] ++ logRegs s) s u ∧
      BackTo s { u with regs := s.regs, nvm := s.nvm, sec := s.sec, col := s.col,
                        hif := { u.hif with ibis := s.hif.ibis, ibiPend := s.hif.ibiPend } }))) ∧
  (∀ (t : Nat) (s : State), s.pins.powered = true → s.Canon →
    Answers (.lockdownEntry t) s (fun u =>
      if s.sec.tamper = true ∧ s.lockdown = false ∧ s.sec.lockAt ≤ u.tick then
        u.fld F.SEC_STATE_MODE = 1 ∧ (∀ p : Nat, p < 16 → u.portState p = 0) ∧ (∀ n, (u.folio n).state.live = false) ∧
        (∀ n, (s.folio n).state.live = true → (u.folio n).state = .orphaned ∧ (u.folio n).gen = ((s.folio n).gen + 1) % 256) ∧
        (∀ n, (s.folio n).state.live = false → u.folio n = s.folio n) ∧
        (∀ n, (s.partner n).state.on = true → (s.partner n).at_.port < 16 → (u.partner n).state = .cooling ∧ (u.partner n).loss = 3) ∧
        u.pwr.target = s.fld F.PWR_STATE_CURRENT ∧ u.flag F.PWR_STATE_BUSY = false ∧ (∀ c ∈ s.chain, c ∈ u.chain) ∧
        BackTo s { u with free := s.free, regs := s.regs, ldg := s.ldg, adm := s.adm, eng := s.eng, ports := s.ports, parts := s.parts,
                          pwr := s.pwr, chain := s.chain, out := s.out }
      else BackTo s u)) ∧
  (∀ (t : Nat) (draw : BitVec 512) (att nonce : Bytes) (bad : NvmBad) (s : State), s.hostUp 0 = true →
    let ok := s.lockdown = true ∧ (s.fld F.SEC_STATE_LOCK_CODE = 0x80 ∨ s.fld F.SEC_STATE_LOCK_CODE = 0x81 ∨
      s.fld F.SEC_STATE_LOCK_CODE = 0x82) ∧ s.fld F.SEC_TAMPER_ACTIVE = 0
    (¬ok → ∀ i, (i = .secProvBegin t draw att ∨ i = .secProvCommit t nonce bad ∨ i = .secProvAbort t) → Answers i s (fun u =>
      u.fld F.SEC_PROV_RESULT_STATUS = 0x15 ∧ u.flag F.SEC_PROV_RESULT_BUSY = false ∧ RegsBut [R.SEC_PROV_RESULT] s u ∧
      BackTo s { u with regs := s.regs })) ∧
    (ok → Answers (.secProvBegin t draw att) s (fun u =>
      let d := draw.toNat % (p384n - 1) + 1
      u.fld F.SEC_PROV_RESULT_STATUS = 0 ∧ u.flag F.SEC_PROV_RESULT_BUSY = false ∧ u.fld F.SEC_STATE_MODE = 2 ∧
      u.sec = { s.sec with newKey := some (d, pubOf d, s.nvm.nextEpoch) } ∧ 1 ≤ d ∧ d < p384n ∧
      (∀ k < 32, u.rd (R.SEC_PROV_REQ k) = wordOfBytes k (endorseReq s.nvm.nextEpoch (pubOf d))) ∧
      (∀ k < 24, u.rd (R.SEC_PROV_ATTEST k) = wordOfBytes k (padTo 96 att)) ∧
      RegsBut ([R.SEC_PROV_RESULT, R.SEC_STATE] ++ (List.range 32).map R.SEC_PROV_REQ ++ (List.range 24).map R.SEC_PROV_ATTEST) s u ∧
      BackTo s { u with regs := s.regs, sec := s.sec })) ∧
    (ok → Answers (.secProvAbort t) s (fun u =>
      u.fld F.SEC_PROV_RESULT_STATUS = 0 ∧ u.flag F.SEC_PROV_RESULT_BUSY = false ∧ u.fld F.SEC_STATE_MODE = 1 ∧
      u.sec = { s.sec with newKey := none } ∧ RegsBut [R.SEC_PROV_RESULT, R.SEC_STATE] s u ∧ BackTo s { u with regs := s.regs, sec := s.sec })) ∧
    (ok → s.sec.newKey = none → Answers (.secProvCommit t nonce bad) s (fun u =>
      u.fld F.SEC_PROV_RESULT_STATUS = 0x15 ∧ u.flag F.SEC_PROV_RESULT_BUSY = false ∧ RegsBut [R.SEC_PROV_RESULT] s u ∧
      BackTo s { u with regs := s.regs })) ∧
    (ok → s.Canon → ∀ d pub epoch, s.sec.newKey = some (d, pub, epoch) →
      Answers (.secProvCommit t nonce bad) s (fun u =>
        let en := endorseReq epoch pub ++ s.provSig ++ zeros 32
        let r := newKeyRec s.nvm.nextKeySeq nonce { scalar := d, pub := pub, epoch := epoch, endorse := en }
        (if endorseOk en pub = false ∨ s.nvm.readOnly = true ∨ s.nvm.spares = 0 then
          u.fld F.SEC_PROV_RESULT_STATUS = (if endorseOk en pub = false then 0x16 else 0x18) ∧ u.nvm = s.nvm ∧ u.sec = s.sec
         else
          bad = { blocks := [], pages := [] } → Sparse.get (fun _ => 0) s.nvm.erases 344 < 10000 →
          Sparse.get (fun _ => 0) s.nvm.erases 345 < 10000 → r.length ≤ 65536 →
            u.fld F.SEC_PROV_RESULT_STATUS = 0 ∧ u.fld F.SEC_STATE_MODE = 1 ∧ u.sec = { s.sec with newKey := none } ∧
            (∀ b, b = 344 ∨ b = 345 → (∀ p ∈ asPages (256 * b) r, u.nvm.page p.1 = padTo 256 p.2) ∧
              ∀ k < 256, r.length ≤ 256 * k → u.nvm.page (256 * b + k) = blankPage (256 * b + k))) ∧
        u.flag F.SEC_PROV_RESULT_BUSY = false ∧ (∀ p, p / 256 ≠ 344 → p / 256 ≠ 345 → u.nvm.page p = s.nvm.page p) ∧
        RegsBut [R.SEC_PROV_RESULT, R.SEC_STATE, R.NVM_STATUS] s u ∧
        BackTo s { u with free := s.free, regs := s.regs, nvm := s.nvm, sec := s.sec })))

/-- WIN_ENABLE, WIN_DISABLE, WIN_DRAINED, FUNCTION_D_STATE_CHANGE and VF_FLR (R456, R461, R463, R480).
The model's readings and choices behind it: log entry 121. -/
def Obligations.WindowsAndFunctionReset : Prop :=
  (∀ (t : Nat) (fn : Fin 32) (w : Fin 64) (v : BitVec 32) (busy : Bool) (s : State), s.hostUp fn.val = true →
    let k := w.val
    let isOpen := s.flag (F.HIF_WIN_CTRL_ENABLE k) = false ∧ s.flag (F.HIF_WIN_CTRL_BUSY k) = false
    let config := fun u : State =>
      u.flag (F.HIF_WIN_CTRL_DEV_READ k) = (if isOpen then v.getLsbD 1 else s.flag (F.HIF_WIN_CTRL_DEV_READ k)) ∧
      u.flag (F.HIF_WIN_CTRL_DEV_WRITE k) = (if isOpen then v.getLsbD 2 else s.flag (F.HIF_WIN_CTRL_DEV_WRITE k)) ∧
      u.fld (F.HIF_WIN_CTRL_OWNER k) = (if isOpen ∧ fn = 0 then v.toNat / 256 % 32 else s.fld (F.HIF_WIN_CTRL_OWNER k)) ∧
      RegsBut [R.HIF_WIN_CTRL k] s u ∧ BackTo s { u with regs := s.regs }
    (fn ≠ 0 → s.fld (F.HIF_WIN_CTRL_OWNER k) ≠ fn.val →
      Answers (.winEnable t fn w v) s (fun u => BackTo s u) ∧ Answers (.winDisable t fn w v busy) s (fun u => BackTo s u)) ∧
    (fn = 0 ∨ s.fld (F.HIF_WIN_CTRL_OWNER k) = fn.val →
      Answers (.winEnable t fn w v) s (fun u =>
        u.flag (F.HIF_WIN_CTRL_ENABLE k) = (s.flag (F.HIF_WIN_CTRL_ENABLE k) ||
          !s.flag (F.HIF_WIN_CTRL_BUSY k) && decide (s.winSize k ≠ 0 ∧ s.winBase k + s.winSize k ≤ 2 ^ 64)) ∧
        u.flag (F.HIF_WIN_CTRL_BUSY k) = s.flag (F.HIF_WIN_CTRL_BUSY k) ∧ config u) ∧
      Answers (.winDisable t fn w v busy) s (fun u =>
        u.flag (F.HIF_WIN_CTRL_ENABLE k) = false ∧
        u.flag (F.HIF_WIN_CTRL_BUSY k) = (if s.flag (F.HIF_WIN_CTRL_ENABLE k) = true then busy else s.flag (F.HIF_WIN_CTRL_BUSY k)) ∧
        config u))) ∧
  (∀ (t : Nat) (w : Fin 64) (fn : Fin 32) (d3 : Bool) (s : State), s.hostLink = true →
    Answers (.winDrained t w) s (fun u =>
      if s.flag (F.HIF_WIN_CTRL_ENABLE w.val) = true then BackTo s u
      else u.flag (F.HIF_WIN_CTRL_BUSY w.val) = false ∧ u.fld (F.HIF_WIN_CTRL_OWNER w.val) = s.fld (F.HIF_WIN_CTRL_OWNER w.val) ∧
        u.flag (F.HIF_WIN_CTRL_ENABLE w.val) = false ∧ RegsBut [R.HIF_WIN_CTRL w.val] s u ∧ BackTo s { u with regs := s.regs }) ∧
    Answers (.functionDStateChange t fn d3) s (fun u =>
      u.hif.d3.contains fn.val = d3 ∧ (∀ f : Nat, f ≠ fn.val → u.hif.d3.contains f = s.hif.d3.contains f) ∧
      BackTo s { u with hif := { u.hif with d3 := s.hif.d3 } })) ∧
  (∀ (t : Nat) (vf : Fin 32) (busy : List Nat) (s : State), s.hostLink = true → vf ≠ 0 → s.Canon →
    Answers (.vfFlr t vf busy) s (fun u =>
      (∀ q : Nat, q < 64 → if s.fld (F.HIF_QP_CTRL_OWNER q) = vf.val then
          u.flag (F.HIF_QP_CTRL_ENABLE q) = false ∧ u.flag (F.HIF_QP_STATUS_ACTIVE q) = false ∧ u.qp q = { s.qp q with running := none, posts := [] } ∧
          u.fld (F.HIF_QP_CTRL_OWNER q) = vf.val
        else u.rd (R.HIF_QP_CTRL q) = s.rd (R.HIF_QP_CTRL q) ∧ u.rd (R.HIF_QP_STATUS q) = s.rd (R.HIF_QP_STATUS q) ∧ u.qp q = s.qp q) ∧
      (∀ w : Nat, w < 64 → if s.fld (F.HIF_WIN_CTRL_OWNER w) = vf.val ∧ s.flag (F.HIF_WIN_CTRL_ENABLE w) = true then
          u.flag (F.HIF_WIN_CTRL_ENABLE w) = false ∧ u.flag (F.HIF_WIN_CTRL_BUSY w) = busy.contains w ∧
          u.fld (F.HIF_WIN_CTRL_OWNER w) = vf.val
        else u.rd (R.HIF_WIN_CTRL w) = s.rd (R.HIF_WIN_CTRL w)) ∧
      (∀ k : Nat, k ≠ 0 → u.msixEnt k = if k / 1024 = vf.val then MsixEnt.reset else s.msixEnt k) ∧
      (∀ x, x.1 ≠ 0 → (x ∈ u.hif.modHeld ↔ x ∈ s.hif.modHeld ∧ x.1 / 1024 ≠ vf.val)) ∧
      u.hif.d3 = s.hif.d3.filter (· != vf.val) ∧
      RegsBut ((List.range 64).flatMap fun k => [R.HIF_QP_CTRL k, R.HIF_QP_STATUS k, R.HIF_WIN_CTRL k]) s u ∧
      BackTo s { u with regs := s.regs, hif := { u.hif with qps := s.hif.qps, d3 := s.hif.d3 } }))

/-- QP_ENABLE, QP_DISABLE, QP_SQ_TAIL_WRITE and QP_CQ_HEAD_WRITE (R461, R464, R466, R467, R470, R471).
The model's readings and choices behind it: log entries 118, 119. -/
def Obligations.QueuePairEnableDisableDoorbells : Prop :=
  (∀ (t : Nat) (fn : Fin 32) (q : Fin 64) (v : BitVec 32) (i : Instr) (s : State), s.hostUp fn.val = true → fn ≠ 0 →
    s.fld (F.HIF_QP_CTRL_OWNER q.val) ≠ fn.val →
    (i = .qpEnable t fn q v ∨ i = .qpDisable t fn q v ∨ i = .qpSqTailWrite t fn q v ∨ i = .qpCqHeadWrite t fn q v) →
    Answers i s (fun u => BackTo s u)) ∧
  (∀ (t : Nat) (fn : Fin 32) (q : Fin 64) (v : BitVec 32) (s : State), s.hostUp fn.val = true →
    (fn = 0 ∨ s.fld (F.HIF_QP_CTRL_OWNER q.val) = fn.val) →
    let k := q.val
    let x := v.toNat
    let isOn := s.flag (F.HIF_QP_CTRL_ENABLE k) = true
    let config := fun u : State =>
      u.flag (F.HIF_QP_CTRL_IRQ_EN k) = v.getLsbD 1 ∧
      u.fld (F.HIF_QP_CTRL_WINDOW k) = (if isOn then s.fld (F.HIF_QP_CTRL_WINDOW k) else x / 2 ^ 8 % 64) ∧
      u.fld (F.HIF_QP_CTRL_OWNER k) = (if isOn ∨ fn ≠ 0 then s.fld (F.HIF_QP_CTRL_OWNER k) else x / 2 ^ 16 % 32) ∧
      u.fld (F.HIF_QP_CTRL_SQ_LOG2 k) = (if isOn then s.fld (F.HIF_QP_CTRL_SQ_LOG2 k) else x / 2 ^ 24 % 16) ∧
      u.fld (F.HIF_QP_CTRL_CQ_LOG2 k) = (if isOn then s.fld (F.HIF_QP_CTRL_CQ_LOG2 k) else x / 2 ^ 28 % 16)
    (isOn → Answers (.qpEnable t fn q v) s (fun u =>
      config u ∧ u.flag (F.HIF_QP_CTRL_ENABLE k) = true ∧ RegsBut [R.HIF_QP_CTRL k] s u ∧ BackTo s { u with regs := s.regs })) ∧
    (¬isOn → Answers (.qpEnable t fn q v) s (fun u =>
      let o := u.fld (F.HIF_QP_CTRL_OWNER k)
      let w := u.fld (F.HIF_QP_CTRL_WINDOW k)
      let sl := u.fld (F.HIF_QP_CTRL_SQ_LOG2 k)
      let cl := u.fld (F.HIF_QP_CTRL_CQ_LOG2 k)
      let sb := s.rd64 (R.HIF_QP_SQ_BASE_LO k) (R.HIF_QP_SQ_BASE_HI k)
      let cb := s.rd64 (R.HIF_QP_CQ_BASE_LO k) (R.HIF_QP_CQ_BASE_HI k)
      let good := 4 ≤ sl ∧ sl ≤ 12 ∧ 4 ≤ cl ∧ cl ≤ 12 ∧ sl ≤ cl ∧ s.fld (F.HIF_QP_VECTOR_VECTOR k) < (if o = 0 then 1024 else 32) ∧
        s.winPermits w o false = true ∧ s.winPermits w o true = true ∧ sb % 64 = 0 ∧ cb % 16 = 0
      let a := s.dmaStatus w o false sb (64 * 2 ^ sl)
      let st := if good then (if a ≠ 0 then a else s.dmaStatus w o true cb (16 * 2 ^ cl)) else 0x15
      config u ∧ u.fld (F.HIF_QP_STATUS_RESULT k) = st ∧
      (if st = 0 then
        u.flag (F.HIF_QP_CTRL_ENABLE k) = true ∧ u.flag (F.HIF_QP_STATUS_ACTIVE k) = true ∧ u.flag (F.HIF_QP_STATUS_ERROR k) = false ∧
        u.fld (F.HIF_QP_STATUS_SQ_HEAD k) = 0 ∧ u.rd (R.HIF_QP_SQ_TAIL k) = 0 ∧ u.rd (R.HIF_QP_CQ_HEAD k) = 0 ∧
        u.qp k = { sqHead := 0, sqTail := 0, cqHead := 0, cqTail := 0, phase := true, running := none, posts := [] }
       else
        u.flag (F.HIF_QP_CTRL_ENABLE k) = false ∧ u.qp k = s.qp k ∧ u.flag (F.HIF_QP_STATUS_ACTIVE k) = s.flag (F.HIF_QP_STATUS_ACTIVE k) ∧
        u.rd (R.HIF_QP_SQ_TAIL k) = s.rd (R.HIF_QP_SQ_TAIL k) ∧ u.rd (R.HIF_QP_CQ_HEAD k) = s.rd (R.HIF_QP_CQ_HEAD k)) ∧
      (∀ j, j ≠ k → u.qp j = s.qp j) ∧
      RegsBut ([R.HIF_QP_CTRL k, R.HIF_QP_STATUS k, R.HIF_QP_SQ_TAIL k, R.HIF_QP_CQ_HEAD k] ++ dmaRegs) s u ∧
      BackTo s { u with regs := s.regs, hif := { u.hif with qps := s.hif.qps, faultHi := s.hif.faultHi } })) ∧
    Answers (.qpDisable t fn q v) s (fun u =>
      config u ∧ u.flag (F.HIF_QP_CTRL_ENABLE k) = false ∧ u.qp k = { s.qp k with posts := [] } ∧ (∀ j, j ≠ k → u.qp j = s.qp j) ∧
      u.flag (F.HIF_QP_STATUS_ACTIVE k) = (if (s.qp k).running = none then false else s.flag (F.HIF_QP_STATUS_ACTIVE k)) ∧
      RegsBut [R.HIF_QP_CTRL k, R.HIF_QP_STATUS k] s u ∧ BackTo s { u with regs := s.regs, hif := { u.hif with qps := s.hif.qps } })) ∧
  (∀ (t : Nat) (fn : Fin 32) (q : Fin 64) (v : BitVec 32) (s : State), s.hostUp fn.val = true →
    (fn = 0 ∨ s.fld (F.HIF_QP_CTRL_OWNER q.val) = fn.val) →
    let k := q.val
    let x := v.toNat % 2 ^ 16
    let stopped := fun u : State =>
      u.flag (F.HIF_QP_STATUS_ACTIVE k) = false ∧ u.flag (F.HIF_QP_STATUS_ERROR k) = true ∧ u.flag F.HIF_STATUS_QP_ERR_SEEN = true ∧
      RegsBut [R.HIF_QP_STATUS k, R.HIF_STATUS] s u ∧ BackTo s { u with regs := s.regs }
    (s.flag (F.HIF_QP_CTRL_ENABLE k) = false →
      Answers (.qpSqTailWrite t fn q v) s (fun u => BackTo s u) ∧ Answers (.qpCqHeadWrite t fn q v) s (fun u => BackTo s u)) ∧
    (s.flag (F.HIF_QP_CTRL_ENABLE k) = true → Answers (.qpSqTailWrite t fn q v) s (fun u =>
      if x < 2 ^ s.fld (F.HIF_QP_CTRL_SQ_LOG2 k) then
        u.qp k = { s.qp k with sqTail := x } ∧ (∀ j, j ≠ k → u.qp j = s.qp j) ∧ u.rd (R.HIF_QP_SQ_TAIL k) = x ∧
        RegsBut [R.HIF_QP_SQ_TAIL k] s u ∧ BackTo s { u with regs := s.regs, hif := { u.hif with qps := s.hif.qps } }
      else stopped u)) ∧
    (s.flag (F.HIF_QP_CTRL_ENABLE k) = true → (s.qp k).posts = [] ∨ 2 ^ s.fld (F.HIF_QP_CTRL_CQ_LOG2 k) ≤ x →
      Answers (.qpCqHeadWrite t fn q v) s (fun u =>
        if x < 2 ^ s.fld (F.HIF_QP_CTRL_CQ_LOG2 k) then
          u.qp k = { s.qp k with cqHead := x } ∧ (∀ j, j ≠ k → u.qp j = s.qp j) ∧ u.rd (R.HIF_QP_CQ_HEAD k) = x ∧
          RegsBut [R.HIF_QP_CQ_HEAD k] s u ∧ BackTo s { u with regs := s.regs, hif := { u.hif with qps := s.hif.qps } }
        else stopped u)) ∧
    (s.flag (F.HIF_QP_CTRL_ENABLE k) = true → s.flag (F.HIF_QP_STATUS_ACTIVE k) = true → x < 2 ^ s.fld (F.HIF_QP_CTRL_CQ_LOG2 k) →
      ∀ b, (s.qp k).posts = [b] → ((s.qp k).cqTail + 1) % 2 ^ s.fld (F.HIF_QP_CTRL_CQ_LOG2 k) ≠ x →
      s.dmaStatus (s.fld (F.HIF_QP_CTRL_WINDOW k)) (s.fld (F.HIF_QP_CTRL_OWNER k)) true
        (s.rd64 (R.HIF_QP_CQ_BASE_LO k) (R.HIF_QP_CQ_BASE_HI k) + 16 * (s.qp k).cqTail) 16 = 0 →
      Answers (.qpCqHeadWrite t fn q v) s (fun u =>
        let tail := ((s.qp k).cqTail + 1) % 2 ^ s.fld (F.HIF_QP_CTRL_CQ_LOG2 k)
        u.qp k = { s.qp k with cqHead := x, cqTail := tail, posts := [], phase := (if tail = 0 then !(s.qp k).phase else (s.qp k).phase) } ∧
        u.dma.map (·.off) = (s.rd64 (R.HIF_QP_CQ_BASE_LO k) (R.HIF_QP_CQ_BASE_HI k) + 16 * (s.qp k).cqTail) :: s.dma.map (·.off) ∧
        u.dma.tail = s.dma ∧ u.rd (R.HIF_QP_CQ_HEAD k) = x ∧ RegsBut [R.HIF_QP_CQ_HEAD k] s u ∧
        BackTo s { u with regs := s.regs, dma := s.dma, hif := { u.hif with qps := s.hif.qps } })))

/-- QP_NOP, QP_FOLIO_CANCEL, QP_FOLIO_RELEASE, QP_FOLIO_READ, QP_CENSUS_READ and QP_CENSUS_RETRY (Tables 18.6 to 18.8, R462, R464, R465,
R468 to R470).
The model's readings and choices behind it: log entries 116, 117, 120, 112. -/
def Obligations.QueueCommandsComplete : Prop :=
  (∀ (t op : Nat) (q : Fin 64) (inp : DmaIn) (s : State), s.hostLink = true →
    let k := q.val
    let p := s.qp k
    let off := s.rd64 (R.HIF_QP_SQ_BASE_LO k) (R.HIF_QP_SQ_BASE_HI k) + 64 * p.sqHead
    let st := s.dmaStatus (s.fld (F.HIF_QP_CTRL_WINDOW k)) (s.fld (F.HIF_QP_CTRL_OWNER k)) false off 64
    let ready := s.flag (F.HIF_QP_CTRL_ENABLE k) = true ∧ s.flag (F.HIF_QP_STATUS_ACTIVE k) = true ∧ p.sqHead ≠ p.sqTail ∧
      p.running = none ∧ p.posts = []
    (¬ready → Answers (queueCmd t q inp op) s (fun u => BackTo s u)) ∧
    (ready → st ≠ 0 → Answers (queueCmd t q inp op) s (fun u => RegsBut dmaRegs s u ∧ u.hif.qps = s.hif.qps ∧
      BackTo s { u with regs := s.regs, hif := { u.hif with faultHi := s.hif.faultHi } })) ∧
    (ready → st = 0 → inp = .error → Answers (queueCmd t q inp op) s (fun u => u.flag F.HIF_STATUS_DMA_ERR_SEEN = true ∧
      RegsBut [R.HIF_STATUS] s u ∧ BackTo s { u with regs := s.regs })) ∧
    (ready → st = 0 → ∀ bs, inp = .ok bs →
      let e := padTo 64 bs
      let cid := fieldAt 2 2 e
      let n := fieldAt 8 2 e
      let h : Handle := { folio := BitVec.ofNat 16 n, gen := BitVec.ofNat 8 (fieldAt 0xA 1 e) }
      let o := fieldAt 0x10 8 e
      let fo := h.idx
      let rsvd := fieldAt 1 1 e ≠ 0 ∨ fieldAt 4 4 e ≠ 0 ∨ fieldAt 0xB 1 e ≠ 0 ∨ fieldAt 0xC 4 e ≠ 0 ∨
        (slice 0x18 40 e).all (· == 0) = false ∨ (op ≠ 3 ∧ op ≠ 4 ∧ o ≠ 0)
      (fieldAt 0 1 e = op → 6 ≤ op ∨ rsvd → Answers (queueCmd t q inp op) s (fun u => Completed s u k cid 0x14 0 [] ∧ QueueOnly [] s u k ∧
        BackTo s { u with regs := s.regs, dma := s.dma, hif := { u.hif with qps := s.hif.qps, faultHi := s.hif.faultHi } })) ∧
      (fieldAt 0 1 e = 0 → ¬rsvd → Answers (.qpNop t q inp) s (fun u => op = 0 → Completed s u k cid 0 0 [] ∧ QueueOnly [] s u k ∧
        BackTo s { u with regs := s.regs, dma := s.dma, hif := { u.hif with qps := s.hif.qps, faultHi := s.hif.faultHi } })) ∧
      (fieldAt 0 1 e = op → 1 ≤ op → op ≤ 5 → ¬rsvd → (op ≠ 3 ∧ op ≠ 4) → s.notOurs k fo ∨ s.lockdown = true →
        Answers (queueCmd t q inp op) s (fun u => Completed s u k cid (if s.notOurs k fo then 0x15 else 0x30) 0 [] ∧ QueueOnly [] s u k ∧
        BackTo s { u with regs := s.regs, dma := s.dma, hif := { u.hif with qps := s.hif.qps, faultHi := s.hif.faultHi } })) ∧
      (fieldAt 0 1 e = 1 → op = 1 → ¬rsvd → ¬s.notOurs k fo → s.lockdown = false → Answers (.qpFolioCancel t q inp) s (fun u =>
        (s.cancelRefuse h = none →
          u.ldg.cancels = s.ldg.cancels ++ [{ folio := h.idx, gen := h.gen.toNat, at_ := u.now, by_ := .queue k cid }] ∧
          u.qp k = { p with sqHead := (p.sqHead + 1) % 2 ^ s.fld (F.HIF_QP_CTRL_SQ_LOG2 k), running := some cid } ∧
          (∀ j, j ≠ k → u.qp j = s.qp j) ∧ u.dma = s.dma) ∧
        (∀ c, s.cancelRefuse h = some c → Completed s u k cid (c % 256) (if c = 0 then (s.folio fo).tCack else if c = 0x21 then (s.cancelEcho h).2 else 0)
          [] ∧ u.ldg = s.ldg) ∧
        QueueOnly [] s u k ∧
        BackTo s { u with regs := s.regs, dma := s.dma, ldg := { u.ldg with cancels := s.ldg.cancels },
                          hif := { u.hif with qps := s.hif.qps, faultHi := s.hif.faultHi } })) ∧
      (fieldAt 0 1 e = 2 → op = 2 → ¬rsvd → ¬s.notOurs k fo → s.lockdown = false → Answers (.qpFolioRelease t q inp) s (fun u =>
        let f := s.folio fo
        let c := if s.genOk h = false then 0x21 else if f.state = .cancelled ∨ f.state = .done ∨ f.state = .orphaned then 0 else 0x15
        Completed s u k cid c 0 [] ∧ FoliosBut [fo] s u ∧ (c ≠ 0 → u.ldg = s.ldg) ∧
        (c = 0 → u.folio fo = { f with state := .free, pages := [], descAddrs := [] } ∧ u.ldg.returned = s.ldg.returned ++ [fo]) ∧
        QueueOnly [] s u k ∧
        BackTo s { u with regs := s.regs, dma := s.dma,
                          ldg := { u.ldg with folios := s.ldg.folios, runs := s.ldg.runs, returned := s.ldg.returned },
                          hif := { u.hif with qps := s.hif.qps, faultHi := s.hif.faultHi } })) ∧
      (fieldAt 0 1 e = op → op = 3 ∨ op = 4 → ¬rsvd → Answers (queueCmd t q inp op) s (fun u =>
        let len := if op = 3 then 512 else 32
        let win := s.fld (F.HIF_QP_CTRL_WINDOW k)
        let dma := s.dmaStatus win (s.fld (F.HIF_QP_CTRL_OWNER k)) true o len
        let c := if o % 64 ≠ 0 then 0x15 else if dma ≠ 0 then dma else if s.notOurs k fo then 0x15 else if s.lockdown = true then 0x30 else 0
        Completed s u k cid c 0 (if c = 0 then [{ tick := u.tick, win := win, off := o
                                                  data := if op = 3 then (s.at_ t).folioBytes fo else s.censusBytes fo }] else []) ∧
        QueueOnly [] s u k ∧
        BackTo s { u with regs := s.regs, dma := s.dma, hif := { u.hif with qps := s.hif.qps, faultHi := s.hif.faultHi } })) ∧
      (fieldAt 0 1 e = 5 → op = 5 → ¬rsvd → ¬s.notOurs k fo → s.lockdown = false → Answers (.qpCensusRetry t q inp) s (fun u =>
        (∀ c, s.retryRefuse h = some c → Completed s u k cid c 0 [] ∧ QueueOnly [] s u k ∧
          BackTo s { u with regs := s.regs, dma := s.dma, hif := { u.hif with qps := s.hif.qps, faultHi := s.hif.faultHi } }) ∧
        (∀ z, s.retryRefuse h = none → (s.frun fo).cens = some z → s.lostSince fo z.tFault = none →
          Completed s u k cid 0 (s.retryState fo z.prior).code [] ∧ (u.folio fo).state = s.retryState fo z.prior ∧ (u.frun fo).cens = none ∧
          FoliosBut [fo] s u ∧ u.rd R.FLT_RETRY_COUNT = (s.rd R.FLT_RETRY_COUNT + 1) % 2 ^ 32 ∧
          QueueOnly ([R.FLT_RETRY_COUNT, R.SPN_PAGE_FWD_COUNT, R.SPN_PAGE_DROP_COUNT] ++ colRegs) s u k) ∧
        u.rd R.FLT_CENSUS_RESULT = s.rd R.FLT_CENSUS_RESULT ∧
        BackTo s { u with free := s.free, regs := s.regs, ldg := { u.ldg with folios := s.ldg.folios, runs := s.ldg.runs },
                          adm := s.adm, eng := { u.eng with waitRows := s.eng.waitRows }, ports := s.ports,
                          parts := { u.parts with strays := s.parts.strays, evicts := s.parts.evicts, frees := s.parts.frees,
                                                  orphanAt := s.parts.orphanAt },
                          chain := s.chain, out := s.out, dma := s.dma,
                          hif := { u.hif with qps := s.hif.qps, faultHi := s.hif.faultHi } }))))

/-- MSI-X (R472 to R474), MSIX_VECTOR_UNMASK and MSIX_MOD_INTERVAL_END. The clauses are about vectors other than the PF's vector 0, which
a status bit can cause in the same tick. -/
def Obligations.MsixSendsHoldsAndUnmasks : Prop :=
  (∀ (t : Nat) (q : Fin 64) (bs : Bytes) (s : State), s.hostLink = true →
    let k := q.val
    let p := s.qp k
    let own := s.fld (F.HIF_QP_CTRL_OWNER k)
    let win := s.fld (F.HIF_QP_CTRL_WINDOW k)
    let key := 1024 * own + s.fld (F.HIF_QP_VECTOR_VECTOR k)
    let us := s.fld (F.HIF_QP_VECTOR_MOD_US k)
    s.flag (F.HIF_QP_CTRL_ENABLE k) = true → s.flag (F.HIF_QP_STATUS_ACTIVE k) = true → p.sqHead ≠ p.sqTail → p.running = none → p.posts = [] →
    s.dmaStatus win own false (s.rd64 (R.HIF_QP_SQ_BASE_LO k) (R.HIF_QP_SQ_BASE_HI k) + 64 * p.sqHead) 64 = 0 →
    s.dmaStatus win own true (s.rd64 (R.HIF_QP_CQ_BASE_LO k) (R.HIF_QP_CQ_BASE_HI k) + 16 * p.cqTail) 16 = 0 →
    (p.cqTail + 1) % 2 ^ s.fld (F.HIF_QP_CTRL_CQ_LOG2 k) ≠ p.cqHead → fieldAt 0 1 (padTo 64 bs) = 0 → key ≠ 0 →
    Answers (.qpNop t q (.ok bs)) s (fun u =>
      let ran := u.now < Sparse.get (fun _ => 0) s.hif.modUntil key
      let e := s.msixEnt key
      (s.flag (F.HIF_QP_CTRL_IRQ_EN k) = false → u.msixEnt key = e ∧ u.hif.sent.filter (fun m => 1024 * m.func + m.vec == key) =
        s.hif.sent.filter (fun m => 1024 * m.func + m.vec == key)) ∧
      (s.flag (F.HIF_QP_CTRL_IRQ_EN k) = true →
        (ran → u.hif.modHeld.any (fun x => x.1 == key) = true ∧ u.msixEnt key = e) ∧
        (¬ran → e.masked = true → u.msixEnt key = { e with pending := true }) ∧
        (¬ran → e.masked = false → u.msixEnt key = e ∧
          u.hif.sent.any (fun m => m == { tick := u.tick, func := key / 1024, vec := key % 1024, addr := e.addr, data := e.data }) = true ∧
          (us ≠ 0 → Sparse.get (fun _ => 0) u.hif.modUntil key = u.now + 1000 * us))))) ∧
  (∀ (t : Nat) (fn : Fin 32) (vec : Fin 1024) (s : State), s.hostUp fn.val = true → (fn.val ≠ 0 ∨ vec.val ≠ 0) →
    let key := 1024 * fn.val + vec.val
    let e := s.msixEnt key
    Answers (.msixVectorUnmask t fn vec) s (fun u =>
      u.msixEnt key = { e with masked := false, pending := false } ∧ (∀ k : Nat, k ≠ key → u.msixEnt k = s.msixEnt k) ∧
      u.hif.sent = (if e.pending = true then [{ tick := u.tick, func := fn.val, vec := vec.val, addr := e.addr, data := e.data }] else []) ++
        s.hif.sent ∧
      u.hif.modUntil = s.hif.modUntil ∧ u.hif.modHeld = s.hif.modHeld ∧ RegsBut [] s u ∧ BackTo s u)) ∧
  (∀ (t : Nat) (fn : Fin 32) (vec : Fin 1024) (s : State), s.hostLink = true →
    let key := 1024 * fn.val + vec.val
    let til := Sparse.get (fun _ => 0) s.hif.modUntil key
    let e := s.msixEnt key
    (til = 0 ∨ (s.at_ t).now < til → Answers (.msixModIntervalEnd t fn vec) s (fun u =>
      u.hif = s.hif ∧ RegsBut [] s u ∧ BackTo s u)) ∧
    (til ≠ 0 → til ≤ (s.at_ t).now → Answers (.msixModIntervalEnd t fn vec) s (fun u =>
      u.hif.modHeld = s.hif.modHeld.filter (fun x => x.1 != key) ∧
      (s.hif.modHeld.all (fun x => x.1 != key) = true →
        Sparse.get (fun _ => 0) u.hif.modUntil key = 0 ∧ u.hif.sent = s.hif.sent ∧ u.msixEnt key = e) ∧
      (∀ us, s.hif.modHeld.find? (fun x => x.1 == key) = some (key, us) →
        (e.masked = true → u.msixEnt key = { e with pending := true } ∧ u.hif.sent = s.hif.sent ∧
          Sparse.get (fun _ => 0) u.hif.modUntil key = 0) ∧
        (e.masked = false → u.hif.sent =
            { tick := u.tick, func := fn.val, vec := vec.val, addr := e.addr, data := e.data } :: s.hif.sent ∧
          Sparse.get (fun _ => 0) u.hif.modUntil key = (if us = 0 then 0 else u.now + 1000 * us))) ∧
      (∀ k : Nat, k ≠ key → u.msixEnt k = s.msixEnt k ∧ Sparse.get (fun _ => 0) u.hif.modUntil k = Sparse.get (fun _ => 0) s.hif.modUntil k) ∧
      RegsBut [] s u ∧ BackTo s u)))

/-- I3C_ADDRESS_ASSIGN, I3C_SET_INDEX, I3C_READ, I3C_WAKE, I3C_ENEC, JTAG_TAP_RESET, JTAG_EXTEST, JTAG_SAMPLE_PRELOAD and JTAG_BYPASS (R443,
R475 to R478, R498). That a target without an address answers nothing, and the order of the captured cells, are DEDUCED (log entries 125, 127). -/
def Obligations.SidebandAndBoundaryScan : Prop :=
  (∀ (t : Nat) (a : BitVec 7) (ix b1 b2 : BitVec 8) (s : State), s.pins.powered = true →
    Answers (.i3cAddressAssign t a) s (fun u =>
      u.fld F.HIF_I3C_STATUS_DYN_ADDR = a.toNat ∧ u.flag F.HIF_I3C_STATUS_ASSIGNED = true ∧
      u.flag F.HIF_I3C_STATUS_IBI_EN = s.flag F.HIF_I3C_STATUS_IBI_EN ∧ RegsBut [R.HIF_I3C_STATUS] s u ∧ BackTo s { u with regs := s.regs }) ∧
    Answers (.i3cSetIndex t ix) s (fun u =>
      u.hif.i3cIndex = (if s.flag F.HIF_I3C_STATUS_ASSIGNED = true then ix.toNat else s.hif.i3cIndex) ∧
      BackTo s { u with hif := { u.hif with i3cIndex := s.hif.i3cIndex } }) ∧
    Answers (.i3cWake t b1 b2) s (fun u =>
      if s.flag F.HIF_I3C_STATUS_ASSIGNED = true ∧ b1 = 0x07 ∧ b2 = 0xB0 ∧ s.fld F.PWR_STATE_CURRENT = 3 then
        u.pwr.target = 0 ∧ u.flag F.PWR_STATE_BUSY = true ∧ u.fld F.PWR_STATE_CURRENT = 3 ∧ RegsBut [R.PWR_STATE] s u ∧
        BackTo s { u with regs := s.regs, pwr := { u.pwr with target := s.pwr.target } }
      else BackTo s u) ∧
    Answers (.i3cEnec t) s (fun u =>
      u.flag F.HIF_I3C_STATUS_IBI_EN = true ∧ u.hif.ibiPend = [] ∧
      u.hif.ibis = (s.hif.ibiPend.map fun x => ({ tick := u.tick, cause := x.1, value := x.2 } : Ibi)).reverse ++ s.hif.ibis ∧
      u.fld F.HIF_I3C_STATUS_DYN_ADDR = s.fld F.HIF_I3C_STATUS_DYN_ADDR ∧ RegsBut [R.HIF_I3C_STATUS] s u ∧
      BackTo s { u with regs := s.regs, hif := { u.hif with ibis := s.hif.ibis, ibiPend := s.hif.ibiPend } })) ∧
  (∀ (t : Nat) (n : Fin 257) (s : State), s.pins.powered = true →
    (s.flag F.HIF_I3C_STATUS_ASSIGNED = false → Answers (.i3cRead t n) s (fun u => BackTo s u)) ∧
    (s.flag F.HIF_I3C_STATUS_ASSIGNED = true → Answers (.i3cRead t n) s (fun u =>
      let ix := s.hif.i3cIndex
      let latched := ix ≤ 0xD ∧ 0xD < ix + n.val
      let short := s.fld F.PWR_STATE_CURRENT = 3 ∨ s.fld F.SHL_BOOT_STATUS_STEP < 4
      let item := fun i : Nat =>
        if short ∧ ¬(i ≤ 4 ∨ i = 6 ∨ 0xB ≤ i ∧ i ≤ 0xE) then 0
        else if i = 0xE then (if latched then s.sec.tick / 2 ^ 32 else s.hif.i3cLatch)
        else ([R.SHL_ID, R.SPN_UNIT_ID 0, R.SPN_UNIT_ID 1, R.SPN_UNIT_ID 2, R.SPN_UNIT_ID 3, R.SHL_BOOT_STATUS, R.PWR_STATE, R.PWR_THERM,
          R.PWR_POWER, R.DKL_RAIL, R.DKL_MARGIN, R.SEC_STATE, R.SEC_TAMPER, R.SEC_TAMPER_TICK_LO, R.SEC_TAMPER_TICK_HI, R.EPD_STATE,
          R.COL_STATUS, R.LDG_LIVE, R.DKL_STATUS][i]?.map (s.at_ t).readReg).getD 0
      let data := (u.reads.head?.map (·.data)).getD []
      u.reads.map (fun r => (r.space, r.off)) = (0x13, ix) :: s.reads.map (fun r => (r.space, r.off)) ∧ u.reads.tail = s.reads ∧
      data.length = 4 * n.val ∧ (∀ j : Nat, j < n.val → slice (4 * j) 4 data = le 4 (item (ix + j))) ∧
      u.hif.i3cLatch = (if latched then s.sec.tick / 2 ^ 32 else s.hif.i3cLatch) ∧
      BackTo s { u with reads := s.reads, hif := { u.hif with i3cLatch := s.hif.i3cLatch } }))) ∧
  (∀ (t : Nat) (inputs cells : List Bool) (code : Fin 16) (s : State), s.pins.powered = true →
    let p := s.pins
    let drives := p.jtag = .extest ∧ (p.resetLow = true ∨ p.perstLow = true)
    let scanned := fun (j : JtagInstr) (u : State) =>
      u.pins = { p with jtag := j, captured := u.pins.captured, shifted := u.pins.shifted } ∧
      u.pins.captured.length = 13 ∧ u.pins.shifted.length = 13 ∧ (∀ i < 13, u.pins.shifted[i]?.getD false = cells[i]?.getD false) ∧
      u.pins.captured[0]? = some (!p.resetLow) ∧ u.pins.captured[1]? = some (!p.perstLow) ∧
      (∀ i < 4, u.pins.captured[2 + i]? = some (inputs[i]?.getD false)) ∧
      (¬drives → u.pins.captured[6]? = some (!p.tripLow) ∧ ∀ i < 6, u.pins.captured[7 + i]? = some (p.vid.testBit i)) ∧
      (drives → ∀ i < 7, p.shifted.length = 13 → u.pins.captured[6 + i]? = some (p.shifted[6 + i]?.getD false)) ∧
      BackTo s { u with pins := p }
    Answers (.jtagExtest t inputs cells) s (scanned .extest) ∧ Answers (.jtagSamplePreload t inputs cells) s (scanned .sample) ∧
    Answers (.jtagTapReset t) s (fun u => u.pins = { p with jtag := .bypass } ∧ BackTo s { u with pins := p }) ∧
    Answers (.jtagBypass t code) s (fun u => (2 ≤ code.val → u.pins = { p with jtag := .bypass }) ∧
      BackTo s { u with pins := { u.pins with jtag := p.jtag } }))

/-- REGISTER_WRITE and BAR0_BAD_ACCESS_WRITE (R8, R9, R11, R93, R107, R346, R456 to R458, R461, R472).
The model's readings and choices behind it: log entries 42, 40. -/
def Obligations.RegisterWriteReachesOnlyItsFields : Prop :=
  (∀ (t : Nat) (fn : Fin 32) (off : BitVec 25) (v : BitVec 32) (s : State), s.hostUp fn.val = false →
    Answers (.registerWrite t fn off v) s (fun u => RegsBut [] s u ∧ BackTo s u) ∧
    Answers (.bar0BadAccessWrite t fn) s (fun u => RegsBut [] s u ∧ BackTo s u)) ∧
  (∀ (t : Nat) (off : BitVec 25) (v : BitVec 32) (s : State), s.hostUp 0 = true → ¬(0x1880000 ≤ off.toNat ∧ off.toNat < 0x1884000) →
    Answers (.registerWrite t 0 off v) s (fun u =>
      let o := off.toNat
      let x := v.toNat
      FieldsWritten 0 o x s u ∧
      (o = R.ADM_BAL_LIMIT → if 8 ≤ x % 64 ∧ x / 256 % 64 ≤ 56 ∧ x % 64 ≤ x / 256 % 64 then
          u.fld F.ADM_BAL_LIMIT_MIN_OUT = x % 64 ∧ u.fld F.ADM_BAL_LIMIT_MAX_OUT = x / 256 % 64
        else u.fld F.ADM_BAL_LIMIT_MIN_OUT = s.fld F.ADM_BAL_LIMIT_MIN_OUT ∧ u.fld F.ADM_BAL_LIMIT_MAX_OUT = s.fld F.ADM_BAL_LIMIT_MAX_OUT) ∧
      (o = R.COL_CTRL → x.testBit 1 = false → u.flag F.COL_CTRL_PUSH_ENABLE = false) ∧
      (o = R.COL_TAIL_SEQ_HI → u.col = { s.col with tailHi := x }) ∧ (o ≠ R.COL_TAIL_SEQ_HI → u.col = s.col) ∧
      (∀ n : Nat, n < 1024 → o = R.ADM_TENANT_BURST n → u.adm.cuts.map (fun c => (c.1, c.2.1, c.2.2.1)) =
        s.adm.cuts.map (fun c => (c.1, c.2.1, c.2.2.1)) ++ [(u.tick, .inp, n), (u.tick, .outp, n)]) ∧
      (o < R.ADM_TENANT_BURST 0 ∨ R.ADM_TENANT_BURST 1023 < o → u.adm = s.adm) ∧
      (o ≠ R.LDG_SCAN_PERIOD → u.ldg = s.ldg) ∧
      (o = R.LDG_SCAN_PERIOD → u.fld F.LDG_SCAN_PERIOD_PERIOD_MS * 1000000 ≠ (s.at_ t).scanPeriod →
        u.ldg = { s.ldg with scanP := (s.at_ t).scanPeriod / 1000000, scanPend := u.ldg.scanPend } ∧
        (u.ldg.scanPend.map (·.1)) = some (u.fld F.LDG_SCAN_PERIOD_PERIOD_MS)) ∧
      BackTo s { u with regs := s.regs, col := s.col, adm := { u.adm with cuts := s.adm.cuts },
                        ldg := { u.ldg with scanP := s.ldg.scanP, scanPend := s.ldg.scanPend } })) ∧
  (∀ (t : Nat) (fn : Fin 32) (off : BitVec 25) (v : BitVec 32) (s : State), s.hostUp fn.val = true → fn ≠ 0 →
    ¬(0x10000 ≤ off.toNat ∧ off.toNat < 0x10200) →
    Answers (.registerWrite t fn off v) s (fun u =>
      let o := off.toNat
      let qp := 0x20000 ≤ o ∧ o < 0x21000 ∧ s.fld (F.HIF_QP_CTRL_OWNER ((o - 0x20000) / 0x40)) = fn.val
      let win := 0x30000 ≤ o ∧ o < 0x30800 ∧ s.fld (F.HIF_WIN_CTRL_OWNER ((o - 0x30000) / 0x20)) = fn.val
      let bell := 0x40000 ≤ o ∧ o < 0x80000 ∧ s.fld (F.HIF_QP_CTRL_OWNER ((o - 0x40000) / 0x1000)) = fn.val
      (qp → FieldsWritten fn.val (o + 0x1800000) v.toNat s u) ∧ (win → FieldsWritten fn.val (o + 0x17E0000) v.toNat s u) ∧
      (bell → FieldsWritten fn.val (o + 0x1800000) v.toNat s u) ∧ (¬qp → ¬win → ¬bell → RegsBut [] s u) ∧
      BackTo s { u with regs := s.regs })) ∧
  (∀ (t k i : Nat) (fn : Fin 32) (off : BitVec 25) (v : BitVec 32) (s : State), s.hostUp fn.val = true → i < 4 →
    (fn = 0 ∧ k < 1024 ∧ off.toNat = 0x1880000 + 16 * k + 4 * i ∨ fn ≠ 0 ∧ k < 32 ∧ off.toNat = 0x10000 + 16 * k + 4 * i) →
    Answers (.registerWrite t fn off v) s (fun u =>
      let key := 1024 * fn.val + k
      let e := s.msixEnt key
      let x := v.toNat
      (i = 0 → u.msixEnt key = { e with addr := e.addr / 2 ^ 32 * 2 ^ 32 + x / 4 * 4 }) ∧
      (i = 1 → u.msixEnt key = { e with addr := x * 2 ^ 32 + e.addr % 2 ^ 32 }) ∧ (i = 2 → u.msixEnt key = { e with data := x }) ∧
      (i = 3 → x.testBit 0 = true → u.msixEnt key = { e with masked := true }) ∧
      (i = 3 → x.testBit 0 = false → u.msixEnt key = { e with masked := false, pending := false }) ∧
      u.hif.sent = (if i = 3 ∧ x.testBit 0 = false ∧ e.pending = true then
        [{ tick := u.tick, func := fn.val, vec := k, addr := e.addr, data := e.data }] else []) ++ s.hif.sent ∧
      (∀ j, j ≠ key → u.msixEnt j = s.msixEnt j) ∧ RegsBut [] s u ∧ BackTo s u)) ∧
  (∀ (t : Nat) (fn : Fin 32) (s : State), s.hostUp fn.val = true →
    Answers (.bar0BadAccessWrite t fn) s (fun u => u.flag F.HIF_STATUS_ACCESS_SEEN = true ∧
      (∀ i, i ≠ F.HIF_STATUS_ACCESS_SEEN.lo → (u.rd R.HIF_STATUS).testBit i = (s.rd R.HIF_STATUS).testBit i) ∧
      RegsBut [R.HIF_STATUS] s u ∧ BackTo s { u with regs := s.regs }))

/-- READ_LO_LATCH_HI (R12, R35, R346, R456 to R458, R461). Which registers name a latch is the list of the Meaning columns. -/
def Obligations.RegisterReadHasNoSideEffect : Prop :=
  (∀ (t : Nat) (fn : Fin 32) (off : BitVec 25) (s : State), s.hostUp fn.val = false →
    Answers (.readLoLatchHi t fn off) s (fun u => RegsBut [] s u ∧ BackTo s u)) ∧
  (∀ (t : Nat) (off : BitVec 25) (s : State), s.hostUp 0 = true →
    Answers (.readLoLatchHi t 0 off) s (fun u =>
      let a := off.toNat / 4 * 4
      u.reads = { tick := u.tick, space := 0, off := a, data := le 4 ((s.at_ t).readReg a) } :: s.reads ∧
      (latches a = false → RegsBut [] s u) ∧
      (latches a = true → u.rd (a + 4) = (((s.at_ t).view? a).getD 0) / 2 ^ 32 % 2 ^ 32 ∧
        RegsBut ((a + 4) :: (if a = R.COL_HEAD_SEQ_LO then (List.range 12).map R.COL_HEAD_DIGEST else [])) s u) ∧
      (a = R.COL_HEAD_SEQ_LO → ∀ k < 12, u.rd (R.COL_HEAD_DIGEST k) = wordOfBytes k (s.headAt s.headSeq)) ∧
      (a = R.DKL_TIME_LO → (s.at_ t).readReg a = u.now % 2 ^ 32 ∧ u.rd R.DKL_TIME_HI = u.now / 2 ^ 32 % 2 ^ 32) ∧
      BackTo s { u with regs := s.regs, reads := s.reads })) ∧
  (∀ (t : Nat) (fn : Fin 32) (off : BitVec 25) (s : State), s.hostUp fn.val = true → fn ≠ 0 →
    Answers (.readLoLatchHi t fn off) s (fun u =>
      let a := off.toNat / 4 * 4
      let z := s.at_ t
      let qp := 0x20000 ≤ a ∧ a < 0x21000 ∧ s.fld (F.HIF_QP_CTRL_OWNER ((a - 0x20000) / 0x40)) = fn.val
      let win := 0x30000 ≤ a ∧ a < 0x30800 ∧ s.fld (F.HIF_WIN_CTRL_OWNER ((a - 0x30000) / 0x20)) = fn.val
      let bell := 0x40000 ≤ a ∧ a < 0x80000 ∧ s.fld (F.HIF_QP_CTRL_OWNER ((a - 0x40000) / 0x1000)) = fn.val
      let e := s.msixEnt (1024 * fn.val + (a - 0x10000) / 16)
      let word := a % 16 / 4
      let val :=
        if a = 0 then fn.val else if a = 4 then s.rd (R.HIF_VF_TENANTS fn.val)
        else if 0x10000 ≤ a ∧ a < 0x10200 then
          (if word = 0 then e.addr % 2 ^ 32 else if word = 1 then e.addr / 2 ^ 32 else if word = 2 then e.data else if e.masked then 1 else 0)
        else if a = 0x18000 then sumOf (fun i => if (s.msixEnt (1024 * fn.val + i)).pending then 2 ^ i else 0) (List.range 32)
        else if qp ∨ bell then z.readReg (a + 0x1800000) else if win then z.readReg (a + 0x17E0000) else 0
      u.reads = { tick := u.tick, space := 0, off := a, data := le 4 val } :: s.reads ∧ RegsBut [] s u ∧
      BackTo s { u with reads := s.reads }))

/-- GATE_RELEASE of output items and of late blocks (R39, R54, R55, R254, R262 to R264, R288, R334, R335, Tables 2.3 and 3.4).
The model's readings and choices behind it: log entries 19, 20. -/
def Obligations.TokenLeavesGateOrIsWithheld : Prop :=
  (∀ (t idx r w : Nat) (c : Cand) (snap : Bool) (i : Item) (s : State), s.coreUp = true → s.adm.live.find? (s.at_ t).gateDue = some i →
    i.kind = .cand → i.result = some (.token (.chosen idx r w)) → i.cands[idx]? = some c → i.late = false → i.doneBy i.tRel = true →
    (s.at_ t).behind i = false → (s.folio i.folio).misses i = false → (s.folio i.folio).pauseReq = false →
    (s.partner (s.folio i.folio).gw).state = .attached → (s.partner (s.folio i.folio).dec).state = .attached →
    Answers (.gateRelease t snap) s (fun u =>
      let f := s.folio i.folio
      let h := handleOf i.folio f.gen
      let last := c.isEnd || (f.maxOut != 0 && f.outRel + 1 == f.maxOut) || f.nextPos + 1 == 4194304
      let body := MsgBody.tokenOut h f.nextPos (c.token + 2 ^ 20 * b2n last) (f.relSeq + 1) i.tRel
        ((s.at_ t).nextSeq (s.at_ t).tick rankItem i.admNo)
      (∀ n, n ≠ i.folio → u.folio n = s.folio n ∧ u.frun n = s.frun n) ∧
      (u.folio i.folio).relSeq = f.relSeq + 1 ∧ (u.folio i.folio).tLastRel = u.tick ∧ (u.folio i.folio).nextPos = f.nextPos + 1 ∧
      (u.folio i.folio).outRel = f.outRel + 1 ∧ (u.folio i.folio).lastToken = c.token ∧ (u.folio i.folio).withheld = 0 ∧
      u.frun i.folio = { s.frun i.folio with
        run := i.work
        counts := Sparse.set (fun _ => 0) (s.frun i.folio).counts c.token (Sparse.get (fun _ => 0) (s.frun i.folio).counts c.token + 1)
        outs := (s.frun i.folio).outs ++ [c.token], outDone := (s.frun i.folio).outDone + 1, elOut := u.tick + 10
        spare := if Sparse.get (fun _ => 0) (s.frun i.folio).counts c.token = 0 then (s.frun i.folio).spare - 1 else (s.frun i.folio).spare } ∧
      (last = false → (u.folio i.folio).state = f.state ∧ u.adm.live = s.adm.live.filter (fun j => j.id != i.id) ∧
        SentBoth s u (s.partner f.gw).at_ (s.partner f.dec).at_ 2 0 body) ∧
      (last = true → (u.folio i.folio).state = .done ∧ (u.folio i.folio).endStatus = 0 ∧ (u.folio i.folio).tEnd = u.tick ∧
        u.adm.live = s.adm.live.filter (fun j => j.id != i.id && j.folio != i.folio)) ∧
      Entered s u (fun x => x.tick = u.tick ∧ x.rank = rankItem ∧ x.sub = i.admNo ∧ x.status = 0 ∧ x.handle = h ∧ x.tenant = f.tenant ∧
        x.flags % 8 = 2 * b2n last ∧
        x.body = .outToken (itemPart f i (f.relSeq + 1) f.nextPos) (c.token + 2 ^ 20 * b2n c.isEnd) idx i.masks.length i.firstRule r w
          (sha256 i.body)) ∧
      RegsBut ([R.SPN_PAGE_DROP_COUNT] ++ colRegs) s u ∧
      BackTo s { u with free := s.free, regs := s.regs,
                        ldg := { u.ldg with folios := s.ldg.folios, runs := s.ldg.runs },
                        adm := { u.adm with live := s.adm.live, queue := s.adm.queue, holders := s.adm.holders, backlog := s.adm.backlog },
                        eng := { u.eng with waitRows := s.eng.waitRows }, ports := s.ports,
                        parts := { u.parts with evicts := s.parts.evicts, strays := s.parts.strays, frees := s.parts.frees },
                        chain := s.chain, out := s.out })) ∧
  (∀ (t : Nat) (snap : Bool) (i : Item) (s : State), s.coreUp = true → s.adm.live.find? (s.at_ t).gateDue = some i →
    i.kind = .cand → i.result = some (.token .allMasked) → i.doneBy i.tRel = true → i.neverDone = false → (s.at_ t).behind i = false →
    (s.folio i.folio).misses i = false → (s.folio i.folio).pauseReq = false →
    (s.folio i.folio).withheld + 1 < s.fld F.DKL_LATE_LIMIT_LIMIT →
    (s.partner (s.folio i.folio).gw).state = .attached → (s.partner (s.folio i.folio).dec).state = .attached →
    Answers (.gateRelease t snap) s (fun u =>
      let f := s.folio i.folio
      let h := handleOf i.folio f.gen
      let st := if i.late then 0x20 else 0x28
      let body := MsgBody.withheld h f.nextPos (f.withheld + 1) i.tRel ((s.at_ t).nextSeq (s.at_ t).tick rankItem i.admNo)
      u.folio i.folio = { f with withheld := f.withheld + 1 } ∧ FoliosBut [i.folio] s u ∧
      u.frun i.folio = { s.frun i.folio with outDone := (s.frun i.folio).outDone + 1, elOut := u.tick + 10 } ∧
      u.adm.live = s.adm.live.filter (fun j => j.id != i.id) ∧
      (i.late = false → u.rd R.TSU_ALL_MASKED_COUNT = (s.rd R.TSU_ALL_MASKED_COUNT + 1) % 2 ^ 32 ∧
        u.flag F.TSU_STATUS_ALL_MASKED_SEEN = true) ∧
      (i.late = true → u.rd R.TSU_ALL_MASKED_COUNT = s.rd R.TSU_ALL_MASKED_COUNT) ∧
      SentBoth s u (s.partner f.gw).at_ (s.partner f.dec).at_ 2 st body ∧
      Entered s u (fun x => x.tick = u.tick ∧ x.rank = rankItem ∧ x.sub = i.admNo ∧ x.status = st ∧ x.handle = h ∧ x.tenant = f.tenant ∧
        x.flags % 8 = 4 + b2n i.late ∧
        x.body = .outToken (itemPart f i f.relSeq f.nextPos) 0 0xFF i.masks.length i.firstRule 0 0 (sha256 i.body)) ∧
      RegsBut ([R.TSU_ALL_MASKED_COUNT, R.TSU_STATUS] ++ colRegs) s u ∧
      BackTo s { u with free := s.free, regs := s.regs, ldg := { u.ldg with folios := s.ldg.folios, runs := s.ldg.runs },
                        adm := { u.adm with live := s.adm.live, backlog := s.adm.backlog },
                        eng := { u.eng with waitRows := s.eng.waitRows }, ports := s.ports, chain := s.chain, out := s.out })) ∧
  (∀ (t k : Nat) (snap : Bool) (i : Item) (s : State), s.coreUp = true → s.adm.live.find? (s.at_ t).gateDue = some i →
    i.kind = .block k → i.chan = .inp → i.late = false → i.doneBy i.tRel = false → i.openPosture = false → (s.at_ t).behind i = false →
    (s.folio i.folio).misses i = false →
    Answers (.gateRelease t snap) s (fun u =>
      let f := s.folio i.folio
      let g := u.folio i.folio
      g.state = .done ∧ g.endStatus = 0x20 ∧ g.verdict = 2 ∧ g.relSeq = f.relSeq + 2 ∧ g.tLastRel = u.tick ∧ g.tEnd = u.tick ∧
      g.blocksRel = f.blocksRel + 1 ∧ g.lateItems = f.lateItems + 1 ∧ FoliosBut [i.folio] s u ∧
      u.adm.live = s.adm.live.filter (fun j => j.id != i.id && j.folio != i.folio) ∧
      u.rd R.DKL_LATE_IN_COUNT = (s.rd R.DKL_LATE_IN_COUNT + 1) % 2 ^ 32 ∧ u.flag F.DKL_STATUS_LATE_SEEN = true ∧
      EnteredBoth s u
        (fun x => x.tick = u.tick ∧ x.rank = rankItem ∧ x.sub = i.admNo ∧ x.status = 0x20 ∧ x.handle = handleOf i.folio f.gen ∧ x.body.kind = 1)
        (fun x => x.tick = u.tick ∧ x.rank = rankItem ∧ x.sub = i.admNo ∧ x.status = 0x20 ∧ x.handle = handleOf i.folio f.gen ∧ x.body.kind = 2) ∧
      RegsBut ([R.DKL_STATUS, R.DKL_LATE_IN_COUNT, R.QUIRE_XL_LATE_COUNT i.quire, R.SPN_PAGE_DROP_COUNT] ++ colRegs) s u ∧
      BackTo s { u with free := s.free, regs := s.regs,
                        ldg := { u.ldg with folios := s.ldg.folios, runs := s.ldg.runs },
                        adm := { u.adm with live := s.adm.live, queue := s.adm.queue, holders := s.adm.holders, backlog := s.adm.backlog },
                        eng := { u.eng with waitRows := s.eng.waitRows }, ports := s.ports,
                        parts := { u.parts with evicts := s.parts.evicts, strays := s.parts.strays, frees := s.parts.frees },
                        chain := s.chain, out := s.out }))
end

