-- ==== Sys2Proof/Laws/Sparse.lean ====
section
/-!
SUPPORT. Read after write, frame and canonical form of sparse data.
-/
namespace Sys2Proof.Machine

variable {α : Type} (d : Nat → α)

@[simp] theorem Sparse.get_nil (k : Nat) : Sparse.get d [] k = d k := rfl

theorem Sparse.get_ins (m : Sparse α) (k : Nat) (v : α) (j : Nat) :
    Sparse.get d (m.ins k v) j = if j = k then v else Sparse.get d m j := by
  induction m with
  | nil => simp [Sparse.ins, Sparse.get]
  | cons p m ih =>
    obtain ⟨k', v'⟩ := p
    unfold Sparse.ins
    split
    · simp [Sparse.get]
    · split
      · subst k'; by_cases h : j = k <;> simp [Sparse.get, h]
      · by_cases h : j = k'
        · subst h; simp [Sparse.get, Ne.symm ‹¬k = j›]
        · simp [Sparse.get, h, ih]

theorem Sparse.get_filter (m : Sparse α) (k j : Nat) :
    Sparse.get d (m.filter fun p => p.1 != k) j = if j = k then d k else Sparse.get d m j := by
  induction m with
  | nil => simp +contextual [Sparse.get]
  | cons p m ih =>
    obtain ⟨k', v'⟩ := p
    by_cases h : k' = k
    · subst h
      by_cases hj : j = k' <;> simp_all [Sparse.get]
    · by_cases hj : j = k'
      · subst hj; simp [Sparse.get, h]
      · simp [Sparse.get, h, hj, ih]

variable [DecidableEq α]

/-- Reading back the written key gives the value; every other key reads as before. -/
theorem Sparse.get_set (m : Sparse α) (k : Nat) (v : α) (j : Nat) :
    Sparse.get d (Sparse.set d m k v) j = if j = k then v else Sparse.get d m j := by
  unfold Sparse.set
  split
  · rename_i h; rw [Sparse.get_filter, h]
  · rw [Sparse.get_ins]

@[simp] theorem Sparse.get_set_same (m : Sparse α) (k : Nat) (v : α) : Sparse.get d (Sparse.set d m k v) k = v := by
  simp [Sparse.get_set]

theorem Sparse.get_set_ne (m : Sparse α) {k j : Nat} (v : α) (h : j ≠ k) :
    Sparse.get d (Sparse.set d m k v) j = Sparse.get d m j := by simp [Sparse.get_set, h]

theorem Sparse.wfFrom_mono : ∀ (m : Sparse α) (a b : Nat), a ≤ b → Sparse.wfFrom d b m = true →
    Sparse.wfFrom d a m = true
  | [], _, _, _, _ => rfl
  | (k, v) :: m, a, b, hab, h => by
    simp only [Sparse.wfFrom, Bool.and_eq_true, decide_eq_true_eq] at h ⊢
    exact ⟨⟨by omega, h.1.2⟩, h.2⟩

theorem Sparse.wfFrom_filter (q : Nat × α → Bool) : ∀ (m : Sparse α) (lo : Nat), Sparse.wfFrom d lo m = true →
    Sparse.wfFrom d lo (m.filter q) = true
  | [], _, _ => rfl
  | (k, v) :: m, lo, h => by
    simp only [Sparse.wfFrom, Bool.and_eq_true, decide_eq_true_eq] at h
    have ih := Sparse.wfFrom_filter q m (k + 1) h.2
    rw [List.filter_cons]
    split
    · simp only [Sparse.wfFrom, Bool.and_eq_true, decide_eq_true_eq]; exact ⟨h.1, ih⟩
    · exact Sparse.wfFrom_mono d _ _ _ (by omega) ih

theorem Sparse.wfFrom_ins : ∀ (m : Sparse α) (lo k : Nat) (v : α), lo ≤ k → v ≠ d k → Sparse.wfFrom d lo m = true →
    Sparse.wfFrom d lo (m.ins k v) = true
  | [], lo, k, v, hlo, hv, _ => by simp [Sparse.ins, Sparse.wfFrom, hlo, hv]
  | (k', v') :: m, lo, k, v, hlo, hv, h => by
    simp only [Sparse.wfFrom, Bool.and_eq_true, decide_eq_true_eq] at h
    unfold Sparse.ins
    split
    · simp only [Sparse.wfFrom, Bool.and_eq_true, decide_eq_true_eq]
      exact ⟨⟨hlo, by simp [hv]⟩, ⟨⟨by omega, h.1.2⟩, h.2⟩⟩
    · split
      · subst k'
        simp only [Sparse.wfFrom, Bool.and_eq_true, decide_eq_true_eq]
        exact ⟨⟨hlo, by simp [hv]⟩, h.2⟩
      · simp only [Sparse.wfFrom, Bool.and_eq_true, decide_eq_true_eq]
        exact ⟨h.1, Sparse.wfFrom_ins m (k' + 1) k v (by omega) hv h.2⟩

/-- A write keeps the canonical form. -/
theorem Sparse.wf_set (m : Sparse α) (k : Nat) (v : α) (h : Sparse.wf d m = true) :
    Sparse.wf d (Sparse.set d m k v) = true := by
  unfold Sparse.set
  split
  · exact Sparse.wfFrom_filter d _ m 0 h
  · exact Sparse.wfFrom_ins d m 0 k v (Nat.zero_le _) ‹_› h

theorem Sparse.wf_upd (m : Sparse α) (k : Nat) (f : α → α) (h : Sparse.wf d m = true) :
    Sparse.wf d (Sparse.upd d m k f) = true := Sparse.wf_set d m k _ h

end Sys2Proof.Machine
end

