-- ==== Sys2Proof/Laws/Regs.lean ====
section
/-!
SUPPORT. Bit fields and the register file: reading back a field that was set, other fields of its register, other registers.
-/
namespace Sys2Proof.Machine

theorem bitsOf_lt (hi lo v : Nat) : bitsOf hi lo v < 2 ^ (hi + 1 - lo) := Nat.mod_lt _ (Nat.two_pow_pos _)

theorem setBitsOf_split (hi lo x v : Nat) (h : lo ≤ hi) :
    setBitsOf hi lo x v = (v / 2 ^ (hi + 1) * 2 ^ (hi + 1 - lo) + x % 2 ^ (hi + 1 - lo)) * 2 ^ lo + v % 2 ^ lo := by
  have e : 2 ^ (hi + 1) = 2 ^ (hi + 1 - lo) * 2 ^ lo := by rw [← pow_add]; congr 1; omega
  unfold setBitsOf
  rw [Nat.add_mul, Nat.mul_assoc, ← e]

theorem setBitsOf_low_lt (hi lo x v : Nat) (h : lo ≤ hi) :
    x % 2 ^ (hi + 1 - lo) * 2 ^ lo + v % 2 ^ lo < 2 ^ (hi + 1) := by
  have e : 2 ^ (hi + 1) = 2 ^ (hi + 1 - lo) * 2 ^ lo := by rw [← pow_add]; congr 1; omega
  have hx := Nat.mod_lt x (Nat.two_pow_pos (hi + 1 - lo))
  have hr := Nat.mod_lt v (Nat.two_pow_pos lo)
  calc x % 2 ^ (hi + 1 - lo) * 2 ^ lo + v % 2 ^ lo < (x % 2 ^ (hi + 1 - lo) + 1) * 2 ^ lo := by rw [Nat.add_mul]; omega
    _ ≤ 2 ^ (hi + 1 - lo) * 2 ^ lo := Nat.mul_le_mul_right _ hx
    _ = 2 ^ (hi + 1) := e.symm

/-- A field that was set reads as what was set. -/
theorem bitsOf_setBitsOf (hi lo x v : Nat) (h : lo ≤ hi) : bitsOf hi lo (setBitsOf hi lo x v) = x % 2 ^ (hi + 1 - lo) := by
  rw [setBitsOf_split hi lo x v h]
  unfold bitsOf
  rw [Nat.add_comm, Nat.add_mul_div_right _ _ (Nat.two_pow_pos lo), Nat.div_eq_of_lt (Nat.mod_lt _ (Nat.two_pow_pos lo)),
    Nat.zero_add, Nat.add_comm (_ * _), Nat.add_mul_mod_self_right, Nat.mod_mod]

/-- A field above the one that was set reads as before. -/
theorem bitsOf_setBitsOf_above (hi lo hi' lo' x v : Nat) (h : lo ≤ hi) (hd : hi < lo') :
    bitsOf hi' lo' (setBitsOf hi lo x v) = bitsOf hi' lo' v := by
  have hl := setBitsOf_low_lt hi lo x v h
  have e : 2 ^ lo' = 2 ^ (hi + 1) * 2 ^ (lo' - (hi + 1)) := by rw [← pow_add]; congr 1; omega
  unfold bitsOf
  congr 1
  rw [e, ← Nat.div_div_eq_div_mul, ← Nat.div_div_eq_div_mul]
  congr 1
  unfold setBitsOf
  rw [Nat.add_assoc, Nat.add_comm, Nat.add_mul_div_right _ _ (Nat.two_pow_pos _), Nat.div_eq_of_lt hl, Nat.zero_add]

/-- A field below the one that was set reads as before. -/
theorem bitsOf_setBitsOf_below (hi lo hi' lo' x v : Nat) (h : lo ≤ hi) (hd : hi' < lo) :
    bitsOf hi' lo' (setBitsOf hi lo x v) = bitsOf hi' lo' v := by
  by_cases h' : lo' ≤ hi'
  · have key (w : Nat) : bitsOf hi' lo' w = w % 2 ^ (hi' + 1) / 2 ^ lo' := by
      have e : 2 ^ (hi' + 1) = 2 ^ lo' * 2 ^ (hi' + 1 - lo') := by rw [← pow_add]; congr 1; omega
      unfold bitsOf; rw [e, Nat.mod_mul_right_div_self]
    rw [key, key, setBitsOf_split hi lo x v h]
    have e : 2 ^ lo = 2 ^ (hi' + 1) * 2 ^ (lo - (hi' + 1)) := by rw [← pow_add]; congr 1; omega
    congr 1
    rw [e, Nat.add_mod, Nat.mul_comm (2 ^ (hi' + 1)), ← Nat.mul_assoc, Nat.mul_mod_left, Nat.zero_add, Nat.mod_mod,
      Nat.mul_comm (2 ^ (lo - (hi' + 1))), Nat.mod_mul_right_mod]
  · unfold bitsOf
    have : hi' + 1 - lo' = 0 := by omega
    simp [this, Nat.mod_one]

theorem setBitsOf_lt (hi lo x v w : Nat) (h : lo ≤ hi) (hw : hi < w) (hv : v < 2 ^ w) : setBitsOf hi lo x v < 2 ^ w := by
  have hl := setBitsOf_low_lt hi lo x v h
  have e : 2 ^ w = 2 ^ (w - (hi + 1)) * 2 ^ (hi + 1) := by rw [← pow_add]; congr 1; omega
  have hd : v / 2 ^ (hi + 1) < 2 ^ (w - (hi + 1)) := by
    rw [Nat.div_lt_iff_lt_mul (Nat.two_pow_pos _), ← e]; exact hv
  unfold setBitsOf
  calc v / 2 ^ (hi + 1) * 2 ^ (hi + 1) + x % 2 ^ (hi + 1 - lo) * 2 ^ lo + v % 2 ^ lo
      < (v / 2 ^ (hi + 1) + 1) * 2 ^ (hi + 1) := by rw [Nat.add_mul]; omega
    _ ≤ 2 ^ (w - (hi + 1)) * 2 ^ (hi + 1) := Nat.mul_le_mul_right _ hd
    _ = 2 ^ w := e.symm

/-! ### The register file -/

theorem RegFile.rd_lt (m : RegFile) (off : Nat) : m.rd off < 2 ^ 32 := (Sparse.get resetOf m off).isLt

/-- A register that was written holds the value's low 32 bits; every other register holds what it held. -/
theorem RegFile.rd_wr (m : RegFile) (off v off' : Nat) :
    (m.wr off v).rd off' = if off' = off then v % 2 ^ 32 else m.rd off' := by
  unfold RegFile.rd RegFile.wr
  rw [Sparse.get_set]
  split <;> simp

theorem RegFile.rd_setFld_ne (m : RegFile) (f : Fld) (v off : Nat) (h : off ≠ f.off) : (m.setFld f v).rd off = m.rd off := by
  unfold RegFile.setFld; rw [RegFile.rd_wr, if_neg h]

/-- A field lies within a register. -/
def Fld.ok (f : Fld) : Bool := f.lo ≤ f.hi && f.hi < 32

/-- The field g shares no bit with f. -/
def Fld.apart (f g : Fld) : Bool := g.off != f.off || f.hi < g.lo || g.hi < f.lo

/-- A field that was set reads as what was set. -/
theorem RegFile.fld_setFld (m : RegFile) (f : Fld) (v : Nat) (h : f.ok = true) :
    (m.setFld f v).fld f = v % 2 ^ (f.hi + 1 - f.lo) := by
  simp only [Fld.ok, Bool.and_eq_true, decide_eq_true_eq] at h
  unfold RegFile.fld RegFile.setFld
  rw [RegFile.rd_wr, if_pos rfl, Nat.mod_eq_of_lt (setBitsOf_lt _ _ _ _ 32 h.1 h.2 (m.rd_lt _)), bitsOf_setBitsOf _ _ _ _ h.1]

/-- A field that shares no bit with the one that was set reads as before. -/
theorem RegFile.fld_setFld_ne (m : RegFile) (f g : Fld) (v : Nat) (h : f.ok = true) (hd : f.apart g = true) :
    (m.setFld f v).fld g = m.fld g := by
  simp only [Fld.ok, Bool.and_eq_true, decide_eq_true_eq] at h
  simp only [Fld.apart, Bool.or_eq_true, bne_iff_ne, decide_eq_true_eq] at hd
  unfold RegFile.fld
  by_cases e : g.off = f.off
  · unfold RegFile.setFld
    rw [e, RegFile.rd_wr, if_pos rfl, Nat.mod_eq_of_lt (setBitsOf_lt _ _ _ _ 32 h.1 h.2 (m.rd_lt _))]
    rcases hd with (hd | hd) | hd
    · exact absurd e hd
    · exact bitsOf_setBitsOf_above _ _ _ _ _ _ h.1 hd
    · exact bitsOf_setBitsOf_below _ _ _ _ _ _ h.1 hd
  · rw [RegFile.rd_setFld_ne m f v _ e]

/-- A field of a register that was not written reads as before. -/
theorem RegFile.fld_wr_ne (m : RegFile) (off v : Nat) (g : Fld) (h : g.off ≠ off) : (m.wr off v).fld g = m.fld g := by
  unfold RegFile.fld; rw [RegFile.rd_wr, if_neg h]

/-- Every register operation keeps the canonical form of the register file. -/
theorem RegFile.wf_wr (m : RegFile) (off v : Nat) (h : Sparse.wf resetOf m = true) : Sparse.wf resetOf (m.wr off v) = true :=
  Sparse.wf_set _ _ _ _ h

end Sys2Proof.Machine
end

