-- ==== Sys2Proof/Laws/State.lean ====
section
/-!
SUPPORT. What each update of the state leaves as it was: one lemma for each field of the state and each named update.
-/
namespace Sys2Proof.Machine

/-! ### State.advance -/

@[simp] theorem State.advance_pending (t : Nat) (s : State) : (State.advance t s).pending = s.pending := rfl
@[simp] theorem State.advance_free (t : Nat) (s : State) : (State.advance t s).free = s.free := rfl
@[simp] theorem State.advance_regs (t : Nat) (s : State) : (State.advance t s).regs = s.regs := rfl
@[simp] theorem State.advance_dkl (t : Nat) (s : State) : (State.advance t s).dkl = s.dkl := rfl
@[simp] theorem State.advance_ldg (t : Nat) (s : State) : (State.advance t s).ldg = s.ldg := rfl
@[simp] theorem State.advance_adm (t : Nat) (s : State) : (State.advance t s).adm = s.adm := rfl
@[simp] theorem State.advance_pvc (t : Nat) (s : State) : (State.advance t s).pvc = s.pvc := rfl
@[simp] theorem State.advance_ama (t : Nat) (s : State) : (State.advance t s).ama = s.ama := rfl
@[simp] theorem State.advance_casc (t : Nat) (s : State) : (State.advance t s).casc = s.casc := rfl
@[simp] theorem State.advance_eng (t : Nat) (s : State) : (State.advance t s).eng = s.eng := rfl
@[simp] theorem State.advance_ports (t : Nat) (s : State) : (State.advance t s).ports = s.ports := rfl
@[simp] theorem State.advance_parts (t : Nat) (s : State) : (State.advance t s).parts = s.parts := rfl
@[simp] theorem State.advance_bnd (t : Nat) (s : State) : (State.advance t s).bnd = s.bnd := rfl
@[simp] theorem State.advance_nvm (t : Nat) (s : State) : (State.advance t s).nvm = s.nvm := rfl
@[simp] theorem State.advance_epd (t : Nat) (s : State) : (State.advance t s).epd = s.epd := rfl
@[simp] theorem State.advance_pwr (t : Nat) (s : State) : (State.advance t s).pwr = s.pwr := rfl
@[simp] theorem State.advance_sec (t : Nat) (s : State) : (State.advance t s).sec = s.sec := rfl
@[simp] theorem State.advance_hif (t : Nat) (s : State) : (State.advance t s).hif = s.hif := rfl
@[simp] theorem State.advance_pins (t : Nat) (s : State) : (State.advance t s).pins = s.pins := rfl
@[simp] theorem State.advance_chain (t : Nat) (s : State) : (State.advance t s).chain = s.chain := rfl
@[simp] theorem State.advance_col (t : Nat) (s : State) : (State.advance t s).col = s.col := rfl
@[simp] theorem State.advance_out (t : Nat) (s : State) : (State.advance t s).out = s.out := rfl
@[simp] theorem State.advance_dma (t : Nat) (s : State) : (State.advance t s).dma = s.dma := rfl
@[simp] theorem State.advance_reads (t : Nat) (s : State) : (State.advance t s).reads = s.reads := rfl

/-! ### State.setFld -/

@[simp] theorem State.setFld_pending (f : Fld) (v : Nat) (s : State) : (State.setFld f v s).pending = s.pending := rfl
@[simp] theorem State.setFld_now (f : Fld) (v : Nat) (s : State) : (State.setFld f v s).now = s.now := rfl
@[simp] theorem State.setFld_free (f : Fld) (v : Nat) (s : State) : (State.setFld f v s).free = s.free := rfl
@[simp] theorem State.setFld_dkl (f : Fld) (v : Nat) (s : State) : (State.setFld f v s).dkl = s.dkl := rfl
@[simp] theorem State.setFld_ldg (f : Fld) (v : Nat) (s : State) : (State.setFld f v s).ldg = s.ldg := rfl
@[simp] theorem State.setFld_adm (f : Fld) (v : Nat) (s : State) : (State.setFld f v s).adm = s.adm := rfl
@[simp] theorem State.setFld_pvc (f : Fld) (v : Nat) (s : State) : (State.setFld f v s).pvc = s.pvc := rfl
@[simp] theorem State.setFld_ama (f : Fld) (v : Nat) (s : State) : (State.setFld f v s).ama = s.ama := rfl
@[simp] theorem State.setFld_casc (f : Fld) (v : Nat) (s : State) : (State.setFld f v s).casc = s.casc := rfl
@[simp] theorem State.setFld_eng (f : Fld) (v : Nat) (s : State) : (State.setFld f v s).eng = s.eng := rfl
@[simp] theorem State.setFld_ports (f : Fld) (v : Nat) (s : State) : (State.setFld f v s).ports = s.ports := rfl
@[simp] theorem State.setFld_parts (f : Fld) (v : Nat) (s : State) : (State.setFld f v s).parts = s.parts := rfl
@[simp] theorem State.setFld_bnd (f : Fld) (v : Nat) (s : State) : (State.setFld f v s).bnd = s.bnd := rfl
@[simp] theorem State.setFld_nvm (f : Fld) (v : Nat) (s : State) : (State.setFld f v s).nvm = s.nvm := rfl
@[simp] theorem State.setFld_epd (f : Fld) (v : Nat) (s : State) : (State.setFld f v s).epd = s.epd := rfl
@[simp] theorem State.setFld_pwr (f : Fld) (v : Nat) (s : State) : (State.setFld f v s).pwr = s.pwr := rfl
@[simp] theorem State.setFld_sec (f : Fld) (v : Nat) (s : State) : (State.setFld f v s).sec = s.sec := rfl
@[simp] theorem State.setFld_hif (f : Fld) (v : Nat) (s : State) : (State.setFld f v s).hif = s.hif := rfl
@[simp] theorem State.setFld_pins (f : Fld) (v : Nat) (s : State) : (State.setFld f v s).pins = s.pins := rfl
@[simp] theorem State.setFld_chain (f : Fld) (v : Nat) (s : State) : (State.setFld f v s).chain = s.chain := rfl
@[simp] theorem State.setFld_col (f : Fld) (v : Nat) (s : State) : (State.setFld f v s).col = s.col := rfl
@[simp] theorem State.setFld_out (f : Fld) (v : Nat) (s : State) : (State.setFld f v s).out = s.out := rfl
@[simp] theorem State.setFld_dma (f : Fld) (v : Nat) (s : State) : (State.setFld f v s).dma = s.dma := rfl
@[simp] theorem State.setFld_reads (f : Fld) (v : Nat) (s : State) : (State.setFld f v s).reads = s.reads := rfl
@[simp] theorem State.setFld_regs (f : Fld) (v : Nat) (s : State) : (State.setFld f v s).regs = s.regs.setFld f v := rfl

/-! ### State.see -/

@[simp] theorem State.see_pending (f : Fld) (s : State) : (State.see f s).pending = s.pending := rfl
@[simp] theorem State.see_now (f : Fld) (s : State) : (State.see f s).now = s.now := rfl
@[simp] theorem State.see_free (f : Fld) (s : State) : (State.see f s).free = s.free := rfl
@[simp] theorem State.see_dkl (f : Fld) (s : State) : (State.see f s).dkl = s.dkl := rfl
@[simp] theorem State.see_ldg (f : Fld) (s : State) : (State.see f s).ldg = s.ldg := rfl
@[simp] theorem State.see_adm (f : Fld) (s : State) : (State.see f s).adm = s.adm := rfl
@[simp] theorem State.see_pvc (f : Fld) (s : State) : (State.see f s).pvc = s.pvc := rfl
@[simp] theorem State.see_ama (f : Fld) (s : State) : (State.see f s).ama = s.ama := rfl
@[simp] theorem State.see_casc (f : Fld) (s : State) : (State.see f s).casc = s.casc := rfl
@[simp] theorem State.see_eng (f : Fld) (s : State) : (State.see f s).eng = s.eng := rfl
@[simp] theorem State.see_ports (f : Fld) (s : State) : (State.see f s).ports = s.ports := rfl
@[simp] theorem State.see_parts (f : Fld) (s : State) : (State.see f s).parts = s.parts := rfl
@[simp] theorem State.see_bnd (f : Fld) (s : State) : (State.see f s).bnd = s.bnd := rfl
@[simp] theorem State.see_nvm (f : Fld) (s : State) : (State.see f s).nvm = s.nvm := rfl
@[simp] theorem State.see_epd (f : Fld) (s : State) : (State.see f s).epd = s.epd := rfl
@[simp] theorem State.see_pwr (f : Fld) (s : State) : (State.see f s).pwr = s.pwr := rfl
@[simp] theorem State.see_sec (f : Fld) (s : State) : (State.see f s).sec = s.sec := rfl
@[simp] theorem State.see_hif (f : Fld) (s : State) : (State.see f s).hif = s.hif := rfl
@[simp] theorem State.see_pins (f : Fld) (s : State) : (State.see f s).pins = s.pins := rfl
@[simp] theorem State.see_chain (f : Fld) (s : State) : (State.see f s).chain = s.chain := rfl
@[simp] theorem State.see_col (f : Fld) (s : State) : (State.see f s).col = s.col := rfl
@[simp] theorem State.see_out (f : Fld) (s : State) : (State.see f s).out = s.out := rfl
@[simp] theorem State.see_dma (f : Fld) (s : State) : (State.see f s).dma = s.dma := rfl
@[simp] theorem State.see_reads (f : Fld) (s : State) : (State.see f s).reads = s.reads := rfl
@[simp] theorem State.see_regs (f : Fld) (s : State) : (State.see f s).regs = s.regs.setFld f 1 := rfl

/-! ### State.wr -/

@[simp] theorem State.wr_pending (off v : Nat) (s : State) : (State.wr off v s).pending = s.pending := rfl
@[simp] theorem State.wr_now (off v : Nat) (s : State) : (State.wr off v s).now = s.now := rfl
@[simp] theorem State.wr_free (off v : Nat) (s : State) : (State.wr off v s).free = s.free := rfl
@[simp] theorem State.wr_dkl (off v : Nat) (s : State) : (State.wr off v s).dkl = s.dkl := rfl
@[simp] theorem State.wr_ldg (off v : Nat) (s : State) : (State.wr off v s).ldg = s.ldg := rfl
@[simp] theorem State.wr_adm (off v : Nat) (s : State) : (State.wr off v s).adm = s.adm := rfl
@[simp] theorem State.wr_pvc (off v : Nat) (s : State) : (State.wr off v s).pvc = s.pvc := rfl
@[simp] theorem State.wr_ama (off v : Nat) (s : State) : (State.wr off v s).ama = s.ama := rfl
@[simp] theorem State.wr_casc (off v : Nat) (s : State) : (State.wr off v s).casc = s.casc := rfl
@[simp] theorem State.wr_eng (off v : Nat) (s : State) : (State.wr off v s).eng = s.eng := rfl
@[simp] theorem State.wr_ports (off v : Nat) (s : State) : (State.wr off v s).ports = s.ports := rfl
@[simp] theorem State.wr_parts (off v : Nat) (s : State) : (State.wr off v s).parts = s.parts := rfl
@[simp] theorem State.wr_bnd (off v : Nat) (s : State) : (State.wr off v s).bnd = s.bnd := rfl
@[simp] theorem State.wr_nvm (off v : Nat) (s : State) : (State.wr off v s).nvm = s.nvm := rfl
@[simp] theorem State.wr_epd (off v : Nat) (s : State) : (State.wr off v s).epd = s.epd := rfl
@[simp] theorem State.wr_pwr (off v : Nat) (s : State) : (State.wr off v s).pwr = s.pwr := rfl
@[simp] theorem State.wr_sec (off v : Nat) (s : State) : (State.wr off v s).sec = s.sec := rfl
@[simp] theorem State.wr_hif (off v : Nat) (s : State) : (State.wr off v s).hif = s.hif := rfl
@[simp] theorem State.wr_pins (off v : Nat) (s : State) : (State.wr off v s).pins = s.pins := rfl
@[simp] theorem State.wr_chain (off v : Nat) (s : State) : (State.wr off v s).chain = s.chain := rfl
@[simp] theorem State.wr_col (off v : Nat) (s : State) : (State.wr off v s).col = s.col := rfl
@[simp] theorem State.wr_out (off v : Nat) (s : State) : (State.wr off v s).out = s.out := rfl
@[simp] theorem State.wr_dma (off v : Nat) (s : State) : (State.wr off v s).dma = s.dma := rfl
@[simp] theorem State.wr_reads (off v : Nat) (s : State) : (State.wr off v s).reads = s.reads := rfl
@[simp] theorem State.wr_regs (off v : Nat) (s : State) : (State.wr off v s).regs = s.regs.wr off v := rfl

/-! ### State.inc -/

@[simp] theorem State.inc_pending (off : Nat) (s : State) : (State.inc off s).pending = s.pending := rfl
@[simp] theorem State.inc_now (off : Nat) (s : State) : (State.inc off s).now = s.now := rfl
@[simp] theorem State.inc_free (off : Nat) (s : State) : (State.inc off s).free = s.free := rfl
@[simp] theorem State.inc_dkl (off : Nat) (s : State) : (State.inc off s).dkl = s.dkl := rfl
@[simp] theorem State.inc_ldg (off : Nat) (s : State) : (State.inc off s).ldg = s.ldg := rfl
@[simp] theorem State.inc_adm (off : Nat) (s : State) : (State.inc off s).adm = s.adm := rfl
@[simp] theorem State.inc_pvc (off : Nat) (s : State) : (State.inc off s).pvc = s.pvc := rfl
@[simp] theorem State.inc_ama (off : Nat) (s : State) : (State.inc off s).ama = s.ama := rfl
@[simp] theorem State.inc_casc (off : Nat) (s : State) : (State.inc off s).casc = s.casc := rfl
@[simp] theorem State.inc_eng (off : Nat) (s : State) : (State.inc off s).eng = s.eng := rfl
@[simp] theorem State.inc_ports (off : Nat) (s : State) : (State.inc off s).ports = s.ports := rfl
@[simp] theorem State.inc_parts (off : Nat) (s : State) : (State.inc off s).parts = s.parts := rfl
@[simp] theorem State.inc_bnd (off : Nat) (s : State) : (State.inc off s).bnd = s.bnd := rfl
@[simp] theorem State.inc_nvm (off : Nat) (s : State) : (State.inc off s).nvm = s.nvm := rfl
@[simp] theorem State.inc_epd (off : Nat) (s : State) : (State.inc off s).epd = s.epd := rfl
@[simp] theorem State.inc_pwr (off : Nat) (s : State) : (State.inc off s).pwr = s.pwr := rfl
@[simp] theorem State.inc_sec (off : Nat) (s : State) : (State.inc off s).sec = s.sec := rfl
@[simp] theorem State.inc_hif (off : Nat) (s : State) : (State.inc off s).hif = s.hif := rfl
@[simp] theorem State.inc_pins (off : Nat) (s : State) : (State.inc off s).pins = s.pins := rfl
@[simp] theorem State.inc_chain (off : Nat) (s : State) : (State.inc off s).chain = s.chain := rfl
@[simp] theorem State.inc_col (off : Nat) (s : State) : (State.inc off s).col = s.col := rfl
@[simp] theorem State.inc_out (off : Nat) (s : State) : (State.inc off s).out = s.out := rfl
@[simp] theorem State.inc_dma (off : Nat) (s : State) : (State.inc off s).dma = s.dma := rfl
@[simp] theorem State.inc_reads (off : Nat) (s : State) : (State.inc off s).reads = s.reads := rfl
@[simp] theorem State.inc_regs (off : Nat) (s : State) : (State.inc off s).regs = s.regs.wr off ((s.regs.rd off + 1) % 2 ^ 32) := rfl

/-! ### State.incBy -/

@[simp] theorem State.incBy_pending (off n : Nat) (s : State) : (State.incBy off n s).pending = s.pending := rfl
@[simp] theorem State.incBy_now (off n : Nat) (s : State) : (State.incBy off n s).now = s.now := rfl
@[simp] theorem State.incBy_free (off n : Nat) (s : State) : (State.incBy off n s).free = s.free := rfl
@[simp] theorem State.incBy_dkl (off n : Nat) (s : State) : (State.incBy off n s).dkl = s.dkl := rfl
@[simp] theorem State.incBy_ldg (off n : Nat) (s : State) : (State.incBy off n s).ldg = s.ldg := rfl
@[simp] theorem State.incBy_adm (off n : Nat) (s : State) : (State.incBy off n s).adm = s.adm := rfl
@[simp] theorem State.incBy_pvc (off n : Nat) (s : State) : (State.incBy off n s).pvc = s.pvc := rfl
@[simp] theorem State.incBy_ama (off n : Nat) (s : State) : (State.incBy off n s).ama = s.ama := rfl
@[simp] theorem State.incBy_casc (off n : Nat) (s : State) : (State.incBy off n s).casc = s.casc := rfl
@[simp] theorem State.incBy_eng (off n : Nat) (s : State) : (State.incBy off n s).eng = s.eng := rfl
@[simp] theorem State.incBy_ports (off n : Nat) (s : State) : (State.incBy off n s).ports = s.ports := rfl
@[simp] theorem State.incBy_parts (off n : Nat) (s : State) : (State.incBy off n s).parts = s.parts := rfl
@[simp] theorem State.incBy_bnd (off n : Nat) (s : State) : (State.incBy off n s).bnd = s.bnd := rfl
@[simp] theorem State.incBy_nvm (off n : Nat) (s : State) : (State.incBy off n s).nvm = s.nvm := rfl
@[simp] theorem State.incBy_epd (off n : Nat) (s : State) : (State.incBy off n s).epd = s.epd := rfl
@[simp] theorem State.incBy_pwr (off n : Nat) (s : State) : (State.incBy off n s).pwr = s.pwr := rfl
@[simp] theorem State.incBy_sec (off n : Nat) (s : State) : (State.incBy off n s).sec = s.sec := rfl
@[simp] theorem State.incBy_hif (off n : Nat) (s : State) : (State.incBy off n s).hif = s.hif := rfl
@[simp] theorem State.incBy_pins (off n : Nat) (s : State) : (State.incBy off n s).pins = s.pins := rfl
@[simp] theorem State.incBy_chain (off n : Nat) (s : State) : (State.incBy off n s).chain = s.chain := rfl
@[simp] theorem State.incBy_col (off n : Nat) (s : State) : (State.incBy off n s).col = s.col := rfl
@[simp] theorem State.incBy_out (off n : Nat) (s : State) : (State.incBy off n s).out = s.out := rfl
@[simp] theorem State.incBy_dma (off n : Nat) (s : State) : (State.incBy off n s).dma = s.dma := rfl
@[simp] theorem State.incBy_reads (off n : Nat) (s : State) : (State.incBy off n s).reads = s.reads := rfl
@[simp] theorem State.incBy_regs (off n : Nat) (s : State) : (State.incBy off n s).regs = s.regs.wr off ((s.regs.rd off + n) % 2 ^ 32) := rfl

/-! ### State.raise -/

@[simp] theorem State.raise_pending (off v : Nat) (s : State) : (State.raise off v s).pending = s.pending := rfl
@[simp] theorem State.raise_now (off v : Nat) (s : State) : (State.raise off v s).now = s.now := rfl
@[simp] theorem State.raise_free (off v : Nat) (s : State) : (State.raise off v s).free = s.free := rfl
@[simp] theorem State.raise_dkl (off v : Nat) (s : State) : (State.raise off v s).dkl = s.dkl := rfl
@[simp] theorem State.raise_ldg (off v : Nat) (s : State) : (State.raise off v s).ldg = s.ldg := rfl
@[simp] theorem State.raise_adm (off v : Nat) (s : State) : (State.raise off v s).adm = s.adm := rfl
@[simp] theorem State.raise_pvc (off v : Nat) (s : State) : (State.raise off v s).pvc = s.pvc := rfl
@[simp] theorem State.raise_ama (off v : Nat) (s : State) : (State.raise off v s).ama = s.ama := rfl
@[simp] theorem State.raise_casc (off v : Nat) (s : State) : (State.raise off v s).casc = s.casc := rfl
@[simp] theorem State.raise_eng (off v : Nat) (s : State) : (State.raise off v s).eng = s.eng := rfl
@[simp] theorem State.raise_ports (off v : Nat) (s : State) : (State.raise off v s).ports = s.ports := rfl
@[simp] theorem State.raise_parts (off v : Nat) (s : State) : (State.raise off v s).parts = s.parts := rfl
@[simp] theorem State.raise_bnd (off v : Nat) (s : State) : (State.raise off v s).bnd = s.bnd := rfl
@[simp] theorem State.raise_nvm (off v : Nat) (s : State) : (State.raise off v s).nvm = s.nvm := rfl
@[simp] theorem State.raise_epd (off v : Nat) (s : State) : (State.raise off v s).epd = s.epd := rfl
@[simp] theorem State.raise_pwr (off v : Nat) (s : State) : (State.raise off v s).pwr = s.pwr := rfl
@[simp] theorem State.raise_sec (off v : Nat) (s : State) : (State.raise off v s).sec = s.sec := rfl
@[simp] theorem State.raise_hif (off v : Nat) (s : State) : (State.raise off v s).hif = s.hif := rfl
@[simp] theorem State.raise_pins (off v : Nat) (s : State) : (State.raise off v s).pins = s.pins := rfl
@[simp] theorem State.raise_chain (off v : Nat) (s : State) : (State.raise off v s).chain = s.chain := rfl
@[simp] theorem State.raise_col (off v : Nat) (s : State) : (State.raise off v s).col = s.col := rfl
@[simp] theorem State.raise_out (off v : Nat) (s : State) : (State.raise off v s).out = s.out := rfl
@[simp] theorem State.raise_dma (off v : Nat) (s : State) : (State.raise off v s).dma = s.dma := rfl
@[simp] theorem State.raise_reads (off v : Nat) (s : State) : (State.raise off v s).reads = s.reads := rfl
@[simp] theorem State.raise_regs (off v : Nat) (s : State) : (State.raise off v s).regs = s.regs.wr off (max (s.regs.rd off) (sat32 v)) := rfl

/-! ### State.setFolio -/

@[simp] theorem State.setFolio_pending (n : Nat) (f : Folio) (s : State) : (State.setFolio n f s).pending = s.pending := rfl
@[simp] theorem State.setFolio_now (n : Nat) (f : Folio) (s : State) : (State.setFolio n f s).now = s.now := rfl
@[simp] theorem State.setFolio_free (n : Nat) (f : Folio) (s : State) : (State.setFolio n f s).free = s.free := rfl
@[simp] theorem State.setFolio_regs (n : Nat) (f : Folio) (s : State) : (State.setFolio n f s).regs = s.regs := rfl
@[simp] theorem State.setFolio_dkl (n : Nat) (f : Folio) (s : State) : (State.setFolio n f s).dkl = s.dkl := rfl
@[simp] theorem State.setFolio_adm (n : Nat) (f : Folio) (s : State) : (State.setFolio n f s).adm = s.adm := rfl
@[simp] theorem State.setFolio_pvc (n : Nat) (f : Folio) (s : State) : (State.setFolio n f s).pvc = s.pvc := rfl
@[simp] theorem State.setFolio_ama (n : Nat) (f : Folio) (s : State) : (State.setFolio n f s).ama = s.ama := rfl
@[simp] theorem State.setFolio_casc (n : Nat) (f : Folio) (s : State) : (State.setFolio n f s).casc = s.casc := rfl
@[simp] theorem State.setFolio_eng (n : Nat) (f : Folio) (s : State) : (State.setFolio n f s).eng = s.eng := rfl
@[simp] theorem State.setFolio_ports (n : Nat) (f : Folio) (s : State) : (State.setFolio n f s).ports = s.ports := rfl
@[simp] theorem State.setFolio_parts (n : Nat) (f : Folio) (s : State) : (State.setFolio n f s).parts = s.parts := rfl
@[simp] theorem State.setFolio_bnd (n : Nat) (f : Folio) (s : State) : (State.setFolio n f s).bnd = s.bnd := rfl
@[simp] theorem State.setFolio_nvm (n : Nat) (f : Folio) (s : State) : (State.setFolio n f s).nvm = s.nvm := rfl
@[simp] theorem State.setFolio_epd (n : Nat) (f : Folio) (s : State) : (State.setFolio n f s).epd = s.epd := rfl
@[simp] theorem State.setFolio_pwr (n : Nat) (f : Folio) (s : State) : (State.setFolio n f s).pwr = s.pwr := rfl
@[simp] theorem State.setFolio_sec (n : Nat) (f : Folio) (s : State) : (State.setFolio n f s).sec = s.sec := rfl
@[simp] theorem State.setFolio_hif (n : Nat) (f : Folio) (s : State) : (State.setFolio n f s).hif = s.hif := rfl
@[simp] theorem State.setFolio_pins (n : Nat) (f : Folio) (s : State) : (State.setFolio n f s).pins = s.pins := rfl
@[simp] theorem State.setFolio_chain (n : Nat) (f : Folio) (s : State) : (State.setFolio n f s).chain = s.chain := rfl
@[simp] theorem State.setFolio_col (n : Nat) (f : Folio) (s : State) : (State.setFolio n f s).col = s.col := rfl
@[simp] theorem State.setFolio_out (n : Nat) (f : Folio) (s : State) : (State.setFolio n f s).out = s.out := rfl
@[simp] theorem State.setFolio_dma (n : Nat) (f : Folio) (s : State) : (State.setFolio n f s).dma = s.dma := rfl
@[simp] theorem State.setFolio_reads (n : Nat) (f : Folio) (s : State) : (State.setFolio n f s).reads = s.reads := rfl

/-! ### State.updFolio -/

@[simp] theorem State.updFolio_pending (n : Nat) (g : Folio → Folio) (s : State) : (State.updFolio n g s).pending = s.pending := rfl
@[simp] theorem State.updFolio_now (n : Nat) (g : Folio → Folio) (s : State) : (State.updFolio n g s).now = s.now := rfl
@[simp] theorem State.updFolio_free (n : Nat) (g : Folio → Folio) (s : State) : (State.updFolio n g s).free = s.free := rfl
@[simp] theorem State.updFolio_regs (n : Nat) (g : Folio → Folio) (s : State) : (State.updFolio n g s).regs = s.regs := rfl
@[simp] theorem State.updFolio_dkl (n : Nat) (g : Folio → Folio) (s : State) : (State.updFolio n g s).dkl = s.dkl := rfl
@[simp] theorem State.updFolio_adm (n : Nat) (g : Folio → Folio) (s : State) : (State.updFolio n g s).adm = s.adm := rfl
@[simp] theorem State.updFolio_pvc (n : Nat) (g : Folio → Folio) (s : State) : (State.updFolio n g s).pvc = s.pvc := rfl
@[simp] theorem State.updFolio_ama (n : Nat) (g : Folio → Folio) (s : State) : (State.updFolio n g s).ama = s.ama := rfl
@[simp] theorem State.updFolio_casc (n : Nat) (g : Folio → Folio) (s : State) : (State.updFolio n g s).casc = s.casc := rfl
@[simp] theorem State.updFolio_eng (n : Nat) (g : Folio → Folio) (s : State) : (State.updFolio n g s).eng = s.eng := rfl
@[simp] theorem State.updFolio_ports (n : Nat) (g : Folio → Folio) (s : State) : (State.updFolio n g s).ports = s.ports := rfl
@[simp] theorem State.updFolio_parts (n : Nat) (g : Folio → Folio) (s : State) : (State.updFolio n g s).parts = s.parts := rfl
@[simp] theorem State.updFolio_bnd (n : Nat) (g : Folio → Folio) (s : State) : (State.updFolio n g s).bnd = s.bnd := rfl
@[simp] theorem State.updFolio_nvm (n : Nat) (g : Folio → Folio) (s : State) : (State.updFolio n g s).nvm = s.nvm := rfl
@[simp] theorem State.updFolio_epd (n : Nat) (g : Folio → Folio) (s : State) : (State.updFolio n g s).epd = s.epd := rfl
@[simp] theorem State.updFolio_pwr (n : Nat) (g : Folio → Folio) (s : State) : (State.updFolio n g s).pwr = s.pwr := rfl
@[simp] theorem State.updFolio_sec (n : Nat) (g : Folio → Folio) (s : State) : (State.updFolio n g s).sec = s.sec := rfl
@[simp] theorem State.updFolio_hif (n : Nat) (g : Folio → Folio) (s : State) : (State.updFolio n g s).hif = s.hif := rfl
@[simp] theorem State.updFolio_pins (n : Nat) (g : Folio → Folio) (s : State) : (State.updFolio n g s).pins = s.pins := rfl
@[simp] theorem State.updFolio_chain (n : Nat) (g : Folio → Folio) (s : State) : (State.updFolio n g s).chain = s.chain := rfl
@[simp] theorem State.updFolio_col (n : Nat) (g : Folio → Folio) (s : State) : (State.updFolio n g s).col = s.col := rfl
@[simp] theorem State.updFolio_out (n : Nat) (g : Folio → Folio) (s : State) : (State.updFolio n g s).out = s.out := rfl
@[simp] theorem State.updFolio_dma (n : Nat) (g : Folio → Folio) (s : State) : (State.updFolio n g s).dma = s.dma := rfl
@[simp] theorem State.updFolio_reads (n : Nat) (g : Folio → Folio) (s : State) : (State.updFolio n g s).reads = s.reads := rfl

/-! ### State.setRun -/

@[simp] theorem State.setRun_pending (n : Nat) (r : FRun) (s : State) : (State.setRun n r s).pending = s.pending := rfl
@[simp] theorem State.setRun_now (n : Nat) (r : FRun) (s : State) : (State.setRun n r s).now = s.now := rfl
@[simp] theorem State.setRun_free (n : Nat) (r : FRun) (s : State) : (State.setRun n r s).free = s.free := rfl
@[simp] theorem State.setRun_regs (n : Nat) (r : FRun) (s : State) : (State.setRun n r s).regs = s.regs := rfl
@[simp] theorem State.setRun_dkl (n : Nat) (r : FRun) (s : State) : (State.setRun n r s).dkl = s.dkl := rfl
@[simp] theorem State.setRun_adm (n : Nat) (r : FRun) (s : State) : (State.setRun n r s).adm = s.adm := rfl
@[simp] theorem State.setRun_pvc (n : Nat) (r : FRun) (s : State) : (State.setRun n r s).pvc = s.pvc := rfl
@[simp] theorem State.setRun_ama (n : Nat) (r : FRun) (s : State) : (State.setRun n r s).ama = s.ama := rfl
@[simp] theorem State.setRun_casc (n : Nat) (r : FRun) (s : State) : (State.setRun n r s).casc = s.casc := rfl
@[simp] theorem State.setRun_eng (n : Nat) (r : FRun) (s : State) : (State.setRun n r s).eng = s.eng := rfl
@[simp] theorem State.setRun_ports (n : Nat) (r : FRun) (s : State) : (State.setRun n r s).ports = s.ports := rfl
@[simp] theorem State.setRun_parts (n : Nat) (r : FRun) (s : State) : (State.setRun n r s).parts = s.parts := rfl
@[simp] theorem State.setRun_bnd (n : Nat) (r : FRun) (s : State) : (State.setRun n r s).bnd = s.bnd := rfl
@[simp] theorem State.setRun_nvm (n : Nat) (r : FRun) (s : State) : (State.setRun n r s).nvm = s.nvm := rfl
@[simp] theorem State.setRun_epd (n : Nat) (r : FRun) (s : State) : (State.setRun n r s).epd = s.epd := rfl
@[simp] theorem State.setRun_pwr (n : Nat) (r : FRun) (s : State) : (State.setRun n r s).pwr = s.pwr := rfl
@[simp] theorem State.setRun_sec (n : Nat) (r : FRun) (s : State) : (State.setRun n r s).sec = s.sec := rfl
@[simp] theorem State.setRun_hif (n : Nat) (r : FRun) (s : State) : (State.setRun n r s).hif = s.hif := rfl
@[simp] theorem State.setRun_pins (n : Nat) (r : FRun) (s : State) : (State.setRun n r s).pins = s.pins := rfl
@[simp] theorem State.setRun_chain (n : Nat) (r : FRun) (s : State) : (State.setRun n r s).chain = s.chain := rfl
@[simp] theorem State.setRun_col (n : Nat) (r : FRun) (s : State) : (State.setRun n r s).col = s.col := rfl
@[simp] theorem State.setRun_out (n : Nat) (r : FRun) (s : State) : (State.setRun n r s).out = s.out := rfl
@[simp] theorem State.setRun_dma (n : Nat) (r : FRun) (s : State) : (State.setRun n r s).dma = s.dma := rfl
@[simp] theorem State.setRun_reads (n : Nat) (r : FRun) (s : State) : (State.setRun n r s).reads = s.reads := rfl

/-! ### State.updRun -/

@[simp] theorem State.updRun_pending (n : Nat) (g : FRun → FRun) (s : State) : (State.updRun n g s).pending = s.pending := rfl
@[simp] theorem State.updRun_now (n : Nat) (g : FRun → FRun) (s : State) : (State.updRun n g s).now = s.now := rfl
@[simp] theorem State.updRun_free (n : Nat) (g : FRun → FRun) (s : State) : (State.updRun n g s).free = s.free := rfl
@[simp] theorem State.updRun_regs (n : Nat) (g : FRun → FRun) (s : State) : (State.updRun n g s).regs = s.regs := rfl
@[simp] theorem State.updRun_dkl (n : Nat) (g : FRun → FRun) (s : State) : (State.updRun n g s).dkl = s.dkl := rfl
@[simp] theorem State.updRun_adm (n : Nat) (g : FRun → FRun) (s : State) : (State.updRun n g s).adm = s.adm := rfl
@[simp] theorem State.updRun_pvc (n : Nat) (g : FRun → FRun) (s : State) : (State.updRun n g s).pvc = s.pvc := rfl
@[simp] theorem State.updRun_ama (n : Nat) (g : FRun → FRun) (s : State) : (State.updRun n g s).ama = s.ama := rfl
@[simp] theorem State.updRun_casc (n : Nat) (g : FRun → FRun) (s : State) : (State.updRun n g s).casc = s.casc := rfl
@[simp] theorem State.updRun_eng (n : Nat) (g : FRun → FRun) (s : State) : (State.updRun n g s).eng = s.eng := rfl
@[simp] theorem State.updRun_ports (n : Nat) (g : FRun → FRun) (s : State) : (State.updRun n g s).ports = s.ports := rfl
@[simp] theorem State.updRun_parts (n : Nat) (g : FRun → FRun) (s : State) : (State.updRun n g s).parts = s.parts := rfl
@[simp] theorem State.updRun_bnd (n : Nat) (g : FRun → FRun) (s : State) : (State.updRun n g s).bnd = s.bnd := rfl
@[simp] theorem State.updRun_nvm (n : Nat) (g : FRun → FRun) (s : State) : (State.updRun n g s).nvm = s.nvm := rfl
@[simp] theorem State.updRun_epd (n : Nat) (g : FRun → FRun) (s : State) : (State.updRun n g s).epd = s.epd := rfl
@[simp] theorem State.updRun_pwr (n : Nat) (g : FRun → FRun) (s : State) : (State.updRun n g s).pwr = s.pwr := rfl
@[simp] theorem State.updRun_sec (n : Nat) (g : FRun → FRun) (s : State) : (State.updRun n g s).sec = s.sec := rfl
@[simp] theorem State.updRun_hif (n : Nat) (g : FRun → FRun) (s : State) : (State.updRun n g s).hif = s.hif := rfl
@[simp] theorem State.updRun_pins (n : Nat) (g : FRun → FRun) (s : State) : (State.updRun n g s).pins = s.pins := rfl
@[simp] theorem State.updRun_chain (n : Nat) (g : FRun → FRun) (s : State) : (State.updRun n g s).chain = s.chain := rfl
@[simp] theorem State.updRun_col (n : Nat) (g : FRun → FRun) (s : State) : (State.updRun n g s).col = s.col := rfl
@[simp] theorem State.updRun_out (n : Nat) (g : FRun → FRun) (s : State) : (State.updRun n g s).out = s.out := rfl
@[simp] theorem State.updRun_dma (n : Nat) (g : FRun → FRun) (s : State) : (State.updRun n g s).dma = s.dma := rfl
@[simp] theorem State.updRun_reads (n : Nat) (g : FRun → FRun) (s : State) : (State.updRun n g s).reads = s.reads := rfl

/-! ### State.enter -/

@[simp] theorem State.enter_pending (c : Col) (s : State) : (State.enter c s).pending = s.pending := rfl
@[simp] theorem State.enter_now (c : Col) (s : State) : (State.enter c s).now = s.now := rfl
@[simp] theorem State.enter_free (c : Col) (s : State) : (State.enter c s).free = s.free := rfl
@[simp] theorem State.enter_regs (c : Col) (s : State) : (State.enter c s).regs = s.regs := rfl
@[simp] theorem State.enter_dkl (c : Col) (s : State) : (State.enter c s).dkl = s.dkl := rfl
@[simp] theorem State.enter_ldg (c : Col) (s : State) : (State.enter c s).ldg = s.ldg := rfl
@[simp] theorem State.enter_adm (c : Col) (s : State) : (State.enter c s).adm = s.adm := rfl
@[simp] theorem State.enter_pvc (c : Col) (s : State) : (State.enter c s).pvc = s.pvc := rfl
@[simp] theorem State.enter_ama (c : Col) (s : State) : (State.enter c s).ama = s.ama := rfl
@[simp] theorem State.enter_casc (c : Col) (s : State) : (State.enter c s).casc = s.casc := rfl
@[simp] theorem State.enter_eng (c : Col) (s : State) : (State.enter c s).eng = s.eng := rfl
@[simp] theorem State.enter_ports (c : Col) (s : State) : (State.enter c s).ports = s.ports := rfl
@[simp] theorem State.enter_parts (c : Col) (s : State) : (State.enter c s).parts = s.parts := rfl
@[simp] theorem State.enter_bnd (c : Col) (s : State) : (State.enter c s).bnd = s.bnd := rfl
@[simp] theorem State.enter_nvm (c : Col) (s : State) : (State.enter c s).nvm = s.nvm := rfl
@[simp] theorem State.enter_epd (c : Col) (s : State) : (State.enter c s).epd = s.epd := rfl
@[simp] theorem State.enter_pwr (c : Col) (s : State) : (State.enter c s).pwr = s.pwr := rfl
@[simp] theorem State.enter_sec (c : Col) (s : State) : (State.enter c s).sec = s.sec := rfl
@[simp] theorem State.enter_hif (c : Col) (s : State) : (State.enter c s).hif = s.hif := rfl
@[simp] theorem State.enter_pins (c : Col) (s : State) : (State.enter c s).pins = s.pins := rfl
@[simp] theorem State.enter_col (c : Col) (s : State) : (State.enter c s).col = s.col := rfl
@[simp] theorem State.enter_out (c : Col) (s : State) : (State.enter c s).out = s.out := rfl
@[simp] theorem State.enter_dma (c : Col) (s : State) : (State.enter c s).dma = s.dma := rfl
@[simp] theorem State.enter_reads (c : Col) (s : State) : (State.enter c s).reads = s.reads := rfl

/-! ### State.updPort -/

@[simp] theorem State.updPort_pending (p : Nat) (g : Port → Port) (s : State) : (State.updPort p g s).pending = s.pending := rfl
@[simp] theorem State.updPort_now (p : Nat) (g : Port → Port) (s : State) : (State.updPort p g s).now = s.now := rfl
@[simp] theorem State.updPort_free (p : Nat) (g : Port → Port) (s : State) : (State.updPort p g s).free = s.free := rfl
@[simp] theorem State.updPort_regs (p : Nat) (g : Port → Port) (s : State) : (State.updPort p g s).regs = s.regs := rfl
@[simp] theorem State.updPort_dkl (p : Nat) (g : Port → Port) (s : State) : (State.updPort p g s).dkl = s.dkl := rfl
@[simp] theorem State.updPort_ldg (p : Nat) (g : Port → Port) (s : State) : (State.updPort p g s).ldg = s.ldg := rfl
@[simp] theorem State.updPort_adm (p : Nat) (g : Port → Port) (s : State) : (State.updPort p g s).adm = s.adm := rfl
@[simp] theorem State.updPort_pvc (p : Nat) (g : Port → Port) (s : State) : (State.updPort p g s).pvc = s.pvc := rfl
@[simp] theorem State.updPort_ama (p : Nat) (g : Port → Port) (s : State) : (State.updPort p g s).ama = s.ama := rfl
@[simp] theorem State.updPort_casc (p : Nat) (g : Port → Port) (s : State) : (State.updPort p g s).casc = s.casc := rfl
@[simp] theorem State.updPort_eng (p : Nat) (g : Port → Port) (s : State) : (State.updPort p g s).eng = s.eng := rfl
@[simp] theorem State.updPort_parts (p : Nat) (g : Port → Port) (s : State) : (State.updPort p g s).parts = s.parts := rfl
@[simp] theorem State.updPort_bnd (p : Nat) (g : Port → Port) (s : State) : (State.updPort p g s).bnd = s.bnd := rfl
@[simp] theorem State.updPort_nvm (p : Nat) (g : Port → Port) (s : State) : (State.updPort p g s).nvm = s.nvm := rfl
@[simp] theorem State.updPort_epd (p : Nat) (g : Port → Port) (s : State) : (State.updPort p g s).epd = s.epd := rfl
@[simp] theorem State.updPort_pwr (p : Nat) (g : Port → Port) (s : State) : (State.updPort p g s).pwr = s.pwr := rfl
@[simp] theorem State.updPort_sec (p : Nat) (g : Port → Port) (s : State) : (State.updPort p g s).sec = s.sec := rfl
@[simp] theorem State.updPort_hif (p : Nat) (g : Port → Port) (s : State) : (State.updPort p g s).hif = s.hif := rfl
@[simp] theorem State.updPort_pins (p : Nat) (g : Port → Port) (s : State) : (State.updPort p g s).pins = s.pins := rfl
@[simp] theorem State.updPort_chain (p : Nat) (g : Port → Port) (s : State) : (State.updPort p g s).chain = s.chain := rfl
@[simp] theorem State.updPort_col (p : Nat) (g : Port → Port) (s : State) : (State.updPort p g s).col = s.col := rfl
@[simp] theorem State.updPort_out (p : Nat) (g : Port → Port) (s : State) : (State.updPort p g s).out = s.out := rfl
@[simp] theorem State.updPort_dma (p : Nat) (g : Port → Port) (s : State) : (State.updPort p g s).dma = s.dma := rfl
@[simp] theorem State.updPort_reads (p : Nat) (g : Port → Port) (s : State) : (State.updPort p g s).reads = s.reads := rfl

/-! ### State.updPartner -/

@[simp] theorem State.updPartner_pending (n : Nat) (g : Partner → Partner) (s : State) : (State.updPartner n g s).pending = s.pending := rfl
@[simp] theorem State.updPartner_now (n : Nat) (g : Partner → Partner) (s : State) : (State.updPartner n g s).now = s.now := rfl
@[simp] theorem State.updPartner_free (n : Nat) (g : Partner → Partner) (s : State) : (State.updPartner n g s).free = s.free := rfl
@[simp] theorem State.updPartner_regs (n : Nat) (g : Partner → Partner) (s : State) : (State.updPartner n g s).regs = s.regs := rfl
@[simp] theorem State.updPartner_dkl (n : Nat) (g : Partner → Partner) (s : State) : (State.updPartner n g s).dkl = s.dkl := rfl
@[simp] theorem State.updPartner_ldg (n : Nat) (g : Partner → Partner) (s : State) : (State.updPartner n g s).ldg = s.ldg := rfl
@[simp] theorem State.updPartner_adm (n : Nat) (g : Partner → Partner) (s : State) : (State.updPartner n g s).adm = s.adm := rfl
@[simp] theorem State.updPartner_pvc (n : Nat) (g : Partner → Partner) (s : State) : (State.updPartner n g s).pvc = s.pvc := rfl
@[simp] theorem State.updPartner_ama (n : Nat) (g : Partner → Partner) (s : State) : (State.updPartner n g s).ama = s.ama := rfl
@[simp] theorem State.updPartner_casc (n : Nat) (g : Partner → Partner) (s : State) : (State.updPartner n g s).casc = s.casc := rfl
@[simp] theorem State.updPartner_eng (n : Nat) (g : Partner → Partner) (s : State) : (State.updPartner n g s).eng = s.eng := rfl
@[simp] theorem State.updPartner_ports (n : Nat) (g : Partner → Partner) (s : State) : (State.updPartner n g s).ports = s.ports := rfl
@[simp] theorem State.updPartner_bnd (n : Nat) (g : Partner → Partner) (s : State) : (State.updPartner n g s).bnd = s.bnd := rfl
@[simp] theorem State.updPartner_nvm (n : Nat) (g : Partner → Partner) (s : State) : (State.updPartner n g s).nvm = s.nvm := rfl
@[simp] theorem State.updPartner_epd (n : Nat) (g : Partner → Partner) (s : State) : (State.updPartner n g s).epd = s.epd := rfl
@[simp] theorem State.updPartner_pwr (n : Nat) (g : Partner → Partner) (s : State) : (State.updPartner n g s).pwr = s.pwr := rfl
@[simp] theorem State.updPartner_sec (n : Nat) (g : Partner → Partner) (s : State) : (State.updPartner n g s).sec = s.sec := rfl
@[simp] theorem State.updPartner_hif (n : Nat) (g : Partner → Partner) (s : State) : (State.updPartner n g s).hif = s.hif := rfl
@[simp] theorem State.updPartner_pins (n : Nat) (g : Partner → Partner) (s : State) : (State.updPartner n g s).pins = s.pins := rfl
@[simp] theorem State.updPartner_chain (n : Nat) (g : Partner → Partner) (s : State) : (State.updPartner n g s).chain = s.chain := rfl
@[simp] theorem State.updPartner_col (n : Nat) (g : Partner → Partner) (s : State) : (State.updPartner n g s).col = s.col := rfl
@[simp] theorem State.updPartner_out (n : Nat) (g : Partner → Partner) (s : State) : (State.updPartner n g s).out = s.out := rfl
@[simp] theorem State.updPartner_dma (n : Nat) (g : Partner → Partner) (s : State) : (State.updPartner n g s).dma = s.dma := rfl
@[simp] theorem State.updPartner_reads (n : Nat) (g : Partner → Partner) (s : State) : (State.updPartner n g s).reads = s.reads := rfl

/-! ### State.updItem -/

@[simp] theorem State.updItem_pending (id : Nat) (g : Item → Item) (s : State) : (State.updItem id g s).pending = s.pending := rfl
@[simp] theorem State.updItem_now (id : Nat) (g : Item → Item) (s : State) : (State.updItem id g s).now = s.now := rfl
@[simp] theorem State.updItem_free (id : Nat) (g : Item → Item) (s : State) : (State.updItem id g s).free = s.free := rfl
@[simp] theorem State.updItem_regs (id : Nat) (g : Item → Item) (s : State) : (State.updItem id g s).regs = s.regs := rfl
@[simp] theorem State.updItem_dkl (id : Nat) (g : Item → Item) (s : State) : (State.updItem id g s).dkl = s.dkl := rfl
@[simp] theorem State.updItem_ldg (id : Nat) (g : Item → Item) (s : State) : (State.updItem id g s).ldg = s.ldg := rfl
@[simp] theorem State.updItem_pvc (id : Nat) (g : Item → Item) (s : State) : (State.updItem id g s).pvc = s.pvc := rfl
@[simp] theorem State.updItem_ama (id : Nat) (g : Item → Item) (s : State) : (State.updItem id g s).ama = s.ama := rfl
@[simp] theorem State.updItem_casc (id : Nat) (g : Item → Item) (s : State) : (State.updItem id g s).casc = s.casc := rfl
@[simp] theorem State.updItem_eng (id : Nat) (g : Item → Item) (s : State) : (State.updItem id g s).eng = s.eng := rfl
@[simp] theorem State.updItem_ports (id : Nat) (g : Item → Item) (s : State) : (State.updItem id g s).ports = s.ports := rfl
@[simp] theorem State.updItem_parts (id : Nat) (g : Item → Item) (s : State) : (State.updItem id g s).parts = s.parts := rfl
@[simp] theorem State.updItem_bnd (id : Nat) (g : Item → Item) (s : State) : (State.updItem id g s).bnd = s.bnd := rfl
@[simp] theorem State.updItem_nvm (id : Nat) (g : Item → Item) (s : State) : (State.updItem id g s).nvm = s.nvm := rfl
@[simp] theorem State.updItem_epd (id : Nat) (g : Item → Item) (s : State) : (State.updItem id g s).epd = s.epd := rfl
@[simp] theorem State.updItem_pwr (id : Nat) (g : Item → Item) (s : State) : (State.updItem id g s).pwr = s.pwr := rfl
@[simp] theorem State.updItem_sec (id : Nat) (g : Item → Item) (s : State) : (State.updItem id g s).sec = s.sec := rfl
@[simp] theorem State.updItem_hif (id : Nat) (g : Item → Item) (s : State) : (State.updItem id g s).hif = s.hif := rfl
@[simp] theorem State.updItem_pins (id : Nat) (g : Item → Item) (s : State) : (State.updItem id g s).pins = s.pins := rfl
@[simp] theorem State.updItem_chain (id : Nat) (g : Item → Item) (s : State) : (State.updItem id g s).chain = s.chain := rfl
@[simp] theorem State.updItem_col (id : Nat) (g : Item → Item) (s : State) : (State.updItem id g s).col = s.col := rfl
@[simp] theorem State.updItem_out (id : Nat) (g : Item → Item) (s : State) : (State.updItem id g s).out = s.out := rfl
@[simp] theorem State.updItem_dma (id : Nat) (g : Item → Item) (s : State) : (State.updItem id g s).dma = s.dma := rfl
@[simp] theorem State.updItem_reads (id : Nat) (g : Item → Item) (s : State) : (State.updItem id g s).reads = s.reads := rfl

/-! ### State.updMsix -/

@[simp] theorem State.updMsix_pending (k : Nat) (g : MsixEnt → MsixEnt) (s : State) : (State.updMsix k g s).pending = s.pending := rfl
@[simp] theorem State.updMsix_now (k : Nat) (g : MsixEnt → MsixEnt) (s : State) : (State.updMsix k g s).now = s.now := rfl
@[simp] theorem State.updMsix_free (k : Nat) (g : MsixEnt → MsixEnt) (s : State) : (State.updMsix k g s).free = s.free := rfl
@[simp] theorem State.updMsix_regs (k : Nat) (g : MsixEnt → MsixEnt) (s : State) : (State.updMsix k g s).regs = s.regs := rfl
@[simp] theorem State.updMsix_dkl (k : Nat) (g : MsixEnt → MsixEnt) (s : State) : (State.updMsix k g s).dkl = s.dkl := rfl
@[simp] theorem State.updMsix_ldg (k : Nat) (g : MsixEnt → MsixEnt) (s : State) : (State.updMsix k g s).ldg = s.ldg := rfl
@[simp] theorem State.updMsix_adm (k : Nat) (g : MsixEnt → MsixEnt) (s : State) : (State.updMsix k g s).adm = s.adm := rfl
@[simp] theorem State.updMsix_pvc (k : Nat) (g : MsixEnt → MsixEnt) (s : State) : (State.updMsix k g s).pvc = s.pvc := rfl
@[simp] theorem State.updMsix_ama (k : Nat) (g : MsixEnt → MsixEnt) (s : State) : (State.updMsix k g s).ama = s.ama := rfl
@[simp] theorem State.updMsix_casc (k : Nat) (g : MsixEnt → MsixEnt) (s : State) : (State.updMsix k g s).casc = s.casc := rfl
@[simp] theorem State.updMsix_eng (k : Nat) (g : MsixEnt → MsixEnt) (s : State) : (State.updMsix k g s).eng = s.eng := rfl
@[simp] theorem State.updMsix_ports (k : Nat) (g : MsixEnt → MsixEnt) (s : State) : (State.updMsix k g s).ports = s.ports := rfl
@[simp] theorem State.updMsix_parts (k : Nat) (g : MsixEnt → MsixEnt) (s : State) : (State.updMsix k g s).parts = s.parts := rfl
@[simp] theorem State.updMsix_bnd (k : Nat) (g : MsixEnt → MsixEnt) (s : State) : (State.updMsix k g s).bnd = s.bnd := rfl
@[simp] theorem State.updMsix_nvm (k : Nat) (g : MsixEnt → MsixEnt) (s : State) : (State.updMsix k g s).nvm = s.nvm := rfl
@[simp] theorem State.updMsix_epd (k : Nat) (g : MsixEnt → MsixEnt) (s : State) : (State.updMsix k g s).epd = s.epd := rfl
@[simp] theorem State.updMsix_pwr (k : Nat) (g : MsixEnt → MsixEnt) (s : State) : (State.updMsix k g s).pwr = s.pwr := rfl
@[simp] theorem State.updMsix_sec (k : Nat) (g : MsixEnt → MsixEnt) (s : State) : (State.updMsix k g s).sec = s.sec := rfl
@[simp] theorem State.updMsix_pins (k : Nat) (g : MsixEnt → MsixEnt) (s : State) : (State.updMsix k g s).pins = s.pins := rfl
@[simp] theorem State.updMsix_chain (k : Nat) (g : MsixEnt → MsixEnt) (s : State) : (State.updMsix k g s).chain = s.chain := rfl
@[simp] theorem State.updMsix_col (k : Nat) (g : MsixEnt → MsixEnt) (s : State) : (State.updMsix k g s).col = s.col := rfl
@[simp] theorem State.updMsix_out (k : Nat) (g : MsixEnt → MsixEnt) (s : State) : (State.updMsix k g s).out = s.out := rfl
@[simp] theorem State.updMsix_dma (k : Nat) (g : MsixEnt → MsixEnt) (s : State) : (State.updMsix k g s).dma = s.dma := rfl
@[simp] theorem State.updMsix_reads (k : Nat) (g : MsixEnt → MsixEnt) (s : State) : (State.updMsix k g s).reads = s.reads := rfl

/-! ### State.dmaWrite -/

@[simp] theorem State.dmaWrite_pending (w o : Nat) (bs : Bytes) (s : State) : (State.dmaWrite w o bs s).pending = s.pending := rfl
@[simp] theorem State.dmaWrite_now (w o : Nat) (bs : Bytes) (s : State) : (State.dmaWrite w o bs s).now = s.now := rfl
@[simp] theorem State.dmaWrite_free (w o : Nat) (bs : Bytes) (s : State) : (State.dmaWrite w o bs s).free = s.free := rfl
@[simp] theorem State.dmaWrite_regs (w o : Nat) (bs : Bytes) (s : State) : (State.dmaWrite w o bs s).regs = s.regs := rfl
@[simp] theorem State.dmaWrite_dkl (w o : Nat) (bs : Bytes) (s : State) : (State.dmaWrite w o bs s).dkl = s.dkl := rfl
@[simp] theorem State.dmaWrite_ldg (w o : Nat) (bs : Bytes) (s : State) : (State.dmaWrite w o bs s).ldg = s.ldg := rfl
@[simp] theorem State.dmaWrite_adm (w o : Nat) (bs : Bytes) (s : State) : (State.dmaWrite w o bs s).adm = s.adm := rfl
@[simp] theorem State.dmaWrite_pvc (w o : Nat) (bs : Bytes) (s : State) : (State.dmaWrite w o bs s).pvc = s.pvc := rfl
@[simp] theorem State.dmaWrite_ama (w o : Nat) (bs : Bytes) (s : State) : (State.dmaWrite w o bs s).ama = s.ama := rfl
@[simp] theorem State.dmaWrite_casc (w o : Nat) (bs : Bytes) (s : State) : (State.dmaWrite w o bs s).casc = s.casc := rfl
@[simp] theorem State.dmaWrite_eng (w o : Nat) (bs : Bytes) (s : State) : (State.dmaWrite w o bs s).eng = s.eng := rfl
@[simp] theorem State.dmaWrite_ports (w o : Nat) (bs : Bytes) (s : State) : (State.dmaWrite w o bs s).ports = s.ports := rfl
@[simp] theorem State.dmaWrite_parts (w o : Nat) (bs : Bytes) (s : State) : (State.dmaWrite w o bs s).parts = s.parts := rfl
@[simp] theorem State.dmaWrite_bnd (w o : Nat) (bs : Bytes) (s : State) : (State.dmaWrite w o bs s).bnd = s.bnd := rfl
@[simp] theorem State.dmaWrite_nvm (w o : Nat) (bs : Bytes) (s : State) : (State.dmaWrite w o bs s).nvm = s.nvm := rfl
@[simp] theorem State.dmaWrite_epd (w o : Nat) (bs : Bytes) (s : State) : (State.dmaWrite w o bs s).epd = s.epd := rfl
@[simp] theorem State.dmaWrite_pwr (w o : Nat) (bs : Bytes) (s : State) : (State.dmaWrite w o bs s).pwr = s.pwr := rfl
@[simp] theorem State.dmaWrite_sec (w o : Nat) (bs : Bytes) (s : State) : (State.dmaWrite w o bs s).sec = s.sec := rfl
@[simp] theorem State.dmaWrite_hif (w o : Nat) (bs : Bytes) (s : State) : (State.dmaWrite w o bs s).hif = s.hif := rfl
@[simp] theorem State.dmaWrite_pins (w o : Nat) (bs : Bytes) (s : State) : (State.dmaWrite w o bs s).pins = s.pins := rfl
@[simp] theorem State.dmaWrite_chain (w o : Nat) (bs : Bytes) (s : State) : (State.dmaWrite w o bs s).chain = s.chain := rfl
@[simp] theorem State.dmaWrite_col (w o : Nat) (bs : Bytes) (s : State) : (State.dmaWrite w o bs s).col = s.col := rfl
@[simp] theorem State.dmaWrite_out (w o : Nat) (bs : Bytes) (s : State) : (State.dmaWrite w o bs s).out = s.out := rfl
@[simp] theorem State.dmaWrite_reads (w o : Nat) (bs : Bytes) (s : State) : (State.dmaWrite w o bs s).reads = s.reads := rfl

end Sys2Proof.Machine
end

