-- ==== Sys2Proof/Laws/Run.lean ====
section
/-!
SUPPORT. How a command runs: the time it sets, what the message on vector 0 can change, and what registers, folios, ports and
partners read as after an update.
-/
namespace Sys2Proof.Machine

/-! ### Registers -/

theorem State.fld_eq (s : State) (f : Fld) : s.fld f = s.regs.fld f := rfl
theorem State.flag_eq (s : State) (f : Fld) : s.flag f = (s.fld f == 1) := rfl
theorem State.rd_eq (s : State) (off : Nat) : s.rd off = s.regs.rd off := rfl

theorem State.rd_wr (off v off' : Nat) (s : State) : (s.wr off v).rd off' = if off' = off then v % 2 ^ 32 else s.rd off' :=
  RegFile.rd_wr _ _ _ _

theorem State.rd_setFld_ne (f : Fld) (v off : Nat) (s : State) (h : off ≠ f.off) : (s.setFld f v).rd off = s.rd off :=
  RegFile.rd_setFld_ne _ _ _ _ h

/-- A field that was set reads as what was set. -/
theorem State.fld_setFld (f : Fld) (v : Nat) (s : State) (h : f.ok = true) :
    (s.setFld f v).fld f = v % 2 ^ (f.hi + 1 - f.lo) := RegFile.fld_setFld _ _ _ h

/-- Another field reads as before. -/
theorem State.fld_setFld_ne (f g : Fld) (v : Nat) (s : State) (h : f.ok = true) (hd : f.apart g = true) :
    (s.setFld f v).fld g = s.fld g := RegFile.fld_setFld_ne _ _ _ _ h hd

theorem State.see_eq (f : Fld) (s : State) : s.see f = s.setFld f 1 := rfl

/-- A field of a register that was not written reads as before. -/
theorem State.fld_wr_ne (off v : Nat) (g : Fld) (s : State) (h : g.off ≠ off) : (s.wr off v).fld g = s.fld g := by
  unfold State.fld RegFile.fld; rw [← State.rd_eq, State.rd_wr, if_neg h, State.rd_eq]

/-- A field is read from the register file alone. -/
theorem State.fld_congr {s u : State} (h : u.regs = s.regs) (f : Fld) : u.fld f = s.fld f := by
  unfold State.fld; rw [h]

theorem State.rd_congr {s u : State} (h : u.regs = s.regs) (off : Nat) : u.rd off = s.rd off := by
  unfold State.rd; rw [h]

theorem RegsBut.refl (offs : List Nat) (s : State) : RegsBut offs s s := fun _ _ => rfl

theorem RegsBut.trans {offs : List Nat} {s u w : State} (h : RegsBut offs s u) (h' : RegsBut offs u w) : RegsBut offs s w :=
  fun off ho => (h' off ho).trans (h off ho)

theorem RegsBut.of_regs {offs : List Nat} {s u w : State} (h : RegsBut offs s u) (e : w.regs = u.regs) : RegsBut offs s w :=
  fun off ho => (State.rd_congr e off).trans (h off ho)

theorem RegsBut.setFld {offs : List Nat} {s u : State} (h : RegsBut offs s u) (f : Fld) (v : Nat) (hm : f.off ∈ offs) :
    RegsBut offs s (u.setFld f v) :=
  fun off ho => (State.rd_setFld_ne f v off u (fun e => ho (e ▸ hm))).trans (h off ho)

theorem RegsBut.wr {offs : List Nat} {s u : State} (h : RegsBut offs s u) (o v : Nat) (hm : o ∈ offs) :
    RegsBut offs s (u.wr o v) := fun off ho => by
  rw [State.rd_wr, if_neg (by rintro rfl; exact ho hm)]; exact h off ho

/-! ### Vector 0 -/

/-- The state with the messages of the vectors, the tables' pending bits and the intervals as given. -/
def State.vectors (m : Sparse MsixEnt) (n : Sparse Nat) (k : List (Nat × Nat)) (l : List MsiMsg) (s : State) : State :=
  { s with hif := { s.hif with msix := m, modUntil := n, modHeld := k, sent := l } }

theorem State.vectors_self (s : State) : s.vectors s.hif.msix s.hif.modUntil s.hif.modHeld s.hif.sent = s := rfl

@[simp] theorem State.vectors_pending (a b c d) (s : State) : (s.vectors a b c d).pending = s.pending := rfl
@[simp] theorem State.vectors_now (a b c d) (s : State) : (s.vectors a b c d).now = s.now := rfl
@[simp] theorem State.vectors_free (a b c d) (s : State) : (s.vectors a b c d).free = s.free := rfl
@[simp] theorem State.vectors_regs (a b c d) (s : State) : (s.vectors a b c d).regs = s.regs := rfl
@[simp] theorem State.vectors_dkl (a b c d) (s : State) : (s.vectors a b c d).dkl = s.dkl := rfl
@[simp] theorem State.vectors_ldg (a b c d) (s : State) : (s.vectors a b c d).ldg = s.ldg := rfl
@[simp] theorem State.vectors_adm (a b c d) (s : State) : (s.vectors a b c d).adm = s.adm := rfl
@[simp] theorem State.vectors_pvc (a b c d) (s : State) : (s.vectors a b c d).pvc = s.pvc := rfl
@[simp] theorem State.vectors_ama (a b c d) (s : State) : (s.vectors a b c d).ama = s.ama := rfl
@[simp] theorem State.vectors_casc (a b c d) (s : State) : (s.vectors a b c d).casc = s.casc := rfl
@[simp] theorem State.vectors_eng (a b c d) (s : State) : (s.vectors a b c d).eng = s.eng := rfl
@[simp] theorem State.vectors_ports (a b c d) (s : State) : (s.vectors a b c d).ports = s.ports := rfl
@[simp] theorem State.vectors_parts (a b c d) (s : State) : (s.vectors a b c d).parts = s.parts := rfl
@[simp] theorem State.vectors_bnd (a b c d) (s : State) : (s.vectors a b c d).bnd = s.bnd := rfl
@[simp] theorem State.vectors_nvm (a b c d) (s : State) : (s.vectors a b c d).nvm = s.nvm := rfl
@[simp] theorem State.vectors_epd (a b c d) (s : State) : (s.vectors a b c d).epd = s.epd := rfl
@[simp] theorem State.vectors_pwr (a b c d) (s : State) : (s.vectors a b c d).pwr = s.pwr := rfl
@[simp] theorem State.vectors_sec (a b c d) (s : State) : (s.vectors a b c d).sec = s.sec := rfl
@[simp] theorem State.vectors_pins (a b c d) (s : State) : (s.vectors a b c d).pins = s.pins := rfl
@[simp] theorem State.vectors_chain (a b c d) (s : State) : (s.vectors a b c d).chain = s.chain := rfl
@[simp] theorem State.vectors_col (a b c d) (s : State) : (s.vectors a b c d).col = s.col := rfl
@[simp] theorem State.vectors_out (a b c d) (s : State) : (s.vectors a b c d).out = s.out := rfl
@[simp] theorem State.vectors_dma (a b c d) (s : State) : (s.vectors a b c d).dma = s.dma := rfl
@[simp] theorem State.vectors_reads (a b c d) (s : State) : (s.vectors a b c d).reads = s.reads := rfl
@[simp] theorem State.vectors_fld (a b c d) (s : State) (f : Fld) : (s.vectors a b c d).fld f = s.fld f := rfl
@[simp] theorem State.vectors_flag (a b c d) (s : State) (f : Fld) : (s.vectors a b c d).flag f = s.flag f := rfl
@[simp] theorem State.vectors_rd (a b c d) (s : State) (o : Nat) : (s.vectors a b c d).rd o = s.rd o := rfl
@[simp] theorem State.vectors_folio (a b c d) (s : State) (n : Nat) : (s.vectors a b c d).folio n = s.folio n := rfl
@[simp] theorem State.vectors_port (a b c d) (s : State) (n : Nat) : (s.vectors a b c d).port n = s.port n := rfl
@[simp] theorem State.vectors_hif_qps (a b c d) (s : State) : (s.vectors a b c d).hif.qps = s.hif.qps := rfl
@[simp] theorem State.vectors_hif_d3 (a b c d) (s : State) : (s.vectors a b c d).hif.d3 = s.hif.d3 := rfl

/-- A message on a vector changes the vectors alone. -/
theorem State.fireMsix_frame (k m : Nat) (s : State) : ∃ a b c d, s.fireMsix k m = s.vectors a b c d := by
  unfold State.fireMsix; simp only; split
  · exact ⟨_, _, _, _, rfl⟩
  · exact ⟨_, _, _, _, rfl⟩

theorem State.causeMsix_frame (k m : Nat) (s : State) : ∃ a b c d, s.causeMsix k m = s.vectors a b c d := by
  unfold State.causeMsix; split
  · exact ⟨_, _, _, _, rfl⟩
  · exact State.fireMsix_frame k m s

/-- What a new status bit leads to changes the vectors alone. -/
theorem State.settle_frame (b u : State) : ∃ m n k l, State.settle b u = u.vectors m n k l := by
  unfold State.settle; simp only; split
  · exact ⟨_, _, _, _, u.vectors_self.symm⟩
  · exact State.causeMsix_frame _ _ u

/-- Putting parts back gives s, part by part. -/
theorem backTo_iff {s v : State} : BackTo s v ↔ v.pending = s.pending ∧ v.free = s.free ∧ v.regs = s.regs ∧ v.dkl = s.dkl ∧ v.ldg = s.ldg ∧ v.adm = s.adm ∧ v.pvc = s.pvc ∧ v.ama = s.ama ∧ v.casc = s.casc ∧ v.eng = s.eng ∧ v.ports = s.ports ∧ v.parts = s.parts ∧ v.bnd = s.bnd ∧ v.nvm = s.nvm ∧ v.epd = s.epd ∧ v.pwr = s.pwr ∧ v.sec = s.sec ∧ v.pins = s.pins ∧ v.chain = s.chain ∧ v.col = s.col ∧ v.out = s.out ∧ v.dma = s.dma ∧ v.reads = s.reads ∧
    { v.hif with msix := s.hif.msix, modUntil := s.hif.modUntil, modHeld := s.hif.modHeld, sent := s.hif.sent } = s.hif := by
  obtain ⟨⟩ := s
  obtain ⟨⟩ := v
  simp only [BackTo, State.mk.injEq]
  tauto

/-! ### Running -/

theorem State.at_frame (t : Nat) (s : State) : ∃ n, s.at_ t = { s with now := n } := by
  unfold State.at_; split
  · exact ⟨_, rfl⟩
  · exact ⟨s.now, rfl⟩

/-- A command whose block it reaches answers the state that f makes, up to the vectors. -/
theorem run_reach {ok : State → Bool} {t : Nat} {f : State → State} {s : State} (hp : s.pins.powered = true)
    (hok : ok (s.at_ t) = true) : ∃ m n k l, run ok t f s = .next ((f (s.at_ t)).vectors m n k l) := by
  obtain ⟨m, n, k, l, e⟩ := State.settle_frame (s.at_ t) (f (s.at_ t))
  exact ⟨m, n, k, l, by simp [run, hp, hok, e]⟩

/-- To show what a command answers, show it of the state that f makes, whatever the vectors become. -/
theorem answers_run {i : Instr} {s : State} {P : State → Prop} {ok : State → Bool} {t : Nat} {f : State → State}
    (e : exec i s = run ok t f s) (hp : s.pins.powered = true) (hok : ok (s.at_ t) = true)
    (h : ∀ m n k l, P ((f (s.at_ t)).vectors m n k l)) : Answers i s P := by
  obtain ⟨m, n, k, l, hx⟩ := run_reach (t := t) (f := f) hp hok
  exact ⟨_, e.trans hx, h m n k l⟩

/-- Where no register changed, no status bit rose: nothing follows. -/
theorem State.settle_same (b u : State) (h : u.regs = b.regs) : State.settle b u = u := by
  have hi : u.intStatus = b.intStatus := by unfold State.intStatus; rw [h]
  have he : u.rd R.HIF_INT_ENABLE < 2 ^ 32 := RegFile.rd_lt _ _
  unfold State.settle
  dsimp only
  rw [if_pos]
  rw [hi]
  apply Nat.eq_of_testBit_eq
  intro i
  rw [Nat.testBit_and, Nat.testBit_and, Nat.testBit_xor, Nat.testBit_two_pow_sub_one, Nat.zero_testBit]
  by_cases hb : i < 32
  · simp only [hb, decide_true, Bool.xor_true]; cases b.intStatus.testBit i <;> simp
  · rw [Nat.testBit_lt_two_pow (Nat.lt_of_lt_of_le he (Nat.pow_le_pow_right (by omega) (by omega)))]; simp

/-- A command that changes no register answers just the state that f makes. -/
theorem answers_same {i : Instr} {s : State} {P : State → Prop} {ok : State → Bool} {t : Nat} {f : State → State}
    (e : exec i s = run ok t f s) (hp : s.pins.powered = true) (hok : ok (s.at_ t) = true)
    (hr : (f (s.at_ t)).regs = (s.at_ t).regs) (h : P (f (s.at_ t))) : Answers i s P :=
  ⟨_, e.trans (by simp [run, hp, hok, State.settle_same _ _ hr]), h⟩

/-! ### Time -/

@[simp] theorem State.at_regs (t : Nat) (s : State) : (s.at_ t).regs = s.regs := by
  obtain ⟨n, h⟩ := State.at_frame t s; rw [h]

@[simp] theorem State.at_pins (t : Nat) (s : State) : (s.at_ t).pins = s.pins := by
  obtain ⟨n, h⟩ := State.at_frame t s; rw [h]

@[simp] theorem State.at_hif (t : Nat) (s : State) : (s.at_ t).hif = s.hif := by
  obtain ⟨n, h⟩ := State.at_frame t s; rw [h]

/-- What a command changes beside its own effect is the time alone. -/
theorem State.at_eq (t : Nat) (s : State) : s.at_ t = { s with now := (s.at_ t).now } := by
  obtain ⟨n, h⟩ := State.at_frame t s; rw [h]

@[simp] theorem State.at_fld (t : Nat) (s : State) (f : Fld) : (s.at_ t).fld f = s.fld f := State.fld_congr (by simp) f

@[simp] theorem State.at_flag (t : Nat) (s : State) (f : Fld) : (s.at_ t).flag f = s.flag f := by simp [State.flag_eq]

@[simp] theorem State.at_rd (t : Nat) (s : State) (o : Nat) : (s.at_ t).rd o = s.rd o := State.rd_congr (by simp) o

@[simp] theorem State.at_lockdown (t : Nat) (s : State) : (s.at_ t).lockdown = s.lockdown := by simp [State.lockdown]

@[simp] theorem State.at_coreUp (t : Nat) (s : State) : (s.at_ t).coreUp = s.coreUp := by simp [State.coreUp]

@[simp] theorem State.at_portUp (t p : Nat) (s : State) : (s.at_ t).portUp p = s.portUp p := by
  simp [State.portUp, State.portState]

@[simp] theorem State.at_hostLink (t : Nat) (s : State) : (s.at_ t).hostLink = s.hostLink := by simp [State.hostLink]

@[simp] theorem State.at_hostUp (t fn : Nat) (s : State) : (s.at_ t).hostUp fn = s.hostUp fn := by simp [State.hostUp]

@[simp] theorem State.at_started (t : Nat) (s : State) : (s.at_ t).started = s.started := by simp [State.started]

theorem State.coreUp_powered {s : State} (h : s.coreUp = true) : s.pins.powered = true := by
  simp [State.coreUp] at h; exact h.1.1.1

theorem State.portUp_core {s : State} {p : Nat} (h : s.portUp p = true) : s.coreUp = true := by
  simp [State.portUp] at h; exact h.1

theorem State.hostLink_powered {s : State} (h : s.hostLink = true) : s.pins.powered = true := by
  simp [State.hostLink] at h; exact h.1.1

theorem State.hostUp_link {s : State} {fn : Nat} (h : s.hostUp fn = true) : s.hostLink = true := by
  simp [State.hostUp] at h; exact h.1

theorem answers_core {i : Instr} {s : State} {P : State → Prop} {t : Nat} {f : State → State}
    (e : exec i s = runCore t f s) (hs : s.coreUp = true) (h : ∀ m n k l, P ((f (s.at_ t)).vectors m n k l)) : Answers i s P :=
  answers_run e (State.coreUp_powered hs) (by simpa) h

theorem answers_msg {i : Instr} {s : State} {P : State → Prop} {t p : Nat} {f : State → State}
    (e : exec i s = runMsg t p f s) (hs : s.portUp p = true) (h : ∀ m n k l, P ((f (s.at_ t)).vectors m n k l)) : Answers i s P :=
  answers_run e (State.coreUp_powered (State.portUp_core hs)) (by simpa) h

theorem answers_host {i : Instr} {s : State} {P : State → Prop} {t fn : Nat} {f : State → State}
    (e : exec i s = runHost t fn f s) (hs : s.hostUp fn = true) (h : ∀ m n k l, P ((f (s.at_ t)).vectors m n k l)) : Answers i s P :=
  answers_run e (State.hostLink_powered (State.hostUp_link hs)) (by simpa) h

theorem answers_link {i : Instr} {s : State} {P : State → Prop} {t : Nat} {f : State → State}
    (e : exec i s = runLink t f s) (hs : s.hostLink = true) (h : ∀ m n k l, P ((f (s.at_ t)).vectors m n k l)) : Answers i s P :=
  answers_run e (State.hostLink_powered hs) (by simpa) h

theorem answers_live {i : Instr} {s : State} {P : State → Prop} {t : Nat} {f : State → State}
    (e : exec i s = runLive t f s) (hs : s.liveUp = true) (h : ∀ m n k l, P ((f (s.at_ t)).vectors m n k l)) : Answers i s P := by
  simp [State.liveUp] at hs
  exact answers_run e hs.1.1 (by simpa using ⟨hs.1.2, hs.2⟩) h

theorem answers_chip {i : Instr} {s : State} {P : State → Prop} {t : Nat} {f : State → State}
    (e : exec i s = runChip t f s) (hs : s.pins.powered = true) (h : ∀ m n k l, P ((f (s.at_ t)).vectors m n k l)) :
    Answers i s P := answers_run e hs rfl h

end Sys2Proof.Machine
end

