-- ==== Sys2Proof/Laws/Keeps.lean ====
section
/-!
SUPPORT. What every operation and every command keeps: the queue, the canonical form of the sparse contents, the order of the chain,
the room of the release gate, and every part of the state that its mask does not name. One lemma for each function from State to
State, in the order in which they call each other.
-/
namespace Sys2Proof.Machine

set_option Elab.async false
set_option linter.unusedTactic false
set_option linter.unreachableTactic false

/-- The parts of the state named by mask a are among those named by mask b: bit n names the nth field of `State` after the queue,
from `now` (0) to `reads` (23). -/
abbrev Mask.Le (a b : Nat) : Prop := a ||| b = b

theorem Mask.trans {a b c : Nat} (h : Mask.Le b c) (e : a ||| b = b) : Mask.Le a c := by
  unfold Mask.Le at *; rw [← h, ← Nat.or_assoc, e]

/-- Every part of the state that the mask does not name is as it was. -/
structure Frame (M : Nat) (s u : State) : Prop where
  now : Mask.Le 0x1 M ∨ u.now = s.now
  free : Mask.Le 0x2 M ∨ u.free = s.free
  regs : Mask.Le 0x4 M ∨ u.regs = s.regs
  dkl : Mask.Le 0x8 M ∨ u.dkl = s.dkl
  ldg : Mask.Le 0x10 M ∨ u.ldg = s.ldg
  adm : Mask.Le 0x20 M ∨ u.adm = s.adm
  pvc : Mask.Le 0x40 M ∨ u.pvc = s.pvc
  ama : Mask.Le 0x80 M ∨ u.ama = s.ama
  casc : Mask.Le 0x100 M ∨ u.casc = s.casc
  eng : Mask.Le 0x200 M ∨ u.eng = s.eng
  ports : Mask.Le 0x400 M ∨ u.ports = s.ports
  parts : Mask.Le 0x800 M ∨ u.parts = s.parts
  bnd : Mask.Le 0x1000 M ∨ u.bnd = s.bnd
  nvm : Mask.Le 0x2000 M ∨ u.nvm = s.nvm
  epd : Mask.Le 0x4000 M ∨ u.epd = s.epd
  pwr : Mask.Le 0x8000 M ∨ u.pwr = s.pwr
  sec : Mask.Le 0x10000 M ∨ u.sec = s.sec
  hif : Mask.Le 0x20000 M ∨ u.hif = s.hif
  pins : Mask.Le 0x40000 M ∨ u.pins = s.pins
  chain : Mask.Le 0x80000 M ∨ u.chain = s.chain
  col : Mask.Le 0x100000 M ∨ u.col = s.col
  out : Mask.Le 0x200000 M ∨ u.out = s.out
  dma : Mask.Le 0x400000 M ∨ u.dma = s.dma
  reads : Mask.Le 0x800000 M ∨ u.reads = s.reads

/-- A change of the state that leaves the queue, keeps the canonical form, the chain's order and the gate's room, and changes no
part but those that the mask names. -/
structure Keeps (M : Nat) (s u : State) : Prop where
  pending : u.pending = s.pending
  canon : s.Canon → u.Canon
  chain : chainOrdered s.chain = true → chainOrdered u.chain = true
  gate : GateRoom s.dkl.booked → GateRoom u.dkl.booked
  frame : Frame M s u

theorem Frame.refl (M : Nat) (s : State) : Frame M s s :=
  ⟨.inr rfl, .inr rfl, .inr rfl, .inr rfl, .inr rfl, .inr rfl, .inr rfl, .inr rfl, .inr rfl, .inr rfl, .inr rfl, .inr rfl, .inr rfl, .inr rfl, .inr rfl, .inr rfl, .inr rfl, .inr rfl, .inr rfl, .inr rfl, .inr rfl, .inr rfl, .inr rfl, .inr rfl⟩

theorem or_trans {p : Prop} {α : Type} {a b c : α} (h : p ∨ b = a) (k : p ∨ c = b) : p ∨ c = a :=
  h.elim .inl fun e => k.elim .inl fun e' => .inr (e'.trans e)

theorem Frame.trans {M : Nat} {s u w : State} (h : Frame M s u) (k : Frame M u w) : Frame M s w :=
  ⟨or_trans h.1 k.1, or_trans h.2 k.2, or_trans h.3 k.3, or_trans h.4 k.4, or_trans h.5 k.5, or_trans h.6 k.6, or_trans h.7 k.7, or_trans h.8 k.8, or_trans h.9 k.9, or_trans h.10 k.10, or_trans h.11 k.11, or_trans h.12 k.12, or_trans h.13 k.13, or_trans h.14 k.14, or_trans h.15 k.15, or_trans h.16 k.16, or_trans h.17 k.17, or_trans h.18 k.18, or_trans h.19 k.19, or_trans h.20 k.20, or_trans h.21 k.21, or_trans h.22 k.22, or_trans h.23 k.23, or_trans h.24 k.24⟩

theorem Keeps.refl {M : Nat} (s : State) : Keeps M s s := ⟨rfl, id, id, id, Frame.refl M s⟩
theorem Keeps.trans {M : Nat} {s u w : State} (h : Keeps M s u) (k : Keeps M u w) : Keeps M s w :=
  ⟨k.pending.trans h.pending, k.canon ∘ h.canon, k.chain ∘ h.chain, k.gate ∘ h.gate, h.frame.trans k.frame⟩

theorem Keeps.upd {M : Nat} {s u : State} (h : Keeps M s u)
    {now free : Nat} {regs : RegFile} {dkl : Dkl} {ldg : Ledger} {adm : Adm} {pvc : Pvc} {ama : Ama} {casc : Casc} {eng : Eng}
    {ports : Sparse Port} {parts : Parts} {bnd : Bnd} {nvm : Nvm} {epd : Epd} {pwr : Pwr} {sec : Sec} {hif : Hif} {pins : Pins}
    {chain : List Col} {col : Cols} {out : List OutMsg} {dma : List DmaWrite} {reads : List ReadOut}
    (h1 : Sparse.wf resetOf u.regs = true → Sparse.wf resetOf regs = true)
    (h2 : Sparse.wf (fun _ => Folio.blank) u.ldg.folios = true → Sparse.wf (fun _ => Folio.blank) ldg.folios = true)
    (h3 : Sparse.wf (fun _ => FRun.zero) u.ldg.runs = true → Sparse.wf (fun _ => FRun.zero) ldg.runs = true)
    (h4 : Sparse.wf (fun _ => Port.blank) u.ports = true → Sparse.wf (fun _ => Port.blank) ports = true)
    (h5 : Sparse.wf (fun _ => Partner.blank) u.parts.table = true → Sparse.wf (fun _ => Partner.blank) parts.table = true)
    (h6 : Sparse.wf blankPage u.nvm.pages = true → Sparse.wf blankPage nvm.pages = true)
    (h7 : Sparse.wf (fun _ => MsixEnt.reset) u.hif.msix = true → Sparse.wf (fun _ => MsixEnt.reset) hif.msix = true)
    (h8 : Sparse.wf (fun _ => Qp.zero) u.hif.qps = true → Sparse.wf (fun _ => Qp.zero) hif.qps = true)
    (h9 : Sparse.wf (fun _ => 0) u.dkl.booked = true → Sparse.wf (fun _ => 0) dkl.booked = true)
    (h10 : Sparse.wf (fun _ => 0) u.adm.backlog = true → Sparse.wf (fun _ => 0) adm.backlog = true)
    (h11 : Sparse.wf (fun _ => Tile.blank) u.eng.tiles = true → Sparse.wf (fun _ => Tile.blank) eng.tiles = true)
    (h12 : chainOrdered u.chain = true → chainOrdered chain = true)
    (h13 : GateRoom u.dkl.booked → GateRoom dkl.booked)
    (e0 : Mask.Le 0x1 M ∨ now = u.now := by first | exact .inr (by with_reducible rfl) | exact .inl (Mask.trans (by assumption) rfl))
    (e1 : Mask.Le 0x2 M ∨ free = u.free := by first | exact .inr (by with_reducible rfl) | exact .inl (Mask.trans (by assumption) rfl))
    (e2 : Mask.Le 0x4 M ∨ regs = u.regs := by first | exact .inr (by with_reducible rfl) | exact .inl (Mask.trans (by assumption) rfl))
    (e3 : Mask.Le 0x8 M ∨ dkl = u.dkl := by first | exact .inr (by with_reducible rfl) | exact .inl (Mask.trans (by assumption) rfl))
    (e4 : Mask.Le 0x10 M ∨ ldg = u.ldg := by first | exact .inr (by with_reducible rfl) | exact .inl (Mask.trans (by assumption) rfl))
    (e5 : Mask.Le 0x20 M ∨ adm = u.adm := by first | exact .inr (by with_reducible rfl) | exact .inl (Mask.trans (by assumption) rfl))
    (e6 : Mask.Le 0x40 M ∨ pvc = u.pvc := by first | exact .inr (by with_reducible rfl) | exact .inl (Mask.trans (by assumption) rfl))
    (e7 : Mask.Le 0x80 M ∨ ama = u.ama := by first | exact .inr (by with_reducible rfl) | exact .inl (Mask.trans (by assumption) rfl))
    (e8 : Mask.Le 0x100 M ∨ casc = u.casc := by first | exact .inr (by with_reducible rfl) | exact .inl (Mask.trans (by assumption) rfl))
    (e9 : Mask.Le 0x200 M ∨ eng = u.eng := by first | exact .inr (by with_reducible rfl) | exact .inl (Mask.trans (by assumption) rfl))
    (e10 : Mask.Le 0x400 M ∨ ports = u.ports := by first | exact .inr (by with_reducible rfl) | exact .inl (Mask.trans (by assumption) rfl))
    (e11 : Mask.Le 0x800 M ∨ parts = u.parts := by first | exact .inr (by with_reducible rfl) | exact .inl (Mask.trans (by assumption) rfl))
    (e12 : Mask.Le 0x1000 M ∨ bnd = u.bnd := by first | exact .inr (by with_reducible rfl) | exact .inl (Mask.trans (by assumption) rfl))
    (e13 : Mask.Le 0x2000 M ∨ nvm = u.nvm := by first | exact .inr (by with_reducible rfl) | exact .inl (Mask.trans (by assumption) rfl))
    (e14 : Mask.Le 0x4000 M ∨ epd = u.epd := by first | exact .inr (by with_reducible rfl) | exact .inl (Mask.trans (by assumption) rfl))
    (e15 : Mask.Le 0x8000 M ∨ pwr = u.pwr := by first | exact .inr (by with_reducible rfl) | exact .inl (Mask.trans (by assumption) rfl))
    (e16 : Mask.Le 0x10000 M ∨ sec = u.sec := by first | exact .inr (by with_reducible rfl) | exact .inl (Mask.trans (by assumption) rfl))
    (e17 : Mask.Le 0x20000 M ∨ hif = u.hif := by first | exact .inr (by with_reducible rfl) | exact .inl (Mask.trans (by assumption) rfl))
    (e18 : Mask.Le 0x40000 M ∨ pins = u.pins := by first | exact .inr (by with_reducible rfl) | exact .inl (Mask.trans (by assumption) rfl))
    (e19 : Mask.Le 0x80000 M ∨ chain = u.chain := by first | exact .inr (by with_reducible rfl) | exact .inl (Mask.trans (by assumption) rfl))
    (e20 : Mask.Le 0x100000 M ∨ col = u.col := by first | exact .inr (by with_reducible rfl) | exact .inl (Mask.trans (by assumption) rfl))
    (e21 : Mask.Le 0x200000 M ∨ out = u.out := by first | exact .inr (by with_reducible rfl) | exact .inl (Mask.trans (by assumption) rfl))
    (e22 : Mask.Le 0x400000 M ∨ dma = u.dma := by first | exact .inr (by with_reducible rfl) | exact .inl (Mask.trans (by assumption) rfl))
    (e23 : Mask.Le 0x800000 M ∨ reads = u.reads := by first | exact .inr (by with_reducible rfl) | exact .inl (Mask.trans (by assumption) rfl)) :
    Keeps M s (State.mk u.pending now free regs dkl ldg adm pvc ama casc eng ports parts bnd nvm epd pwr sec hif pins chain col out dma reads) :=
  h.trans ⟨rfl, fun c => ⟨h1 c.1, h2 c.2, h3 c.3, h4 c.4, h5 c.5, h6 c.6, h7 c.7, h8 c.8, h9 c.9, h10 c.10, h11 c.11⟩, h12, h13,
    ⟨e0, e1, e2, e3, e4, e5, e6, e7, e8, e9, e10, e11, e12, e13, e14, e15, e16, e17, e18, e19, e20, e21, e22, e23⟩⟩

theorem Keeps.ite {M : Nat} {c : Prop} [Decidable c] {s a b : State} (h : Keeps M s a) (k : Keeps M s b) :
    Keeps M s (if c then a else b) := by
  split
  · exact h
  · exact k

theorem Keeps.foldl {M : Nat} {α : Type} {f : State → α → State} (hf : ∀ u a, Keeps M u (f u a)) (l : List α) {s u : State}
    (h : Keeps M s u) : Keeps M s (l.foldl f u) := by
  induction l generalizing u with
  | nil => exact h
  | cons a l ih => exact ih (h.trans (hf u a))

theorem State.nextTag_keeps {M : Nat} {s u : State} (h : Keeps M s u)
    (hM : Mask.Le 0x2 M := by first | assumption | exact Mask.trans (by assumption) rfl) :
    Keeps M s (State.nextTag u).2 := by
  unfold State.nextTag
  dsimp only
  repeat' first | with_reducible exact h | exact id | with_reducible refine Keeps.upd ?_ ?_ ?_ ?_ ?_ ?_ ?_ ?_ ?_ ?_ ?_ ?_ ?_ ?_

theorem State.updPort_keeps {M : Nat} {p : ℕ} {f : Port → Port} {s u : State} (h : Keeps M s u)
    (hM : Mask.Le 0x400 M := by first | assumption | exact Mask.trans (by assumption) rfl) :
    Keeps M s (State.updPort p f u) := by
  unfold State.updPort
  repeat' first | with_reducible exact h | exact id | with_reducible refine Keeps.upd ?_ ?_ ?_ ?_ ?_ ?_ ?_ ?_ ?_ ?_ ?_ ?_ ?_ ?_ | exact Sparse.wf_upd _ _ _ _

theorem State.send_keeps {M : Nat} {dst : Endp} {vc : ℕ} {tag : ℕ} {status : ℕ} {body : MsgBody} {s u : State} (h : Keeps M s u)
    (hM : Mask.Le 0x200400 M := by first | assumption | exact Mask.trans (by assumption) rfl) :
    Keeps M s (State.send dst vc tag status body u) := by
  unfold State.send
  dsimp only
  repeat' first | with_reducible exact h | exact id | with_reducible refine State.updPort_keeps ?_ | with_reducible refine Keeps.ite ?_ ?_ | split | with_reducible refine Keeps.upd ?_ ?_ ?_ ?_ ?_ ?_ ?_ ?_ ?_ ?_ ?_ ?_ ?_ ?_

theorem State.sendTo_keeps {M : Nat} {n : ℕ} {tag : ℕ} {status : ℕ} {body : MsgBody} {s u : State} (h : Keeps M s u)
    (hM : Mask.Le 0x200400 M := by first | assumption | exact Mask.trans (by assumption) rfl) :
    Keeps M s (State.sendTo n tag status body u) := by
  unfold State.sendTo
  repeat' first | with_reducible exact h | with_reducible refine State.send_keeps ?_ | with_reducible refine Keeps.ite ?_ ?_ | split

theorem State.sendFree_keeps {M : Nat} {ft : ℕ} {handle : ℕ} {s u : State} (h : Keeps M s u)
    (hM : Mask.Le 0x200C02 M := by first | assumption | exact Mask.trans (by assumption) rfl) :
    Keeps M s (State.sendFree ft handle u) := by
  unfold State.sendFree
  dsimp only
  repeat' first | with_reducible exact h | exact id | with_reducible refine State.nextTag_keeps ?_ | with_reducible refine State.sendTo_keeps ?_ | with_reducible refine Keeps.ite ?_ ?_ | split | with_reducible refine Keeps.upd ?_ ?_ ?_ ?_ ?_ ?_ ?_ ?_ ?_ ?_ ?_ ?_ ?_ ?_

theorem State.setFolio_keeps {M : Nat} {n : ℕ} {f : Folio} {s u : State} (h : Keeps M s u)
    (hM : Mask.Le 0x10 M := by first | assumption | exact Mask.trans (by assumption) rfl) :
    Keeps M s (State.setFolio n f u) := by
  unfold State.setFolio
  repeat' first | with_reducible exact h | exact id | with_reducible refine Keeps.upd ?_ ?_ ?_ ?_ ?_ ?_ ?_ ?_ ?_ ?_ ?_ ?_ ?_ ?_ | exact Sparse.wf_set _ _ _ _

theorem State.updFolio_keeps {M : Nat} {n : ℕ} {g : Folio → Folio} {s u : State} (h : Keeps M s u)
    (hM : Mask.Le 0x10 M := by first | assumption | exact Mask.trans (by assumption) rfl) :
    Keeps M s (State.updFolio n g u) := by
  unfold State.updFolio
  repeat' first | with_reducible exact h | with_reducible refine State.setFolio_keeps ?_

theorem State.endEvict_keeps {M : Nat} {n : ℕ} {s u : State} (h : Keeps M s u)
    (hM : Mask.Le 0x800 M := by first | assumption | exact Mask.trans (by assumption) rfl) :
    Keeps M s (State.endEvict n u) := by
  unfold State.endEvict
  repeat' first | with_reducible exact h | exact id | with_reducible refine Keeps.upd ?_ ?_ ?_ ?_ ?_ ?_ ?_ ?_ ?_ ?_ ?_ ?_ ?_ ?_ | exact Sparse.wfFrom_filter _ _ _ _

theorem State.setRun_keeps {M : Nat} {n : ℕ} {r : FRun} {s u : State} (h : Keeps M s u)
    (hM : Mask.Le 0x10 M := by first | assumption | exact Mask.trans (by assumption) rfl) :
    Keeps M s (State.setRun n r u) := by
  unfold State.setRun
  repeat' first | with_reducible exact h | exact id | with_reducible refine Keeps.upd ?_ ?_ ?_ ?_ ?_ ?_ ?_ ?_ ?_ ?_ ?_ ?_ ?_ ?_ | exact Sparse.wf_set _ _ _ _ | exact fun _ => rfl

theorem State.updRun_keeps {M : Nat} {n : ℕ} {g : FRun → FRun} {s u : State} (h : Keeps M s u)
    (hM : Mask.Le 0x10 M := by first | assumption | exact Mask.trans (by assumption) rfl) :
    Keeps M s (State.updRun n g u) := by
  unfold State.updRun
  repeat' first | with_reducible exact h | with_reducible refine State.setRun_keeps ?_

theorem State.post_keeps {M : Nat} {n : ℕ} {status : ℕ} {body : MsgBody} {s u : State} (h : Keeps M s u)
    (hM : Mask.Le 0x200402 M := by first | assumption | exact Mask.trans (by assumption) rfl) :
    Keeps M s (State.post n status body u) := by
  unfold State.post
  dsimp only
  repeat' first | with_reducible exact h | with_reducible refine State.nextTag_keeps ?_ | with_reducible refine State.sendTo_keeps ?_

theorem State.decBind_keeps {M : Nat} {n : ℕ} {pages : ℕ} {s u : State} (h : Keeps M s u)
    (hM : Mask.Le 0x200412 M := by first | assumption | exact Mask.trans (by assumption) rfl) :
    Keeps M s (State.decBind n pages u) := by
  unfold State.decBind
  dsimp only
  repeat' first | with_reducible exact h | with_reducible refine State.updRun_keeps ?_ | with_reducible refine State.post_keeps ?_

theorem State.wr_keeps {M : Nat} {off : ℕ} {v : ℕ} {s u : State} (h : Keeps M s u)
    (hM : Mask.Le 0x4 M := by first | assumption | exact Mask.trans (by assumption) rfl) :
    Keeps M s (State.wr off v u) := by
  unfold State.wr
  repeat' first | with_reducible exact h | exact id | with_reducible refine Keeps.upd ?_ ?_ ?_ ?_ ?_ ?_ ?_ ?_ ?_ ?_ ?_ ?_ ?_ ?_ | exact RegFile.wf_wr _ _ _

theorem State.incBy_keeps {M : Nat} {off : ℕ} {n : ℕ} {s u : State} (h : Keeps M s u)
    (hM : Mask.Le 0x4 M := by first | assumption | exact Mask.trans (by assumption) rfl) :
    Keeps M s (State.incBy off n u) := by
  unfold State.incBy
  repeat' first | with_reducible exact h | with_reducible refine State.wr_keeps ?_

theorem State.dropHeld_keeps {M : Nat} {n : ℕ} {s u : State} (h : Keeps M s u)
    (hM : Mask.Le 0x14 M := by first | assumption | exact Mask.trans (by assumption) rfl) :
    Keeps M s (State.dropHeld n u) := by
  unfold State.dropHeld
  dsimp only
  repeat' first | with_reducible exact h | with_reducible refine State.updFolio_keeps ?_ | with_reducible refine State.incBy_keeps ?_ | with_reducible refine Keeps.ite ?_ ?_ | split

theorem State.maybeKvEnd_keeps {M : Nat} {n : ℕ} {s u : State} (h : Keeps M s u)
    (hM : Mask.Le 0x200412 M := by first | assumption | exact Mask.trans (by assumption) rfl) :
    Keeps M s (State.maybeKvEnd n u) := by
  unfold State.maybeKvEnd
  dsimp only
  repeat' first | with_reducible exact h | with_reducible refine State.updRun_keeps ?_ | with_reducible refine State.post_keeps ?_ | with_reducible refine Keeps.ite ?_ ?_ | split

theorem State.updPage_keeps {M : Nat} {n : ℕ} {no : ℕ} {g : Page → Page} {s u : State} (h : Keeps M s u)
    (hM : Mask.Le 0x10 M := by first | assumption | exact Mask.trans (by assumption) rfl) :
    Keeps M s (State.updPage n no g u) := by
  unfold State.updPage
  repeat' first | with_reducible exact h | with_reducible refine State.updFolio_keeps ?_

theorem State.inc_keeps {M : Nat} {off : ℕ} {s u : State} (h : Keeps M s u)
    (hM : Mask.Le 0x4 M := by first | assumption | exact Mask.trans (by assumption) rfl) :
    Keeps M s (State.inc off u) := by
  unfold State.inc
  repeat' first | with_reducible exact h | with_reducible refine State.wr_keeps ?_

theorem State.forwardOne_keeps {M : Nat} {n : ℕ} {p : Page} {s u : State} (h : Keeps M s u)
    (hM : Mask.Le 0x200C16 M := by first | assumption | exact Mask.trans (by assumption) rfl) :
    Keeps M s (State.forwardOne n p u) := by
  unfold State.forwardOne
  dsimp only
  repeat' first | with_reducible exact h | exact id | with_reducible refine State.post_keeps ?_ | with_reducible refine State.updPage_keeps ?_ | with_reducible refine State.inc_keeps ?_ | with_reducible refine State.updRun_keeps ?_ | with_reducible refine Keeps.ite ?_ ?_ | split | with_reducible refine Keeps.upd ?_ ?_ ?_ ?_ ?_ ?_ ?_ ?_ ?_ ?_ ?_ ?_ ?_ ?_

theorem State.forwardList_keeps {M : Nat} {n : Nat} {ps : List Page} {s u : State} (h : Keeps M s u)
    (hM : Mask.Le 0x200C16 M := by first | assumption | exact Mask.trans (by assumption) rfl) : Keeps M s (State.forwardList n ps u) := by
  induction ps generalizing u with
  | nil => exact h
  | cons p ps ih =>
    unfold State.forwardList
    split
    · exact ih (State.forwardOne_keeps h)
    · exact h
    · exact ih h

theorem State.forward_keeps {M : Nat} {n : ℕ} {s u : State} (h : Keeps M s u)
    (hM : Mask.Le 0x200C16 M := by first | assumption | exact Mask.trans (by assumption) rfl) :
    Keeps M s (State.forward n u) := by
  unfold State.forward
  dsimp only
  repeat' first | with_reducible exact h | with_reducible refine State.dropHeld_keeps ?_ | with_reducible refine State.maybeKvEnd_keeps ?_ | with_reducible refine State.forwardList_keeps ?_ | with_reducible refine Keeps.ite ?_ ?_ | split

theorem State.setFld_keeps {M : Nat} {f : Fld} {v : ℕ} {s u : State} (h : Keeps M s u)
    (hM : Mask.Le 0x4 M := by first | assumption | exact Mask.trans (by assumption) rfl) :
    Keeps M s (State.setFld f v u) := by
  unfold State.setFld
  repeat' first | with_reducible exact h | exact id | with_reducible refine Keeps.upd ?_ ?_ ?_ ?_ ?_ ?_ ?_ ?_ ?_ ?_ ?_ ?_ ?_ ?_ | exact RegFile.wf_wr _ _ _

theorem State.see_keeps {M : Nat} {f : Fld} {s u : State} (h : Keeps M s u)
    (hM : Mask.Le 0x4 M := by first | assumption | exact Mask.trans (by assumption) rfl) :
    Keeps M s (State.see f u) := by
  unfold State.see
  repeat' first | with_reducible exact h | with_reducible refine State.setFld_keeps ?_

theorem State.pauseFail_keeps {M : Nat} {n : ℕ} {status : ℕ} {s u : State} (h : Keeps M s u)
    (hM : Mask.Le 0x200C16 M := by first | assumption | exact Mask.trans (by assumption) rfl) :
    Keeps M s (State.pauseFail n status u) := by
  unfold State.pauseFail
  dsimp only
  repeat' first | with_reducible exact h | with_reducible exact Keeps.refl _ | exact id | with_reducible refine State.sendFree_keeps ?_ | with_reducible refine State.updFolio_keeps ?_ | with_reducible refine State.endEvict_keeps ?_ | with_reducible refine State.decBind_keeps ?_ | with_reducible refine State.post_keeps ?_ | with_reducible refine State.forward_keeps ?_ | with_reducible refine State.see_keeps ?_ | with_reducible refine State.inc_keeps ?_ | with_reducible refine Keeps.foldl (fun _ _ => ?_) _ ?_ | with_reducible refine Keeps.upd ?_ ?_ ?_ ?_ ?_ ?_ ?_ ?_ ?_ ?_ ?_ ?_ ?_ ?_ | exact Sparse.wfFrom_filter _ _ _ _ | dsimp only

theorem State.dropPages_keeps {M : Nat} {n : ℕ} {s u : State} (h : Keeps M s u)
    (hM : Mask.Le 0x200C16 M := by first | assumption | exact Mask.trans (by assumption) rfl) :
    Keeps M s (State.dropPages n u) := by
  unfold State.dropPages
  dsimp only
  repeat' first | with_reducible exact h | with_reducible exact Keeps.refl _ | exact id | with_reducible refine State.incBy_keeps ?_ | with_reducible refine State.sendFree_keeps ?_ | with_reducible refine State.updFolio_keeps ?_ | with_reducible refine Keeps.foldl (fun _ _ => ?_) _ ?_ | with_reducible refine Keeps.upd ?_ ?_ ?_ ?_ ?_ ?_ ?_ ?_ ?_ ?_ ?_ ?_ ?_ ?_ | exact Sparse.wfFrom_filter _ _ _ _ | dsimp only

theorem State.stopForward_keeps {M : Nat} {n : ℕ} {s u : State} (h : Keeps M s u)
    (hM : Mask.Le 0x400 M := by first | assumption | exact Mask.trans (by assumption) rfl) :
    Keeps M s (State.stopForward n u) := by
  unfold State.stopForward
  dsimp only
  repeat' first | with_reducible exact h | with_reducible refine State.updPort_keeps ?_ | with_reducible refine Keeps.ite ?_ ?_ | split

/-- A change of admission that keeps its backlogs in canonical form. -/
def AdmKeeps (a b : Adm) : Prop := Sparse.wf (fun _ => 0) a.backlog = true → Sparse.wf (fun _ => 0) b.backlog = true
theorem Adm.setB_keeps {q : Nat} {c : Chan} {r : Res} {v : Nat} {a b : Adm} (h : AdmKeeps a b) : AdmKeeps a (b.setB q c r v) :=
  fun w => Sparse.wf_set _ _ _ _ (h w)
theorem AdmKeeps.foldl {α : Type} {f : Adm → α → Adm} (hf : ∀ a x, AdmKeeps a (f a x)) (l : List α) {a b : Adm} (h : AdmKeeps a b) :
    AdmKeeps a (l.foldl f b) := by
  induction l generalizing b with
  | nil => exact h
  | cons x l ih => exact ih fun w => hf _ _ (h w)
theorem Adm.unbookAll_keeps {i : Item} {a b : Adm} (h : AdmKeeps a b) : AdmKeeps a (b.unbookAll i) :=
  AdmKeeps.foldl (fun _ _ => Adm.setB_keeps id) _ h
theorem Adm.bookAll_keeps {i : Item} {a b : Adm} (h : AdmKeeps a b) : AdmKeeps a (b.bookAll i) :=
  AdmKeeps.foldl (fun _ _ => Adm.setB_keeps id) _ h
theorem Adm.rescale_keeps {q n m : Nat} {c : Chan} {a b : Adm} (h : AdmKeeps a b) : AdmKeeps a (b.rescale q c n m) :=
  AdmKeeps.foldl (fun _ _ => Adm.setB_keeps id) _ h
theorem State.dropItems_keeps {M : Nat} {n : Nat} {s u : State} (h : Keeps M s u)
    (hM : Mask.Le 0x220 M := by first | assumption | exact Mask.trans (by assumption) rfl) : Keeps M s (State.dropItems n u) :=
  Keeps.upd h id id id id id id id id id (AdmKeeps.foldl (fun _ _ => Adm.unbookAll_keeps id) _ id) id id id

theorem State.sendEnd_keeps {M : Nat} {p : ℕ} {handle : ℕ} {relSeq : ℕ} {status : ℕ} {s u : State} (h : Keeps M s u)
    (hM : Mask.Le 0x200402 M := by first | assumption | exact Mask.trans (by assumption) rfl) :
    Keeps M s (State.sendEnd p handle relSeq status u) := by
  unfold State.sendEnd
  dsimp only
  repeat' first | with_reducible exact h | with_reducible refine State.nextTag_keeps ?_ | with_reducible refine State.send_keeps ?_ | with_reducible refine Keeps.ite ?_ ?_ | split

theorem State.endFolio_keeps {M : Nat} {n : ℕ} {st : FState} {status : ℕ} {skip : List ℕ} {s u : State} (h : Keeps M s u)
    (hM : Mask.Le 0x200E36 M := by first | assumption | exact Mask.trans (by assumption) rfl) :
    Keeps M s (State.endFolio n st status skip u) := by
  unfold State.endFolio
  dsimp only
  repeat' first | with_reducible exact h | with_reducible exact Keeps.refl _ | with_reducible refine State.dropPages_keeps ?_ | with_reducible refine State.stopForward_keeps ?_ | with_reducible refine State.dropItems_keeps ?_ | with_reducible refine State.sendEnd_keeps ?_ | with_reducible refine State.updFolio_keeps ?_ | with_reducible refine Keeps.foldl (fun _ _ => ?_) _ ?_ | dsimp only

theorem State.checkStop_keeps {M : Nat} {s u : State} (h : Keeps M s u)
    (hM : Mask.Le 0x4 M := by first | assumption | exact Mask.trans (by assumption) rfl) :
    Keeps M s (State.checkStop u) := by
  unfold State.checkStop
  repeat' first | with_reducible exact h | with_reducible refine State.inc_keeps ?_ | with_reducible refine State.see_keeps ?_ | with_reducible refine Keeps.ite ?_ ?_ | split

theorem lexLt_asymm : ∀ (a b : List Nat), lexLt a b = true → lexLt b a = false
  | [], [], h => by simp [lexLt] at h
  | [], _ :: _, _ => by simp [lexLt]
  | _ :: _, [], h => by simp [lexLt] at h
  | a :: as, b :: bs, h => by
    simp only [lexLt] at h ⊢
    by_cases h1 : a < b
    · simp [h1, Nat.not_lt.mpr (Nat.le_of_lt h1)]
    · by_cases h2 : b < a
      · simp [h1, h2] at h
      · simp only [h1, h2, if_false] at h ⊢; simpa using lexLt_asymm as bs h
theorem lexLt_of_not : ∀ (a b c : List Nat), lexLt a b = false → lexLt a c = true → lexLt b c = true
  | _, _, [], _, h => by simp [lexLt] at h
  | [], [], _ :: _, _, _ => by simp [lexLt]
  | [], _ :: _, _ :: _, h, _ => by simp [lexLt] at h
  | _ :: _, [], _ :: _, _, _ => by simp [lexLt]
  | a :: as, b :: bs, c :: cs, h, k => by
    simp only [lexLt] at h k ⊢
    by_cases h1 : a < b
    · simp [h1] at h
    · by_cases h2 : b < a
      · by_cases k1 : a < c
        · simp [show b < c by omega]
        · by_cases k2 : c < a
          · simp [k1, k2] at k
          · simp [show b < c by omega]
      · have : a = b := by omega
        subst this
        by_cases k1 : a < c
        · simp [k1]
        · by_cases k2 : c < a
          · simp [k1, k2] at k
          · simp only [h1, k1, k2, if_false] at h k ⊢
            simpa using lexLt_of_not as bs cs (by simpa using h) (by simpa using k)
theorem Col.before_asymm {c d : Col} (h : c.before d = true) : d.before c = false := lexLt_asymm _ _ h
theorem mem_insertCol {c x : Col} {cs : List Col} (h : x ∈ insertCol c cs) : x = c ∨ x ∈ cs := by
  induction cs with
  | nil => simpa [insertCol] using h
  | cons d ds ih =>
    unfold insertCol at h
    split at h
    · rcases List.mem_cons.mp h with rfl | h
      · exact .inr (List.mem_cons_self ..)
      · rcases ih h with h | h
        · exact .inl h
        · exact .inr (List.mem_cons_of_mem _ h)
    · exact List.mem_cons.mp h
/-- A Colophon takes its place in the order of R337. -/
theorem chainOrdered_insert (c : Col) (cs : List Col) (h : chainOrdered cs = true) : chainOrdered (insertCol c cs) = true := by
  induction cs with
  | nil => rfl
  | cons d ds ih =>
    simp only [chainOrdered, Bool.and_eq_true, List.all_eq_true] at h
    unfold insertCol
    split
    · rename_i hb
      simp only [chainOrdered, Bool.and_eq_true, List.all_eq_true]
      refine ⟨fun x hx => ?_, ih h.2⟩
      rcases mem_insertCol hx with rfl | hx
      · simp [Col.before_asymm hb]
      · exact h.1 x hx
    · rename_i hb
      simp only [chainOrdered, Bool.and_eq_true, List.all_eq_true]
      refine ⟨fun x hx => ?_, h⟩
      rcases List.mem_cons.mp hx with rfl | hx
      · simpa using hb
      · by_contra hc
        have hcx : c.before x = true := by simpa using hc
        have := lexLt_of_not _ _ _ (by simpa [Col.before] using hb) hcx
        have hdx := h.1 x hx
        simp [Col.before, this] at hdx
theorem State.enter_keeps {M : Nat} {c : Col} {s u : State} (h : Keeps M s u)
    (hM : Mask.Le 0x80000 M := by first | assumption | exact Mask.trans (by assumption) rfl) : Keeps M s (State.enter c u) :=
  Keeps.upd h id id id id id id id id id id id (chainOrdered_insert c _) id

theorem State.colophon_keeps {M : Nat} {tick : ℕ} {rank : ℕ} {sub : ℕ} {status : ℕ} {flags : ℕ} {gather : ℕ} {handle : ℕ} {tenant : ℕ} {body : ColBody} {s u : State} (h : Keeps M s u)
    (hM : Mask.Le 0x80004 M := by first | assumption | exact Mask.trans (by assumption) rfl) :
    Keeps M s (State.colophon tick rank sub status flags gather handle tenant body u) := by
  unfold State.colophon
  dsimp only
  repeat' first | with_reducible exact h | with_reducible refine State.checkStop_keeps ?_ | with_reducible refine State.enter_keeps ?_ | with_reducible refine Keeps.ite ?_ ?_ | split

theorem State.cancelCol_keeps {M : Nat} {n : ℕ} {status : ℕ} {cause : ℕ} {partner : ℕ} {loss : ℕ} {f : Folio} {freed : ℕ} {s u : State} (h : Keeps M s u)
    (hM : Mask.Le 0x80004 M := by first | assumption | exact Mask.trans (by assumption) rfl) :
    Keeps M s (State.cancelCol n status cause partner loss f freed u) := by
  unfold State.cancelCol
  repeat' first | with_reducible exact h | with_reducible refine State.colophon_keeps ?_

theorem State.orphan_keeps {M : Nat} {n : ℕ} {partner : ℕ} {loss : ℕ} {s u : State} (h : Keeps M s u)
    (hM : Mask.Le 0x280E36 M := by first | assumption | exact Mask.trans (by assumption) rfl) :
    Keeps M s (State.orphan n partner loss u) := by
  unfold State.orphan
  dsimp only
  repeat' first | with_reducible exact h | with_reducible refine State.endFolio_keeps ?_ | with_reducible refine State.updFolio_keeps ?_ | with_reducible refine State.cancelCol_keeps ?_ | with_reducible refine State.see_keeps ?_ | with_reducible refine State.inc_keeps ?_ | with_reducible refine Keeps.ite ?_ ?_ | split

theorem State.storeFailed_keeps {M : Nat} {n : ℕ} {no : ℕ} {status : ℕ} {s u : State} (h : Keeps M s u)
    (hM : Mask.Le 0x280E36 M := by first | assumption | exact Mask.trans (by assumption) rfl) :
    Keeps M s (State.storeFailed n no status u) := by
  unfold State.storeFailed
  dsimp only
  repeat' first | with_reducible exact h | with_reducible refine State.pauseFail_keeps ?_ | with_reducible refine State.orphan_keeps ?_ | with_reducible refine State.updPage_keeps ?_ | with_reducible refine Keeps.ite ?_ ?_ | split

theorem State.updPartner_keeps {M : Nat} {n : Nat} {f : Partner → Partner} {s u : State} (h : Keeps M s u)
    (hM : Mask.Le 0x800 M := by first | assumption | exact Mask.trans (by assumption) rfl) : Keeps M s (State.updPartner n f u) :=
  Keeps.upd h id id id id (fun w => Sparse.wf_set _ _ _ _ w) id id id id id id id id

theorem State.rosterDue_keeps {M : Nat} {s u : State} (h : Keeps M s u)
    (hM : Mask.Le 0x800 M := by first | assumption | exact Mask.trans (by assumption) rfl) :
    Keeps M s (State.rosterDue u) := by
  unfold State.rosterDue
  repeat' first | with_reducible exact h | exact id | with_reducible refine Keeps.upd ?_ ?_ ?_ ?_ ?_ ?_ ?_ ?_ ?_ ?_ ?_ ?_ ?_ ?_

theorem State.rosterDueAfter_keeps {M : Nat} {tick : Nat} {s u : State} (h : Keeps M s u)
    (hM : Mask.Le 0x800 M := by first | assumption | exact Mask.trans (by assumption) rfl) :
    Keeps M s (State.rosterDueAfter tick u) := by
  unfold State.rosterDueAfter
  repeat' first | with_reducible exact h | exact id | with_reducible refine Keeps.upd ?_ ?_ ?_ ?_ ?_ ?_ ?_ ?_ ?_ ?_ ?_ ?_ ?_ ?_

theorem State.losePartner_keeps {M : Nat} {n : ℕ} {reason : ℕ} {s u : State} (h : Keeps M s u)
    (hM : Mask.Le 0x280E36 M := by first | assumption | exact Mask.trans (by assumption) rfl) :
    Keeps M s (State.losePartner n reason u) := by
  unfold State.losePartner
  dsimp only
  repeat' first | with_reducible exact h | with_reducible exact Keeps.refl _ | with_reducible refine State.updPort_keeps ?_ | with_reducible refine State.post_keeps ?_ | with_reducible refine State.updPartner_keeps ?_ | with_reducible refine State.see_keeps ?_ | with_reducible refine State.inc_keeps ?_ | with_reducible refine State.rosterDue_keeps ?_ | with_reducible refine State.orphan_keeps ?_ | with_reducible refine Keeps.foldl (fun _ _ => ?_) _ ?_ | with_reducible refine Keeps.ite ?_ ?_ | split | dsimp only

theorem State.losePort_keeps {M : Nat} {port : ℕ} {s u : State} (h : Keeps M s u)
    (hM : Mask.Le 0x280E36 M := by first | assumption | exact Mask.trans (by assumption) rfl) :
    Keeps M s (State.losePort port u) := by
  unfold State.losePort
  dsimp only
  repeat' first | with_reducible exact h | with_reducible exact Keeps.refl _ | exact id | with_reducible refine State.losePartner_keeps ?_ | with_reducible refine Keeps.foldl (fun _ _ => ?_) _ ?_ | with_reducible refine Keeps.upd ?_ ?_ ?_ ?_ ?_ ?_ ?_ ?_ ?_ ?_ ?_ ?_ ?_ ?_ | exact Sparse.wfFrom_filter _ _ _ _ | dsimp only

theorem State.advance_keeps {M : Nat} {t : ℕ} {s u : State} (h : Keeps M s u)
    (hM : Mask.Le 0x1 M := by first | assumption | exact Mask.trans (by assumption) rfl) :
    Keeps M s (State.advance t u) := by
  unfold State.advance
  repeat' first | with_reducible exact h | exact id | with_reducible refine Keeps.upd ?_ ?_ ?_ ?_ ?_ ?_ ?_ ?_ ?_ ?_ ?_ ?_ ?_ ?_

theorem State.at__keeps {M : Nat} {t : ℕ} {s u : State} (h : Keeps M s u)
    (hM : Mask.Le 0x1 M := by first | assumption | exact Mask.trans (by assumption) rfl) :
    Keeps M s (State.at_ t u) := by
  unfold State.at_
  repeat' first | with_reducible exact h | with_reducible refine State.advance_keeps ?_ | with_reducible refine Keeps.ite ?_ ?_ | split

theorem State.updMsix_keeps {M : Nat} {k : ℕ} {g : MsixEnt → MsixEnt} {s u : State} (h : Keeps M s u)
    (hM : Mask.Le 0x20000 M := by first | assumption | exact Mask.trans (by assumption) rfl) :
    Keeps M s (State.updMsix k g u) := by
  unfold State.updMsix
  repeat' first | with_reducible exact h | exact id | with_reducible refine Keeps.upd ?_ ?_ ?_ ?_ ?_ ?_ ?_ ?_ ?_ ?_ ?_ ?_ ?_ ?_ | exact Sparse.wf_upd _ _ _ _

theorem State.fireMsix_keeps {M : Nat} {k : ℕ} {modUs : ℕ} {s u : State} (h : Keeps M s u)
    (hM : Mask.Le 0x20000 M := by first | assumption | exact Mask.trans (by assumption) rfl) :
    Keeps M s (State.fireMsix k modUs u) := by
  unfold State.fireMsix
  dsimp only
  repeat' first | with_reducible exact h | exact id | with_reducible refine State.updMsix_keeps ?_ | with_reducible refine Keeps.ite ?_ ?_ | split | with_reducible refine Keeps.upd ?_ ?_ ?_ ?_ ?_ ?_ ?_ ?_ ?_ ?_ ?_ ?_ ?_ ?_ | exact Sparse.wf_set _ _ _ _

theorem State.causeMsix_keeps {M : Nat} {k : ℕ} {modUs : ℕ} {s u : State} (h : Keeps M s u)
    (hM : Mask.Le 0x20000 M := by first | assumption | exact Mask.trans (by assumption) rfl) :
    Keeps M s (State.causeMsix k modUs u) := by
  unfold State.causeMsix
  repeat' first | with_reducible exact h | exact id | with_reducible refine State.fireMsix_keeps ?_ | with_reducible refine Keeps.ite ?_ ?_ | split | with_reducible refine Keeps.upd ?_ ?_ ?_ ?_ ?_ ?_ ?_ ?_ ?_ ?_ ?_ ?_ ?_ ?_ | exact Sparse.wfFrom_filter _ _ _ _

theorem State.settle_keeps {M : Nat} {before : Sys2Proof.Machine.State} {s u : State} (h : Keeps M s u)
    (hM : Mask.Le 0x20000 M := by first | assumption | exact Mask.trans (by assumption) rfl) :
    Keeps M s (State.settle before u) := by
  unfold State.settle
  dsimp only
  repeat' first | with_reducible exact h | with_reducible refine State.causeMsix_keeps ?_ | with_reducible refine Keeps.ite ?_ ?_ | split

theorem State.pwrResult_keeps {M : Nat} {r : ℕ} {s u : State} (h : Keeps M s u)
    (hM : Mask.Le 0x4 M := by first | assumption | exact Mask.trans (by assumption) rfl) :
    Keeps M s (State.pwrResult r u) := by
  unfold State.pwrResult
  repeat' first | with_reducible exact h | with_reducible refine State.setFld_keeps ?_

theorem doPwrStateRequest_keeps {M : Nat} {target : ℕ} {s u : State} (h : Keeps M s u)
    (hM : Mask.Le 0x8004 M := by first | assumption | exact Mask.trans (by assumption) rfl) :
    Keeps M s (doPwrStateRequest target u) := by
  unfold doPwrStateRequest
  dsimp only
  repeat' first | with_reducible exact h | exact id | with_reducible refine State.pwrResult_keeps ?_ | with_reducible refine State.setFld_keeps ?_ | with_reducible refine Keeps.ite ?_ ?_ | split | with_reducible refine Keeps.upd ?_ ?_ ?_ ?_ ?_ ?_ ?_ ?_ ?_ ?_ ?_ ?_ ?_ ?_

theorem State.enqueue_keeps {M : Nat} {i : Item} {s u : State} (h : Keeps M s u)
    (hM : Mask.Le 0x20 M := by first | assumption | exact Mask.trans (by assumption) rfl) :
    Keeps M s (State.enqueue i u) := by
  unfold State.enqueue
  repeat' first | with_reducible exact h | exact id | with_reducible refine Keeps.upd ?_ ?_ ?_ ?_ ?_ ?_ ?_ ?_ ?_ ?_ ?_ ?_ ?_ ?_

theorem State.updItem_keeps {M : Nat} {ident : ℕ} {g : Item → Item} {s u : State} (h : Keeps M s u)
    (hM : Mask.Le 0x20 M := by first | assumption | exact Mask.trans (by assumption) rfl) :
    Keeps M s (State.updItem ident g u) := by
  unfold State.updItem
  repeat' first | with_reducible exact h | exact id | with_reducible refine Keeps.upd ?_ ?_ ?_ ?_ ?_ ?_ ?_ ?_ ?_ ?_ ?_ ?_ ?_ ?_

theorem doPvcHitCopyDone_keeps {M : Nat} {ident : Nat} {bad : Bool} {s u : State} (h : Keeps M s u)
    (hM : Mask.Le 0x64 M := by first | assumption | exact Mask.trans (by assumption) rfl) : Keeps M s (doPvcHitCopyDone ident bad u) := by
  unfold doPvcHitCopyDone
  split
  · exact h
  · dsimp only
    generalize hw : (if bad = true then _ else _ : State) = w
    have h1 : Keeps M s w := by
      rw [← hw]
      split
      · exact State.see_keeps (State.incBy_keeps (State.inc_keeps (Keeps.upd h id id id id id id id id id id id id id)))
      · exact Keeps.upd h id id id id id id id id id id id id id
    split
    · exact h1
    · split
      · exact h1
      · split
        · exact State.updItem_keeps h1
        · repeat' split
          all_goals first
            | exact State.updItem_keeps h1
            | (refine State.updItem_keeps (Keeps.upd (State.updItem_keeps h1) ?_ ?_ ?_ ?_ ?_ ?_ ?_ ?_ ?_ ?_ ?_ ?_ ?_)
               all_goals first | with_reducible exact id | exact Adm.unbookAll_keeps id | exact id)

theorem State.updStart_keeps {M : Nat} {q : ℕ} {s u : State} (h : Keeps M s u)
    (hM : Mask.Le 0x84 M := by first | assumption | exact Mask.trans (by assumption) rfl) :
    Keeps M s (State.updStart q u) := by
  unfold State.updStart
  repeat' first | with_reducible exact h | exact id | with_reducible refine State.wr_keeps ?_ | with_reducible refine Keeps.upd ?_ ?_ ?_ ?_ ?_ ?_ ?_ ?_ ?_ ?_ ?_ ?_ ?_ ?_ | exact fun _ => rfl

theorem State.updCmd_keeps {M : Nat} {q bank : Nat} {slot : Option Nat} {limit : Nat} {f : State → State} {s u : State} (hf : ∀ w, Keeps M w (f w))
    (h : Keeps M s u)
    (hM : Mask.Le 0x84 M := by first | assumption | exact Mask.trans (by assumption) rfl) : Keeps M s (State.updCmd q bank slot limit f u) := by
  unfold State.updCmd
  split
  · exact h
  · split
    · exact State.setFld_keeps (State.updStart_keeps h)
    · exact (State.updStart_keeps h).trans (hf _)

theorem State.updBegin_keeps {M : Nat} {q : ℕ} {op : ℕ} {bank : ℕ} {plan : List AmaMicro} {j : AmaJournal} {s u : State} (h : Keeps M s u)
    (hM : Mask.Le 0x84 M := by first | assumption | exact Mask.trans (by assumption) rfl) :
    Keeps M s (State.updBegin q op bank plan j u) := by
  unfold State.updBegin
  dsimp only
  repeat' first | with_reducible exact h | exact id | with_reducible refine State.setFld_keeps ?_ | with_reducible refine Keeps.upd ?_ ?_ ?_ ?_ ?_ ?_ ?_ ?_ ?_ ?_ ?_ ?_ ?_ ?_

theorem doAmaUpdTipIn_keeps {M : Nat} {q : ℕ} {m : ℕ} {slot : ℕ} {s u : State} (h : Keeps M s u)
    (hM : Mask.Le 0x84 M := by first | assumption | exact Mask.trans (by assumption) rfl) :
    Keeps M s (doAmaUpdTipIn q m slot u) := by
  unfold doAmaUpdTipIn
  dsimp only
  repeat' first | with_reducible exact h | with_reducible exact Keeps.refl _ | with_reducible refine State.setFld_keeps ?_ | with_reducible refine State.updBegin_keeps ?_ | with_reducible refine State.updCmd_keeps (fun _ => ?_) ?_ | with_reducible refine Keeps.ite ?_ ?_ | split | dsimp only

theorem State.nearAddr_keeps {M : Nat} {kind : ℕ} {unit : ℕ} {s u : State} (h : Keeps M s u)
    (hM : Mask.Le 0x2 M := by first | assumption | exact Mask.trans (by assumption) rfl) :
    Keeps M s (State.nearAddr kind unit u).2 := by
  unfold State.nearAddr
  dsimp only
  repeat' first | with_reducible exact h | exact id | with_reducible refine Keeps.upd ?_ ?_ ?_ ?_ ?_ ?_ ?_ ?_ ?_ ?_ ?_ ?_ ?_ ?_

theorem State.fillSkip_keeps {M : Nat} {s u : State} (h : Keeps M s u)
    (hM : Mask.Le 0x4 M := by first | assumption | exact Mask.trans (by assumption) rfl) :
    Keeps M s (State.fillSkip u) := by
  unfold State.fillSkip
  repeat' first | with_reducible exact h | with_reducible refine State.see_keeps ?_ | with_reducible refine State.inc_keeps ?_

theorem State.fill_keeps {M : Nat} {i : Item} {blocked : Bool} {snapLate : Bool} {s u : State} (h : Keeps M s u)
    (hM : Mask.Le 0x46 M := by first | assumption | exact Mask.trans (by assumption) rfl) :
    Keeps M s (State.fill i blocked snapLate u) := by
  unfold State.fill
  dsimp only
  repeat' first | with_reducible exact h | exact id | with_reducible refine State.fillSkip_keeps ?_ | with_reducible refine State.nearAddr_keeps ?_ | with_reducible refine State.inc_keeps ?_ | with_reducible refine Keeps.ite ?_ ?_ | split | with_reducible refine Keeps.upd ?_ ?_ ?_ ?_ ?_ ?_ ?_ ?_ ?_ ?_ ?_ ?_ ?_ ?_

theorem State.retire_keeps {M : Nat} {i : Item} {s u : State} (h : Keeps M s u)
    (hM : Mask.Le 0x220 M := by first | assumption | exact Mask.trans (by assumption) rfl) : Keeps M s (State.retire i u) := by
  unfold State.retire
  dsimp only
  refine Keeps.upd h id id id id id id id id id ?_ id id id
  dsimp only
  split
  · exact Adm.unbookAll_keeps id
  · exact id

theorem State.countDeadline_keeps {M : Nat} {i : Item} {s u : State} (h : Keeps M s u)
    (hM : Mask.Le 0x14 M := by first | assumption | exact Mask.trans (by assumption) rfl) :
    Keeps M s (State.countDeadline i u) := by
  unfold State.countDeadline
  dsimp only
  repeat' first | with_reducible exact h | with_reducible refine State.inc_keeps ?_ | with_reducible refine State.updFolio_keeps ?_ | with_reducible refine Keeps.ite ?_ ?_ | split

theorem State.passed_keeps {M : Nat} {i : Item} {n : ℕ} {s u : State} (h : Keeps M s u)
    (hM : Mask.Le 0x10 M := by first | assumption | exact Mask.trans (by assumption) rfl) :
    Keeps M s (State.passed i n u) := by
  unfold State.passed
  dsimp only
  repeat' first | with_reducible exact h | with_reducible refine State.updFolio_keeps ?_ | with_reducible refine State.updRun_keeps ?_ | split

theorem State.sendVerdict_keeps {M : Nat} {i : Item} {final : Bool} {blocked : Bool} {late : Bool} {blockNo : ℕ} {relSeq : ℕ} {colSeq : ℕ} {s u : State} (h : Keeps M s u)
    (hM : Mask.Le 0x200402 M := by first | assumption | exact Mask.trans (by assumption) rfl) :
    Keeps M s (State.sendVerdict i final blocked late blockNo relSeq colSeq u) := by
  unfold State.sendVerdict
  dsimp only
  repeat' first | with_reducible exact h | with_reducible refine State.post_keeps ?_ | with_reducible refine Keeps.ite ?_ ?_ | split

theorem State.releaseFinal_keeps {M : Nat} {i : Item} {blocked : Bool} {late : Bool} {s u : State} (h : Keeps M s u)
    (hM : Mask.Le 0x280406 M := by first | assumption | exact Mask.trans (by assumption) rfl) :
    Keeps M s (State.releaseFinal i blocked late u) := by
  unfold State.releaseFinal
  dsimp only
  repeat' first | with_reducible exact h | with_reducible refine State.colophon_keeps ?_ | with_reducible refine State.sendVerdict_keeps ?_ | with_reducible refine Keeps.ite ?_ ?_ | split

theorem State.enterHold_keeps {M : Nat} {n : ℕ} {s u : State} (h : Keeps M s u)
    (hM : Mask.Le 0x200C16 M := by first | assumption | exact Mask.trans (by assumption) rfl) :
    Keeps M s (State.enterHold n u) := by
  unfold State.enterHold
  dsimp only
  repeat' first | with_reducible exact h | exact id | with_reducible refine State.updFolio_keeps ?_ | with_reducible refine State.forward_keeps ?_ | with_reducible refine State.decBind_keeps ?_ | with_reducible refine Keeps.ite ?_ ?_ | split | with_reducible refine Keeps.upd ?_ ?_ ?_ ?_ ?_ ?_ ?_ ?_ ?_ ?_ ?_ ?_ ?_ ?_

theorem State.releaseBlock_keeps {M : Nat} {i : Item} {blocked : Bool} {late : Bool} {snapLate : Bool} {s u : State} (h : Keeps M s u)
    (hM : Mask.Le 0x280E76 M := by first | assumption | exact Mask.trans (by assumption) rfl) :
    Keeps M s (State.releaseBlock i blocked late snapLate u) := by
  unfold State.releaseBlock
  dsimp only
  repeat' first | with_reducible exact h | with_reducible refine State.fill_keeps ?_ | with_reducible refine State.retire_keeps ?_ | with_reducible refine State.countDeadline_keeps ?_ | with_reducible refine State.passed_keeps ?_ | with_reducible refine State.updFolio_keeps ?_ | with_reducible refine State.colophon_keeps ?_ | with_reducible refine State.sendVerdict_keeps ?_ | with_reducible refine State.releaseFinal_keeps ?_ | with_reducible refine State.endFolio_keeps ?_ | with_reducible refine State.enterHold_keeps ?_ | with_reducible refine Keeps.ite ?_ ?_ | split

theorem State.outCol_keeps {M : Nat} {i : Item} {status : ℕ} {flags : ℕ} {pos : ℕ} {token : ℕ} {chosen : ℕ} {r : ℕ} {w : ℕ} {s u : State} (h : Keeps M s u)
    (hM : Mask.Le 0x80004 M := by first | assumption | exact Mask.trans (by assumption) rfl) :
    Keeps M s (State.outCol i status flags pos token chosen r w u) := by
  unfold State.outCol
  dsimp only
  repeat' first | with_reducible exact h | with_reducible refine State.colophon_keeps ?_

theorem State.maybeEvict_keeps {M : Nat} {n : ℕ} {s u : State} (h : Keeps M s u)
    (hM : Mask.Le 0x200C02 M := by first | assumption | exact Mask.trans (by assumption) rfl) :
    Keeps M s (State.maybeEvict n u) := by
  unfold State.maybeEvict
  dsimp only
  repeat' first | with_reducible exact h | exact id | with_reducible refine State.post_keeps ?_ | with_reducible refine Keeps.ite ?_ ?_ | split | with_reducible refine Keeps.upd ?_ ?_ ?_ ?_ ?_ ?_ ?_ ?_ ?_ ?_ ?_ ?_ ?_ ?_

theorem State.withhold_keeps {M : Nat} {i : Item} {late : Bool} {s u : State} (h : Keeps M s u)
    (hM : Mask.Le 0x280E36 M := by first | assumption | exact Mask.trans (by assumption) rfl) :
    Keeps M s (State.withhold i late u) := by
  unfold State.withhold
  dsimp only
  repeat' first | with_reducible exact h | with_reducible refine State.retire_keeps ?_ | with_reducible refine State.countDeadline_keeps ?_ | with_reducible refine State.updRun_keeps ?_ | with_reducible refine State.outCol_keeps ?_ | with_reducible refine State.post_keeps ?_ | with_reducible refine State.updFolio_keeps ?_ | with_reducible refine State.see_keeps ?_ | with_reducible refine State.inc_keeps ?_ | with_reducible refine State.endFolio_keeps ?_ | with_reducible refine State.maybeEvict_keeps ?_ | with_reducible refine Keeps.ite ?_ ?_ | split

theorem State.closeLate_keeps {M : Nat} {i : Item} {s u : State} (h : Keeps M s u)
    (hM : Mask.Le 0x280E76 M := by first | assumption | exact Mask.trans (by assumption) rfl) :
    Keeps M s (State.closeLate i u) := by
  unfold State.closeLate
  repeat' first | with_reducible exact h | with_reducible refine State.releaseBlock_keeps ?_ | with_reducible refine State.withhold_keeps ?_ | split

theorem State.releaseEnd_keeps {M : Nat} {i : Item} {s u : State} (h : Keeps M s u)
    (hM : Mask.Le 0x280E36 M := by first | assumption | exact Mask.trans (by assumption) rfl) :
    Keeps M s (State.releaseEnd i u) := by
  unfold State.releaseEnd
  dsimp only
  repeat' first | with_reducible exact h | with_reducible refine State.passed_keeps ?_ | with_reducible refine State.retire_keeps ?_ | with_reducible refine State.countDeadline_keeps ?_ | with_reducible refine State.enterHold_keeps ?_ | with_reducible refine State.releaseFinal_keeps ?_

theorem State.releaseToken_keeps {M : Nat} {i : Item} {idx : ℕ} {r : ℕ} {w : ℕ} {late : Bool} {s u : State} (h : Keeps M s u)
    (hM : Mask.Le 0x280E36 M := by first | assumption | exact Mask.trans (by assumption) rfl) :
    Keeps M s (State.releaseToken i idx r w late u) := by
  unfold State.releaseToken
  dsimp only
  repeat' first | with_reducible exact h | with_reducible refine State.updRun_keeps ?_ | with_reducible refine State.passed_keeps ?_ | with_reducible refine State.retire_keeps ?_ | with_reducible refine State.countDeadline_keeps ?_ | with_reducible refine State.outCol_keeps ?_ | with_reducible refine State.post_keeps ?_ | with_reducible refine State.updFolio_keeps ?_ | with_reducible refine State.endFolio_keeps ?_ | with_reducible refine State.maybeEvict_keeps ?_ | with_reducible refine Keeps.ite ?_ ?_ | split

theorem State.releaseItem_keeps {M : Nat} {i : Item} {late : Bool} {snapLate : Bool} {s u : State} (h : Keeps M s u)
    (hM : Mask.Le 0x280E76 M := by first | assumption | exact Mask.trans (by assumption) rfl) :
    Keeps M s (State.releaseItem i late snapLate u) := by
  unfold State.releaseItem
  repeat' first | with_reducible exact h | with_reducible refine State.releaseEnd_keeps ?_ | with_reducible refine State.releaseBlock_keeps ?_ | with_reducible refine State.releaseToken_keeps ?_ | with_reducible refine State.withhold_keeps ?_ | split

theorem State.countLate_keeps {M : Nat} {i : Item} {s u : State} (h : Keeps M s u)
    (hM : Mask.Le 0x14 M := by first | assumption | exact Mask.trans (by assumption) rfl) :
    Keeps M s (State.countLate i u) := by
  unfold State.countLate
  dsimp only
  repeat' first | with_reducible exact h | with_reducible refine State.updFolio_keeps ?_ | with_reducible refine State.inc_keeps ?_ | with_reducible refine State.see_keeps ?_ | with_reducible refine Keeps.ite ?_ ?_ | split

theorem State.gateItem_keeps {M : Nat} {i : Item} {snapLate : Bool} {s u : State} (h : Keeps M s u)
    (hM : Mask.Le 0x280E76 M := by first | assumption | exact Mask.trans (by assumption) rfl) :
    Keeps M s (State.gateItem i snapLate u) := by
  unfold State.gateItem
  dsimp only
  repeat' first | with_reducible exact h | with_reducible refine State.closeLate_keeps ?_ | with_reducible refine State.releaseItem_keeps ?_ | with_reducible refine State.countLate_keeps ?_ | with_reducible refine State.updItem_keeps ?_ | with_reducible refine Keeps.ite ?_ ?_ | split

theorem State.drainItems_keeps {M : Nat} {snapLate : Bool} {n : Nat} {s u : State} (h : Keeps M s u)
    (hM : Mask.Le 0x280E76 M := by first | assumption | exact Mask.trans (by assumption) rfl) : Keeps M s (State.drainItems snapLate n u) := by
  induction n generalizing u with
  | zero => exact h
  | succ n ih =>
    unfold State.drainItems
    split
    · exact h
    · dsimp only
      apply ih
      repeat' split
      · exact State.gateItem_keeps h
      · exact State.releaseItem_keeps h
      · exact State.closeLate_keeps h

theorem doDrainEnd_keeps {M : Nat} {snapLate : Bool} {s u : State} (h : Keeps M s u)
    (hM : Mask.Le 0x280E76 M := by first | assumption | exact Mask.trans (by assumption) rfl) :
    Keeps M s (doDrainEnd snapLate u) := by
  unfold doDrainEnd
  repeat' first | with_reducible exact h | with_reducible refine State.drainItems_keeps ?_ | with_reducible refine Keeps.ite ?_ ?_ | split

theorem doEvictKvEndTimeout_keeps {M : Nat} {n : ℕ} {s u : State} (h : Keeps M s u)
    (hM : Mask.Le 0x200C16 M := by first | assumption | exact Mask.trans (by assumption) rfl) :
    Keeps M s (doEvictKvEndTimeout n u) := by
  unfold doEvictKvEndTimeout
  repeat' first | with_reducible exact h | with_reducible refine State.pauseFail_keeps ?_ | with_reducible refine Keeps.ite ?_ ?_ | split

theorem State.warmHif_keeps {M : Nat} {dStates : Bool} {s u : State} (h : Keeps M s u)
    (hM : Mask.Le 0x20004 M := by first | assumption | exact Mask.trans (by assumption) rfl) :
    Keeps M s (State.warmHif dStates u) := by
  unfold State.warmHif
  dsimp only
  repeat' first | with_reducible exact h | with_reducible exact Keeps.refl _ | exact id | with_reducible refine State.wr_keeps ?_ | with_reducible refine Keeps.foldl (fun _ _ => ?_) _ ?_ | with_reducible refine Keeps.ite ?_ ?_ | split | with_reducible refine Keeps.upd ?_ ?_ ?_ ?_ ?_ ?_ ?_ ?_ ?_ ?_ ?_ ?_ ?_ ?_ | exact fun _ => rfl | dsimp only

theorem State.setPortState_keeps {M : Nat} {p : ℕ} {v : ℕ} {s u : State} (h : Keeps M s u)
    (hM : Mask.Le 0x4 M := by first | assumption | exact Mask.trans (by assumption) rfl) :
    Keeps M s (State.setPortState p v u) := by
  unfold State.setPortState
  repeat' first | with_reducible exact h | with_reducible refine State.setFld_keeps ?_

theorem State.fullTrain_keeps {M : Nat} {p : ℕ} {s u : State} (h : Keeps M s u)
    (hM : Mask.Le 0x280E36 M := by first | assumption | exact Mask.trans (by assumption) rfl) :
    Keeps M s (State.fullTrain p u) := by
  unfold State.fullTrain
  dsimp only
  repeat' first | with_reducible exact h | with_reducible refine State.losePort_keeps ?_ | with_reducible refine State.setPortState_keeps ?_ | with_reducible refine State.updPort_keeps ?_ | with_reducible refine State.inc_keeps ?_ | with_reducible refine State.setFld_keeps ?_

theorem State.trainPorts_keeps {M : Nat} {s u : State} (h : Keeps M s u)
    (hM : Mask.Le 0x280E36 M := by first | assumption | exact Mask.trans (by assumption) rfl) :
    Keeps M s (State.trainPorts u) := by
  unfold State.trainPorts
  repeat' first | with_reducible exact h | with_reducible exact Keeps.refl _ | with_reducible refine State.fullTrain_keeps ?_ | with_reducible refine Keeps.foldl (fun _ _ => ?_) _ ?_ | with_reducible refine Keeps.ite ?_ ?_ | split | dsimp only

theorem State.endPowerState_keeps {M : Nat} {s u : State} (h : Keeps M s u)
    (hM : Mask.Le 0x288E36 M := by first | assumption | exact Mask.trans (by assumption) rfl) :
    Keeps M s (State.endPowerState u) := by
  unfold State.endPowerState
  dsimp only
  repeat' first | with_reducible exact h | exact id | with_reducible refine State.setFld_keeps ?_ | with_reducible refine State.trainPorts_keeps ?_ | with_reducible refine Keeps.ite ?_ ?_ | split | with_reducible refine Keeps.upd ?_ ?_ ?_ ?_ ?_ ?_ ?_ ?_ ?_ ?_ ?_ ?_ ?_ ?_

theorem State.cutRestore_keeps {M : Nat} {qs : List ℕ} {s u : State} (h : Keeps M s u)
    (hM : Mask.Le 0x1000 M := by first | assumption | exact Mask.trans (by assumption) rfl) :
    Keeps M s (State.cutRestore qs u) := by
  unfold State.cutRestore
  dsimp only
  repeat' first | with_reducible exact h | exact id | with_reducible refine Keeps.upd ?_ ?_ ?_ ?_ ?_ ?_ ?_ ?_ ?_ ?_ ?_ ?_ ?_ ?_ | exact Sparse.wfFrom_filter _ _ _ _

theorem State.bindEnd_keeps {M : Nat} {status : ℕ} {detail : ℕ} {s u : State} (h : Keeps M s u)
    (hM : Mask.Le 0x1004 M := by first | assumption | exact Mask.trans (by assumption) rfl) :
    Keeps M s (State.bindEnd status detail u) := by
  unfold State.bindEnd
  dsimp only
  repeat' first | with_reducible exact h | exact id | with_reducible refine State.setFld_keeps ?_ | with_reducible refine Keeps.upd ?_ ?_ ?_ ?_ ?_ ?_ ?_ ?_ ?_ ?_ ?_ ?_ ?_ ?_

theorem State.cutLoad_keeps {M : Nat} {s u : State} (h : Keeps M s u)
    (hM : Mask.Le 0x1004 M := by first | assumption | exact Mask.trans (by assumption) rfl) :
    Keeps M s (State.cutLoad u) := by
  unfold State.cutLoad
  dsimp only
  repeat' first | with_reducible exact h | exact id | with_reducible refine State.bindEnd_keeps ?_ | split | with_reducible refine Keeps.upd ?_ ?_ ?_ ?_ ?_ ?_ ?_ ?_ ?_ ?_ ?_ ?_ ?_ ?_ | exact fun _ => rfl

theorem State.reloadQsvs_keeps {M : Nat} {quires : ℕ} {s u : State} (h : Keeps M s u)
    (hM : Mask.Le 0x4 M := by first | assumption | exact Mask.trans (by assumption) rfl) :
    Keeps M s (State.reloadQsvs quires u) := by
  unfold State.reloadQsvs
  dsimp only
  repeat' first | with_reducible exact h | with_reducible refine State.setFld_keeps ?_ | with_reducible refine Keeps.ite ?_ ?_ | split

theorem State.epdEnd_keeps {M : Nat} {status : ℕ} {detail : ℕ} {s u : State} (h : Keeps M s u)
    (hM : Mask.Le 0x4004 M := by first | assumption | exact Mask.trans (by assumption) rfl) :
    Keeps M s (State.epdEnd status detail u) := by
  unfold State.epdEnd
  dsimp only
  repeat' first | with_reducible exact h | exact id | with_reducible refine State.setFld_keeps ?_ | with_reducible refine Keeps.upd ?_ ?_ ?_ ?_ ?_ ?_ ?_ ?_ ?_ ?_ ?_ ?_ ?_ ?_

theorem State.journal_keeps {M : Nat} {phase : ℕ} {digest : Sys2Proof.Bytes} {cursor : ℕ} {s u : State} (h : Keeps M s u)
    (hM : Mask.Le 0x4000 M := by first | assumption | exact Mask.trans (by assumption) rfl) :
    Keeps M s (State.journal phase digest cursor u) := by
  unfold State.journal
  repeat' first | with_reducible exact h | exact id | with_reducible refine Keeps.upd ?_ ?_ ?_ ?_ ?_ ?_ ?_ ?_ ?_ ?_ ?_ ?_ ?_ ?_

theorem State.epdPhase_keeps {M : Nat} {phase : ℕ} {s u : State} (h : Keeps M s u)
    (hM : Mask.Le 0x4004 M := by first | assumption | exact Mask.trans (by assumption) rfl) :
    Keeps M s (State.epdPhase phase u) := by
  unfold State.epdPhase
  repeat' first | with_reducible exact h | with_reducible refine State.journal_keeps ?_ | with_reducible refine State.setFld_keeps ?_

theorem State.switchBanks_keeps {M : Nat} {s u : State} (h : Keeps M s u)
    (hM : Mask.Le 0x4004 M := by first | assumption | exact Mask.trans (by assumption) rfl) :
    Keeps M s (State.switchBanks u) := by
  unfold State.switchBanks
  dsimp only
  repeat' first | with_reducible exact h | with_reducible refine State.setFld_keeps ?_ | with_reducible refine State.epdPhase_keeps ?_ | with_reducible refine State.reloadQsvs_keeps ?_ | with_reducible refine State.see_keeps ?_ | with_reducible refine State.wr_keeps ?_

theorem State.warmEpd_keeps {M : Nat} {switched : Bool} {s u : State} (h : Keeps M s u)
    (hM : Mask.Le 0x4004 M := by first | assumption | exact Mask.trans (by assumption) rfl) :
    Keeps M s (State.warmEpd switched u) := by
  unfold State.warmEpd
  dsimp only
  repeat' first | with_reducible exact h | exact id | with_reducible refine State.epdEnd_keeps ?_ | with_reducible refine State.epdPhase_keeps ?_ | with_reducible refine State.switchBanks_keeps ?_ | with_reducible refine Keeps.ite ?_ ?_ | split | with_reducible refine Keeps.upd ?_ ?_ ?_ ?_ ?_ ?_ ?_ ?_ ?_ ?_ ?_ ?_ ?_ ?_

theorem State.updEnd_keeps {M : Nat} {q : ℕ} {status : ℕ} {s u : State} (h : Keeps M s u)
    (hM : Mask.Le 0x84 M := by first | assumption | exact Mask.trans (by assumption) rfl) :
    Keeps M s (State.updEnd q status u) := by
  unfold State.updEnd
  dsimp only
  repeat' first | with_reducible exact h | exact id | with_reducible refine State.setFld_keeps ?_ | with_reducible refine Keeps.upd ?_ ?_ ?_ ?_ ?_ ?_ ?_ ?_ ?_ ?_ ?_ ?_ ?_ ?_

theorem State.wrWords_keeps {M : Nat} {off k : Nat} {bs : Bytes} {s u : State} (h : Keeps M s u)
    (hM : Mask.Le 0x4 M := by first | assumption | exact Mask.trans (by assumption) rfl) : Keeps M s (State.wrWords off k bs u) := by
  induction k generalizing off bs u with
  | zero => exact h
  | succ k ih => exact ih (State.wr_keeps h)

theorem State.fltLogAt_keeps {M : Nat} {tick : ℕ} {i : FaultInfo} {moved : ℕ} {first : ℕ} {s u : State} (h : Keeps M s u)
    (hM : Mask.Le 0x4 M := by first | assumption | exact Mask.trans (by assumption) rfl) :
    Keeps M s (State.fltLogAt tick i moved first u) := by
  unfold State.fltLogAt
  dsimp only
  repeat' first | with_reducible exact h | with_reducible refine State.see_keeps ?_ | with_reducible refine State.inc_keeps ?_ | with_reducible refine State.wrWords_keeps ?_ | with_reducible refine Keeps.ite ?_ ?_ | split

theorem State.fltLog_keeps {M : Nat} {i : FaultInfo} {moved : ℕ} {first : ℕ} {s u : State} (h : Keeps M s u)
    (hM : Mask.Le 0x4 M := by first | assumption | exact Mask.trans (by assumption) rfl) :
    Keeps M s (State.fltLog i moved first u) := by
  unfold State.fltLog
  repeat' first | with_reducible exact h | with_reducible refine State.fltLogAt_keeps ?_

theorem State.quarantine_keeps {M : Nat} {bank : ℕ} {slot : ℕ} {s u : State} (h : Keeps M s u)
    (hM : Mask.Le 0x84 M := by first | assumption | exact Mask.trans (by assumption) rfl) :
    Keeps M s (State.quarantine bank slot u) := by
  unfold State.quarantine
  dsimp only
  repeat' first | with_reducible exact h | exact id | with_reducible refine State.see_keeps ?_ | with_reducible refine State.inc_keeps ?_ | with_reducible refine State.fltLog_keeps ?_ | with_reducible refine Keeps.ite ?_ ?_ | split | with_reducible refine Keeps.upd ?_ ?_ ?_ ?_ ?_ ?_ ?_ ?_ ?_ ?_ ?_ ?_ ?_ ?_

theorem State.verStep_keeps {M : Nat} {q : ℕ} {kind : ℕ} {bank : ℕ} {slot : ℕ} {units : Entry} {s u : State} (h : Keeps M s u)
    (hM : Mask.Le 0x84 M := by first | assumption | exact Mask.trans (by assumption) rfl) :
    Keeps M s (State.verStep q kind bank slot units u) := by
  unfold State.verStep
  dsimp only
  repeat' first | with_reducible exact h | exact id | with_reducible refine State.setFld_keeps ?_ | with_reducible refine Keeps.ite ?_ ?_ | split | with_reducible refine Keeps.upd ?_ ?_ ?_ ?_ ?_ ?_ ?_ ?_ ?_ ?_ ?_ ?_ ?_ ?_

theorem State.microStep_keeps {M : Nat} {q : ℕ} {u' : AmaUpd} {srcBad : Bool} {s u : State} (h : Keeps M s u)
    (hM : Mask.Le 0x84 M := by first | assumption | exact Mask.trans (by assumption) rfl) :
    Keeps M s (State.microStep q u' srcBad u) := by
  unfold State.microStep
  dsimp only
  repeat' first | with_reducible exact h | exact id | with_reducible refine State.updEnd_keeps ?_ | with_reducible refine State.quarantine_keeps ?_ | with_reducible refine State.verStep_keeps ?_ | with_reducible refine State.setFld_keeps ?_ | with_reducible refine State.inc_keeps ?_ | with_reducible refine Keeps.ite ?_ ?_ | split | with_reducible refine Keeps.upd ?_ ?_ ?_ ?_ ?_ ?_ ?_ ?_ ?_ ?_ ?_ ?_ ?_ ?_

theorem State.runPlan_keeps {M : Nat} {q n : Nat} {s u : State} (h : Keeps M s u)
    (hM : Mask.Le 0x84 M := by first | assumption | exact Mask.trans (by assumption) rfl) : Keeps M s (State.runPlan q n u) := by
  induction n generalizing u with
  | zero => exact h
  | succ n ih =>
    unfold State.runPlan
    split
    · exact ih (State.microStep_keeps h)
    · exact h

theorem State.rollForward_keeps {M : Nat} {q : ℕ} {journalBad : Bool} {s u : State} (h : Keeps M s u)
    (hM : Mask.Le 0x84 M := by first | assumption | exact Mask.trans (by assumption) rfl) :
    Keeps M s (State.rollForward q journalBad u) := by
  unfold State.rollForward
  dsimp only
  repeat' first | with_reducible exact h | exact id | with_reducible refine State.see_keeps ?_ | with_reducible refine State.updEnd_keeps ?_ | with_reducible refine State.setFld_keeps ?_ | with_reducible refine State.runPlan_keeps ?_ | with_reducible refine Keeps.ite ?_ ?_ | split | with_reducible refine Keeps.upd ?_ ?_ ?_ ?_ ?_ ?_ ?_ ?_ ?_ ?_ ?_ ?_ ?_ ?_

theorem State.sealPart1_keeps {M : Nat} {q : ℕ} {ok : Bool} {r : Sys2Proof.Bytes} {sg : Sys2Proof.Bytes} {s u : State} (h : Keeps M s u)
    (hM : Mask.Le 0x180004 M := by first | assumption | exact Mask.trans (by assumption) rfl) :
    Keeps M s (State.sealPart1 q ok r sg u) := by
  unfold State.sealPart1
  dsimp only
  repeat' first | with_reducible exact h | exact id | with_reducible refine State.colophon_keeps ?_ | with_reducible refine State.setFld_keeps ?_ | with_reducible refine State.inc_keeps ?_ | with_reducible refine State.see_keeps ?_ | with_reducible refine Keeps.ite ?_ ?_ | split | with_reducible refine Keeps.upd ?_ ?_ ?_ ?_ ?_ ?_ ?_ ?_ ?_ ?_ ?_ ?_ ?_ ?_ | exact fun _ => rfl

theorem State.resign_keeps {M : Nat} {w : WarmIn} {s u : State} (h : Keeps M s u)
    (hM : Mask.Le 0x180005 M := by first | assumption | exact Mask.trans (by assumption) rfl) :
    Keeps M s (State.resign w u) := by
  unfold State.resign
  dsimp only
  repeat' first | with_reducible exact h | exact id | with_reducible refine State.sealPart1_keeps ?_ | with_reducible refine Keeps.ite ?_ ?_ | split | with_reducible refine Keeps.upd ?_ ?_ ?_ ?_ ?_ ?_ ?_ ?_ ?_ ?_ ?_ ?_ ?_ ?_

theorem State.cutMove_keeps {M : Nat} {n : ℕ} {status : ℕ} {s u : State} (h : Keeps M s u)
    (hM : Mask.Le 0x200C02 M := by first | assumption | exact Mask.trans (by assumption) rfl) :
    Keeps M s (State.cutMove n status u) := by
  unfold State.cutMove
  dsimp only
  repeat' first | with_reducible exact h | with_reducible refine State.endEvict_keeps ?_ | with_reducible refine State.post_keeps ?_ | with_reducible refine Keeps.ite ?_ ?_ | split

theorem State.holdItems_keeps {M : Nat} {n : Nat} {s u : State} (h : Keeps M s u)
    (hM : Mask.Le 0x220 M := by first | assumption | exact Mask.trans (by assumption) rfl) : Keeps M s (State.holdItems n u) :=
  Keeps.upd h id id id id id id id id id (AdmKeeps.foldl (fun _ _ => Adm.unbookAll_keeps id) _ id) id id id

theorem State.faultCol_keeps {M : Nat} {n : ℕ} {block : ℕ} {status : ℕ} {quire : ℕ} {engine : ℕ} {census : ℕ} {step : ℕ} {tRel : ℕ} {relSeq : ℕ} {s u : State} (h : Keeps M s u)
    (hM : Mask.Le 0x80004 M := by first | assumption | exact Mask.trans (by assumption) rfl) :
    Keeps M s (State.faultCol n block status quire engine census step tRel relSeq u) := by
  unfold State.faultCol
  dsimp only
  repeat' first | with_reducible exact h | with_reducible refine State.colophon_keeps ?_

theorem State.toFaulted_keeps {M : Nat} {n : ℕ} {i : FaultInfo} {damaged : Bool} {tFault : ℕ} {s u : State} (h : Keeps M s u)
    (hM : Mask.Le 0x280E36 M := by first | assumption | exact Mask.trans (by assumption) rfl) :
    Keeps M s (State.toFaulted n i damaged tFault u) := by
  unfold State.toFaulted
  dsimp only
  repeat' first | with_reducible exact h | with_reducible refine State.cutMove_keeps ?_ | with_reducible refine State.holdItems_keeps ?_ | with_reducible refine State.faultCol_keeps ?_ | with_reducible refine State.updFolio_keeps ?_ | with_reducible refine State.inc_keeps ?_ | with_reducible refine State.updRun_keeps ?_

theorem State.furtherFault_keeps {M : Nat} {n : ℕ} {i : FaultInfo} {damaged : Bool} {s u : State} (h : Keeps M s u)
    (hM : Mask.Le 0x80014 M := by first | assumption | exact Mask.trans (by assumption) rfl) :
    Keeps M s (State.furtherFault n i damaged u) := by
  unfold State.furtherFault
  dsimp only
  repeat' first | with_reducible exact h | with_reducible refine State.updRun_keeps ?_ | with_reducible refine State.see_keeps ?_ | with_reducible refine State.faultCol_keeps ?_ | with_reducible refine Keeps.ite ?_ ?_ | split

theorem State.touch_keeps {M : Nat} {i : FaultInfo} {damaged : Bool} {tFault : ℕ} {n : ℕ} {s u : State} (h : Keeps M s u)
    (hM : Mask.Le 0x280E36 M := by first | assumption | exact Mask.trans (by assumption) rfl) :
    Keeps M s (State.touch i damaged tFault u n) := by
  unfold State.touch
  dsimp only
  repeat' first | with_reducible exact h | with_reducible refine State.toFaulted_keeps ?_ | with_reducible refine State.furtherFault_keeps ?_ | with_reducible refine Keeps.ite ?_ ?_ | split

theorem State.faultAt_keeps {M : Nat} {ns : List ℕ} {i : FaultInfo} {damaged : Bool} {tFault : ℕ} {s u : State} (h : Keeps M s u)
    (hM : Mask.Le 0x280E36 M := by first | assumption | exact Mask.trans (by assumption) rfl) :
    Keeps M s (State.faultAt ns i damaged tFault u) := by
  unfold State.faultAt
  dsimp only
  repeat' first | with_reducible exact h | with_reducible exact Keeps.refl _ | with_reducible refine State.touch_keeps ?_ | with_reducible refine State.see_keeps ?_ | with_reducible refine State.fltLogAt_keeps ?_ | with_reducible refine Keeps.foldl (fun _ _ => ?_) _ ?_ | with_reducible refine Keeps.ite ?_ ?_ | split | dsimp only

theorem State.sealPart0_keeps {M : Nat} {trigger : ℕ} {s u : State} (h : Keeps M s u)
    (hM : Mask.Le 0x180004 M := by first | assumption | exact Mask.trans (by assumption) rfl) :
    Keeps M s (State.sealPart0 trigger u) := by
  unfold State.sealPart0
  dsimp only
  repeat' first | with_reducible exact h | exact id | with_reducible refine State.colophon_keeps ?_ | with_reducible refine State.see_keeps ?_ | with_reducible refine Keeps.upd ?_ ?_ ?_ ?_ ?_ ?_ ?_ ?_ ?_ ?_ ?_ ?_ ?_ ?_

theorem State.sealIfDue_keeps {M : Nat} {s u : State} (h : Keeps M s u)
    (hM : Mask.Le 0x180004 M := by first | assumption | exact Mask.trans (by assumption) rfl) :
    Keeps M s (State.sealIfDue u) := by
  unfold State.sealIfDue
  repeat' first | with_reducible exact h | exact id | with_reducible refine State.sealPart0_keeps ?_ | with_reducible refine Keeps.ite ?_ ?_ | split | with_reducible refine Keeps.upd ?_ ?_ ?_ ?_ ?_ ?_ ?_ ?_ ?_ ?_ ?_ ?_ ?_ ?_

theorem State.heartbeatsTo_keeps {M : Nat} {tEnd : ℕ} {n : ℕ} {s u : State} (h : Keeps M s u)
    (hM : Mask.Le 0x200C03 M := by first | assumption | exact Mask.trans (by assumption) rfl) :
    Keeps M s (State.heartbeatsTo tEnd n u) := by
  unfold State.heartbeatsTo
  dsimp only
  repeat' first | with_reducible exact h | with_reducible exact Keeps.refl _ | exact id | with_reducible refine State.post_keeps ?_ | with_reducible refine State.updPartner_keeps ?_ | with_reducible refine Keeps.foldl (fun _ _ => ?_) _ ?_ | with_reducible refine Keeps.ite ?_ ?_ | split | with_reducible refine Keeps.upd ?_ ?_ ?_ ?_ ?_ ?_ ?_ ?_ ?_ ?_ ?_ ?_ ?_ ?_ | dsimp only

theorem State.heartbeatsOver_keeps {M : Nat} {tEnd : ℕ} {s u : State} (h : Keeps M s u)
    (hM : Mask.Le 0x200C03 M := by first | assumption | exact Mask.trans (by assumption) rfl) :
    Keeps M s (State.heartbeatsOver tEnd u) := by
  unfold State.heartbeatsOver
  repeat' first | with_reducible exact h | with_reducible exact Keeps.refl _ | with_reducible refine State.heartbeatsTo_keeps ?_ | with_reducible refine Keeps.foldl (fun _ _ => ?_) _ ?_ | with_reducible refine Keeps.ite ?_ ?_ | split | dsimp only

theorem State.warmOpen_keeps {M : Nat} {s u : State} (h : Keeps M s u)
    (hM : Mask.Le 0x8 M := by first | assumption | exact Mask.trans (by assumption) rfl) :
    Keeps M s (State.warmOpen u) := by
  unfold State.warmOpen
  dsimp only
  repeat' first | with_reducible exact h | exact id | with_reducible refine Keeps.ite ?_ ?_ | split | with_reducible refine Keeps.upd ?_ ?_ ?_ ?_ ?_ ?_ ?_ ?_ ?_ ?_ ?_ ?_ ?_ ?_

theorem State.updTile_keeps {M : Nat} {q : ℕ} {t : ℕ} {g : Tile → Tile} {s u : State} (h : Keeps M s u)
    (hM : Mask.Le 0x200 M := by first | assumption | exact Mask.trans (by assumption) rfl) :
    Keeps M s (State.updTile q t g u) := by
  unfold State.updTile
  repeat' first | with_reducible exact h | exact id | with_reducible refine Keeps.upd ?_ ?_ ?_ ?_ ?_ ?_ ?_ ?_ ?_ ?_ ?_ ?_ ?_ ?_ | exact Sparse.wf_upd _ _ _ _

theorem State.updCls_keeps {M : Nat} {ident : ℕ} {cls : ℕ} {g : ClsRun → ClsRun} {s u : State} (h : Keeps M s u)
    (hM : Mask.Le 0x20 M := by first | assumption | exact Mask.trans (by assumption) rfl) :
    Keeps M s (State.updCls ident cls g u) := by
  unfold State.updCls
  repeat' first | with_reducible exact h | with_reducible refine State.updItem_keeps ?_

theorem State.startPass_keeps {M : Nat} {q : ℕ} {t : ℕ} {s u : State} (h : Keeps M s u)
    (hM : Mask.Le 0x204 M := by first | assumption | exact Mask.trans (by assumption) rfl) :
    Keeps M s (State.startPass q t u) := by
  unfold State.startPass
  dsimp only
  repeat' first | with_reducible exact h | with_reducible refine State.updTile_keeps ?_ | with_reducible refine State.see_keeps ?_ | with_reducible refine Keeps.ite ?_ ?_ | split

theorem State.loadRow_keeps {M : Nat} {ident : ℕ} {cls : ℕ} {rejects : List ℕ} {s u : State} (h : Keeps M s u)
    (hM : Mask.Le 0x224 M := by first | assumption | exact Mask.trans (by assumption) rfl) :
    Keeps M s (State.loadRow ident cls rejects u) := by
  unfold State.loadRow
  dsimp only
  repeat' first | with_reducible exact h | exact id | with_reducible refine State.updTile_keeps ?_ | with_reducible refine State.updCls_keeps ?_ | with_reducible refine State.startPass_keeps ?_ | with_reducible refine Keeps.ite ?_ ?_ | split | with_reducible refine Keeps.upd ?_ ?_ ?_ ?_ ?_ ?_ ?_ ?_ ?_ ?_ ?_ ?_ ?_ ?_

theorem State.loadWaiting_keeps {M : Nat} {s u : State} (h : Keeps M s u)
    (hM : Mask.Le 0x224 M := by first | assumption | exact Mask.trans (by assumption) rfl) :
    Keeps M s (State.loadWaiting u) := by
  unfold State.loadWaiting
  repeat' first | with_reducible exact h | with_reducible exact Keeps.refl _ | exact id | with_reducible refine State.loadRow_keeps ?_ | with_reducible refine Keeps.foldl (fun _ _ => ?_) _ ?_ | with_reducible refine Keeps.upd ?_ ?_ ?_ ?_ ?_ ?_ ?_ ?_ ?_ ?_ ?_ ?_ ?_ ?_ | exact fun _ => rfl | dsimp only

theorem State.calFailed_keeps {M : Nat} {q : ℕ} {t : ℕ} {s u : State} (h : Keeps M s u)
    (hM : Mask.Le 0x204 M := by first | assumption | exact Mask.trans (by assumption) rfl) :
    Keeps M s (State.calFailed q t u) := by
  unfold State.calFailed
  dsimp only
  repeat' first | with_reducible exact h | with_reducible refine State.see_keeps ?_ | with_reducible refine State.updTile_keeps ?_ | with_reducible refine State.fltLog_keeps ?_ | with_reducible refine Keeps.ite ?_ ?_ | split

theorem State.calEnd_keeps {M : Nat} {at_ : ℕ} {q : ℕ} {t : ℕ} {cal : List RowCal} {s u : State} (h : Keeps M s u)
    (hM : Mask.Le 0x224 M := by first | assumption | exact Mask.trans (by assumption) rfl) :
    Keeps M s (State.calEnd at_ q t cal u) := by
  unfold State.calEnd
  dsimp only
  repeat' first | with_reducible exact h | with_reducible exact Keeps.refl _ | with_reducible refine State.updTile_keeps ?_ | with_reducible refine State.inc_keeps ?_ | with_reducible refine State.loadWaiting_keeps ?_ | with_reducible refine State.calFailed_keeps ?_ | with_reducible refine Keeps.foldl (fun _ _ => ?_) _ ?_ | with_reducible refine Keeps.ite ?_ ?_ | split | dsimp only

theorem State.calFresh_keeps {M : Nat} {c : CalIn} {tEnd : ℕ} {q : ℕ} {t : ℕ} {s u : State} (h : Keeps M s u)
    (hM : Mask.Le 0x224 M := by first | assumption | exact Mask.trans (by assumption) rfl) :
    Keeps M s (State.calFresh c tEnd q t u) := by
  unfold State.calFresh
  dsimp only
  repeat' first | with_reducible exact h | with_reducible refine State.calEnd_keeps ?_ | with_reducible refine State.updTile_keeps ?_

theorem State.calQuires_keeps {M : Nat} {cals : List CalIn} {tEnd : ℕ} {qs : List ℕ} {s u : State} (h : Keeps M s u)
    (hM : Mask.Le 0x224 M := by first | assumption | exact Mask.trans (by assumption) rfl) :
    Keeps M s (State.calQuires cals tEnd qs u) := by
  unfold State.calQuires
  repeat' first | with_reducible exact h | with_reducible exact Keeps.refl _ | with_reducible refine State.calFresh_keeps ?_ | with_reducible refine Keeps.foldl (fun _ _ => ?_) _ ?_ | dsimp only

theorem State.freshEngines_keeps {M : Nat} {cals : List CalIn} {tEnd : ℕ} {qs : List ℕ} {s u : State} (h : Keeps M s u)
    (hM : Mask.Le 0x224 M := by first | assumption | exact Mask.trans (by assumption) rfl) :
    Keeps M s (State.freshEngines cals tEnd qs u) := by
  unfold State.freshEngines
  dsimp only
  repeat' first | with_reducible exact h | exact id | with_reducible refine State.calQuires_keeps ?_ | split | with_reducible refine Keeps.upd ?_ ?_ ?_ ?_ ?_ ?_ ?_ ?_ ?_ ?_ ?_ ?_ ?_ ?_ | exact Sparse.wfFrom_filter _ _ _ _

theorem State.warmCore_keeps {M : Nat} {w : WarmIn} {s u : State} (h : Keeps M s u)
    (hM : Mask.Le 0x385EFF M := by first | assumption | exact Mask.trans (by assumption) rfl) : Keeps M s (State.warmCore w u) := by
  unfold State.warmCore
  extract_lets t0 ns s1 s2 s3 d s4 s5 s6 s7 cl s8 tEnd
  have h1 : Keeps M s s1 := State.cutRestore_keeps (State.cutLoad_keeps h)
  clear_value s1 t0 ns
  have h2 : Keeps M s s2 := State.reloadQsvs_keeps (State.advance_keeps (State.warmEpd_keeps h1))
  clear_value s2
  have h3 : Keeps M s s3 := Keeps.foldl (fun _ _ => State.rollForward_keeps (Keeps.refl _)) _ h2
  clear_value s3
  skip
  have h4 : Keeps M s s4 := Keeps.upd h3 id id id id id id id id id id id id id
  clear_value s4
  have h5 : Keeps M s s5 := State.setFld_keeps h4
  clear_value s5
  have h6 : Keeps M s s6 := State.resign_keeps h5
  clear_value s6
  have h7 : Keeps M s s7 := State.faultAt_keeps h6
  clear_value s7
  have h8 : Keeps M s s8 := State.sealIfDue_keeps (Keeps.upd h7 id id id id id id id id id id id id id)
  clear_value s8 tEnd
  exact State.heartbeatsOver_keeps (State.warmOpen_keeps (State.freshEngines_keeps (Keeps.upd h8 id id id id id id id id id id id id id)))

theorem State.warmReset_keeps {M : Nat} {cause : ℕ} {link : Option (ℕ × ℕ)} {w : WarmIn} {s u : State} (h : Keeps M s u)
    (hM : Mask.Le 0x3ADEFF M := by first | assumption | exact Mask.trans (by assumption) rfl) :
    Keeps M s (State.warmReset cause link w u) := by
  unfold State.warmReset
  dsimp only
  repeat' first | with_reducible exact h | with_reducible refine State.setFld_keeps ?_ | with_reducible refine State.warmHif_keeps ?_ | with_reducible refine State.endPowerState_keeps ?_ | with_reducible refine State.warmCore_keeps ?_ | with_reducible refine Keeps.ite ?_ ?_ | split

theorem doShlResetWarm_keeps {M : Nat} {guard : ℕ} {w : WarmIn} {s u : State} (h : Keeps M s u)
    (hM : Mask.Le 0x3ADEFF M := by first | assumption | exact Mask.trans (by assumption) rfl) :
    Keeps M s (doShlResetWarm guard w u) := by
  unfold doShlResetWarm
  repeat' first | with_reducible exact h | with_reducible refine State.warmReset_keeps ?_ | with_reducible refine Keeps.ite ?_ ?_ | split

theorem State.falseHit_keeps {M : Nat} {bank : ℕ} {slot : ℕ} {s u : State} (h : Keeps M s u)
    (hM : Mask.Le 0x84 M := by first | assumption | exact Mask.trans (by assumption) rfl) :
    Keeps M s (State.falseHit bank slot u) := by
  unfold State.falseHit
  dsimp only
  repeat' first | with_reducible exact h | exact id | with_reducible refine State.see_keeps ?_ | with_reducible refine State.inc_keeps ?_ | with_reducible refine State.quarantine_keeps ?_ | with_reducible refine Keeps.ite ?_ ?_ | split | with_reducible refine Keeps.upd ?_ ?_ ?_ ?_ ?_ ?_ ?_ ?_ ?_ ?_ ?_ ?_ ?_ ?_

theorem State.marginStatus_keeps {M : Nat} {m : ℤ} {r : MarginRow} {s u : State} (h : Keeps M s u)
    (hM : Mask.Le 0x4 M := by first | assumption | exact Mask.trans (by assumption) rfl) :
    Keeps M s (State.marginStatus m r u) := by
  unfold State.marginStatus
  dsimp only
  repeat' first | with_reducible exact h | with_reducible refine State.setFld_keeps ?_ | with_reducible refine State.see_keeps ?_ | with_reducible refine Keeps.ite ?_ ?_ | split

theorem State.dropMsg_keeps {M : Nat} {port : ℕ} {s u : State} (h : Keeps M s u)
    (hM : Mask.Le 0x4 M := by first | assumption | exact Mask.trans (by assumption) rfl) :
    Keeps M s (State.dropMsg port u) := by
  unfold State.dropMsg
  repeat' first | with_reducible exact h | with_reducible refine State.inc_keeps ?_

theorem State.countReject_keeps {M : Nat} {port : ℕ} {s u : State} (h : Keeps M s u)
    (hM : Mask.Le 0x4 M := by first | assumption | exact Mask.trans (by assumption) rfl) :
    Keeps M s (State.countReject port u) := by
  unfold State.countReject
  repeat' first | with_reducible exact h | with_reducible refine State.see_keeps ?_ | with_reducible refine State.inc_keeps ?_

theorem State.reject_keeps {M : Nat} {src : Endp} {type : ℕ} {tag : ℕ} {handle : ℕ} {status : ℕ} {s u : State} (h : Keeps M s u)
    (hM : Mask.Le 0x200404 M := by first | assumption | exact Mask.trans (by assumption) rfl) :
    Keeps M s (State.reject src type tag handle status u) := by
  unfold State.reject
  repeat' first | with_reducible exact h | with_reducible refine State.send_keeps ?_ | with_reducible refine State.countReject_keeps ?_

theorem State.rejectPage_keeps {M : Nat} {m : PageMsg} {status : ℕ} {s u : State} (h : Keeps M s u)
    (hM : Mask.Le 0x200404 M := by first | assumption | exact Mask.trans (by assumption) rfl) :
    Keeps M s (State.rejectPage m status u) := by
  unfold State.rejectPage
  repeat' first | with_reducible exact h | with_reducible refine State.reject_keeps ?_ | with_reducible refine Keeps.ite ?_ ?_ | split

theorem State.holdUnit_keeps {M : Nat} {s u : State} (h : Keeps M s u)
    (hM : Mask.Le 0x2 M := by first | assumption | exact Mask.trans (by assumption) rfl) :
    Keeps M s (State.holdUnit u).2 := by
  unfold State.holdUnit
  dsimp only
  repeat' first | with_reducible exact h | with_reducible refine State.nearAddr_keeps ?_

theorem State.descAddr_keeps {M : Nat} {s u : State} (h : Keeps M s u)
    (hM : Mask.Le 0x2 M := by first | assumption | exact Mask.trans (by assumption) rfl) :
    Keeps M s (State.descAddr u).2 := by
  unfold State.descAddr
  dsimp only
  repeat' first | with_reducible exact h | exact id | split | with_reducible refine Keeps.upd ?_ ?_ ?_ ?_ ?_ ?_ ?_ ?_ ?_ ?_ ?_ ?_ ?_ ?_

theorem State.appendPage_keeps {M : Nat} {n : ℕ} {no : ℕ} {data : Sys2Proof.Bytes} {s u : State} (h : Keeps M s u)
    (hM : Mask.Le 0x12 M := by first | assumption | exact Mask.trans (by assumption) rfl) :
    Keeps M s (State.appendPage n no data u) := by
  unfold State.appendPage
  dsimp only
  repeat' first | with_reducible exact h | with_reducible refine State.holdUnit_keeps ?_ | with_reducible refine State.descAddr_keeps ?_ | with_reducible refine State.updFolio_keeps ?_ | with_reducible refine Keeps.ite ?_ ?_ | split

theorem State.storeOne_keeps {M : Nat} {n : ℕ} {p : Page} {s u : State} (h : Keeps M s u)
    (hM : Mask.Le 0x200412 M := by first | assumption | exact Mask.trans (by assumption) rfl) :
    Keeps M s (State.storeOne n p u) := by
  unfold State.storeOne
  dsimp only
  repeat' first | with_reducible exact h | with_reducible refine State.nextTag_keeps ?_ | with_reducible refine State.sendTo_keeps ?_ | with_reducible refine State.updPage_keeps ?_

theorem State.storeList_keeps {M : Nat} {n limit : Nat} {ps : List Page} {s u : State} (h : Keeps M s u)
    (hM : Mask.Le 0x200412 M := by first | assumption | exact Mask.trans (by assumption) rfl) : Keeps M s (State.storeList n limit ps u) := by
  induction ps generalizing u with
  | nil => exact h
  | cons p ps ih =>
    unfold State.storeList
    split
    · exact h
    · split
      · exact ih (State.storeOne_keeps h)
      · exact ih h

theorem State.storePages_keeps {M : Nat} {n : ℕ} {s u : State} (h : Keeps M s u)
    (hM : Mask.Le 0x200412 M := by first | assumption | exact Mask.trans (by assumption) rfl) :
    Keeps M s (State.storePages n u) := by
  unfold State.storePages
  dsimp only
  repeat' first | with_reducible exact h | with_reducible refine State.storeList_keeps ?_ | with_reducible refine Keeps.ite ?_ ?_ | split

theorem State.pfPage_keeps {M : Nat} {m : PageMsg} {p : Nat} {s u w : State} (h : Keeps M s u) (e : State.pfPage m p u = some w)
    (hM : Mask.Le 0x200C16 M := by first | assumption | exact Mask.trans (by assumption) rfl) : Keeps M s w := by
  unfold State.pfPage at e
  dsimp only at e
  split at e
  · cases e; exact State.rejectPage_keeps h
  · split at e
    · cases e
    · split at e <;> cases e
      · exact State.storePages_keeps (State.inc_keeps (State.appendPage_keeps h))
      · exact State.forward_keeps (State.inc_keeps (State.appendPage_keeps h))

theorem State.decPage_keeps {M : Nat} {m : PageMsg} {p : Nat} {s u w : State} (h : Keeps M s u) (e : State.decPage m p u = some w)
    (hM : Mask.Le 0x200C16 M := by first | assumption | exact Mask.trans (by assumption) rfl) : Keeps M s w := by
  unfold State.decPage at e
  dsimp only at e
  split at e
  · cases e; exact State.rejectPage_keeps h
  · split at e
    · cases e; exact State.rejectPage_keeps h
    · split at e
      · cases e
      · cases e
        refine State.storePages_keeps (Keeps.upd ?_ id id id id id id id id id id id id id)
        split
        · exact State.updPage_keeps (State.holdUnit_keeps (State.updFolio_keeps h))
        · exact State.appendPage_keeps (State.updFolio_keeps h)

theorem State.pfEnd_keeps {M : Nat} {m : PageMsg} {p : ℕ} {s u : State} (h : Keeps M s u)
    (hM : Mask.Le 0x200C16 M := by first | assumption | exact Mask.trans (by assumption) rfl) :
    Keeps M s (State.pfEnd m p u) := by
  unfold State.pfEnd
  dsimp only
  repeat' first | with_reducible exact h | with_reducible refine State.rejectPage_keeps ?_ | with_reducible refine State.forward_keeps ?_ | with_reducible refine State.updFolio_keeps ?_ | with_reducible refine Keeps.ite ?_ ?_ | split

theorem State.pauseComplete_keeps {M : Nat} {n : ℕ} {s u : State} (h : Keeps M s u)
    (hM : Mask.Le 0x280C16 M := by first | assumption | exact Mask.trans (by assumption) rfl) :
    Keeps M s (State.pauseComplete n u) := by
  unfold State.pauseComplete
  dsimp only
  repeat' first | with_reducible exact h | with_reducible refine State.endEvict_keeps ?_ | with_reducible refine State.post_keeps ?_ | with_reducible refine State.updFolio_keeps ?_ | with_reducible refine State.colophon_keeps ?_ | with_reducible refine State.storePages_keeps ?_

theorem State.maybePaused_keeps {M : Nat} {n : ℕ} {s u : State} (h : Keeps M s u)
    (hM : Mask.Le 0x280C16 M := by first | assumption | exact Mask.trans (by assumption) rfl) :
    Keeps M s (State.maybePaused n u) := by
  unfold State.maybePaused
  repeat' first | with_reducible exact h | with_reducible refine State.pauseComplete_keeps ?_ | with_reducible refine Keeps.ite ?_ ?_ | split

theorem State.decEnd_keeps {M : Nat} {m : PageMsg} {p : ℕ} {s u : State} (h : Keeps M s u)
    (hM : Mask.Le 0x280C16 M := by first | assumption | exact Mask.trans (by assumption) rfl) :
    Keeps M s (State.decEnd m p u) := by
  unfold State.decEnd
  dsimp only
  repeat' first | with_reducible exact h | exact id | with_reducible refine State.rejectPage_keeps ?_ | with_reducible refine State.maybePaused_keeps ?_ | with_reducible refine Keeps.ite ?_ ?_ | split | with_reducible refine Keeps.upd ?_ ?_ ?_ ?_ ?_ ?_ ?_ ?_ ?_ ?_ ?_ ?_ ?_ ?_

theorem State.pageMsg_keeps {M : Nat} {m : PageMsg} {s u w : State} (h : Keeps M s u) (e : State.pageMsg m u = some w)
    (hM : Mask.Le 0x280C16 M := by first | assumption | exact Mask.trans (by assumption) rfl) : Keeps M s w := by
  unfold State.pageMsg at e
  split at e
  · cases e; exact State.dropMsg_keeps h
  · split at e
    · cases e; exact State.rejectPage_keeps h
    · split at e
      · cases e; exact State.rejectPage_keeps h
      · split at e
        · cases e; exact State.rejectPage_keeps h
        · split at e
          · exact State.pfPage_keeps h e
          · exact State.decPage_keeps h e
          · cases e; exact State.pfEnd_keeps h
          · cases e; exact State.decEnd_keeps h

theorem State.drainList_keeps {M : Nat} {ms : List PageMsg} {blocked : List Endp} {s u : State} (h : Keeps M s u)
    (hM : Mask.Le 0x280C16 M := by first | assumption | exact Mask.trans (by assumption) rfl) :
    Keeps M s (State.drainList ms blocked u) := by
  induction ms generalizing blocked u with
  | nil => exact h
  | cons m ms ih =>
    unfold State.drainList
    dsimp only
    split
    · exact ih (Keeps.upd h id id id id id id id id id id id id id)
    · split
      · rename_i e; exact ih (State.pageMsg_keeps h e)
      · exact ih (Keeps.upd h id id id id id id id id id id id id id)

theorem State.drainPages_keeps {M : Nat} {s u : State} (h : Keeps M s u)
    (hM : Mask.Le 0x280C16 M := by first | assumption | exact Mask.trans (by assumption) rfl) :
    Keeps M s (State.drainPages u) := by
  unfold State.drainPages
  repeat' first | with_reducible exact h | exact id | with_reducible refine State.drainList_keeps ?_ | with_reducible refine Keeps.ite ?_ ?_ | split | with_reducible refine Keeps.upd ?_ ?_ ?_ ?_ ?_ ?_ ?_ ?_ ?_ ?_ ?_ ?_ ?_ ?_ | exact fun _ => rfl

theorem State.resumeComplete_keeps {M : Nat} {n : ℕ} {s u : State} (h : Keeps M s u)
    (hM : Mask.Le 0x280C16 M := by first | assumption | exact Mask.trans (by assumption) rfl) :
    Keeps M s (State.resumeComplete n u) := by
  unfold State.resumeComplete
  dsimp only
  repeat' first | with_reducible exact h | with_reducible exact Keeps.refl _ | with_reducible refine State.colophon_keeps ?_ | with_reducible refine State.sendFree_keeps ?_ | with_reducible refine State.updFolio_keeps ?_ | with_reducible refine State.post_keeps ?_ | with_reducible refine Keeps.foldl (fun _ _ => ?_) _ ?_ | dsimp only

theorem State.maybeResumed_keeps {M : Nat} {n : ℕ} {s u : State} (h : Keeps M s u)
    (hM : Mask.Le 0x280C16 M := by first | assumption | exact Mask.trans (by assumption) rfl) :
    Keeps M s (State.maybeResumed n u) := by
  unfold State.maybeResumed
  dsimp only
  repeat' first | with_reducible exact h | with_reducible refine State.resumeComplete_keeps ?_ | with_reducible refine Keeps.ite ?_ ?_ | split

theorem doKvAck_keeps {M : Nat} {hd : Hdr} {hh : Handle} {no : ℕ} {s u : State} (h : Keeps M s u)
    (hM : Mask.Le 0x280C16 M := by first | assumption | exact Mask.trans (by assumption) rfl) :
    Keeps M s (doKvAck hd hh no u) := by
  unfold doKvAck
  dsimp only
  repeat' first | with_reducible exact h | with_reducible refine State.dropMsg_keeps ?_ | with_reducible refine State.updPage_keeps ?_ | with_reducible refine State.updFolio_keeps ?_ | with_reducible refine State.drainPages_keeps ?_ | with_reducible refine State.maybeResumed_keeps ?_ | with_reducible refine Keeps.ite ?_ ?_ | split

theorem State.fromPartner_keeps {M : Nat} {src : Endp} {kinds : List PKind} {refuse : State → State} {f : Nat → State → State} {s u : State}
    (hr : ∀ w, Keeps M w (refuse w)) (hf : ∀ n w, Keeps M w (f n w)) (h : Keeps M s u)
    (hM : Mask.Le 0x4 M := by first | assumption | exact Mask.trans (by assumption) rfl) : Keeps M s (State.fromPartner src kinds refuse f u) := by
  unfold State.fromPartner
  split
  · exact State.dropMsg_keeps h
  · split
    · exact h.trans (hf _ _)
    · exact h.trans (hr _)

theorem State.revertLk_keeps {M : Nat} {old : RegFile} {s u : State} (h : Keeps M s u)
    (hM : Mask.Le 0x4 M := by first | assumption | exact Mask.trans (by assumption) rfl) :
    Keeps M s (State.revertLk old u) := by
  unfold State.revertLk
  dsimp only
  repeat' first | with_reducible exact h | with_reducible exact Keeps.refl _ | with_reducible refine State.wr_keeps ?_ | with_reducible refine Keeps.foldl (fun _ _ => ?_) _ ?_ | with_reducible refine Keeps.ite ?_ ?_ | split | dsimp only

theorem State.resumeUpds_keeps {M : Nat} {quires : List ℕ} {loaded : List ℕ} {s u : State} (h : Keeps M s u)
    (hM : Mask.Le 0x84 M := by first | assumption | exact Mask.trans (by assumption) rfl) :
    Keeps M s (State.resumeUpds quires loaded u) := by
  unfold State.resumeUpds
  repeat' first | with_reducible exact h | with_reducible exact Keeps.refl _ | exact id | with_reducible refine State.updEnd_keeps ?_ | with_reducible refine State.setFld_keeps ?_ | with_reducible refine Keeps.foldl (fun _ _ => ?_) _ ?_ | with_reducible refine Keeps.ite ?_ ?_ | split | with_reducible refine Keeps.upd ?_ ?_ ?_ ?_ ?_ ?_ ?_ ?_ ?_ ?_ ?_ ?_ ?_ ?_ | dsimp only

theorem State.showMset_keeps {M : Nat} {m : MSet} {s u : State} (h : Keeps M s u)
    (hM : Mask.Le 0x4 M := by first | assumption | exact Mask.trans (by assumption) rfl) :
    Keeps M s (State.showMset m u) := by
  unfold State.showMset
  repeat' first | with_reducible exact h | with_reducible exact Keeps.refl _ | with_reducible refine State.setFld_keeps ?_ | with_reducible refine State.wr_keeps ?_ | with_reducible refine Keeps.foldl (fun _ _ => ?_) _ ?_ | with_reducible refine Keeps.ite ?_ ?_ | split | dsimp only

theorem State.revert_keeps {M : Nat} {s u : State} (h : Keeps M s u)
    (hM : Mask.Le 0x1084 M := by first | assumption | exact Mask.trans (by assumption) rfl) :
    Keeps M s (State.revert u) := by
  unfold State.revert
  dsimp only
  repeat' first | with_reducible exact h | exact id | with_reducible refine State.revertLk_keeps ?_ | with_reducible refine State.resumeUpds_keeps ?_ | with_reducible refine State.showMset_keeps ?_ | with_reducible refine Keeps.upd ?_ ?_ ?_ ?_ ?_ ?_ ?_ ?_ ?_ ?_ ?_ ?_ ?_ ?_ | exact Sparse.wfFrom_filter _ _ _ _ | exact fun _ => rfl

theorem State.newScanPeriod_keeps {M : Nat} {p : ℕ} {s u : State} (h : Keeps M s u)
    (hM : Mask.Le 0x10 M := by first | assumption | exact Mask.trans (by assumption) rfl) :
    Keeps M s (State.newScanPeriod p u) := by
  unfold State.newScanPeriod
  dsimp only
  repeat' first | with_reducible exact h | exact id | with_reducible refine Keeps.upd ?_ ?_ ?_ ?_ ?_ ?_ ?_ ?_ ?_ ?_ ?_ ?_ ?_ ?_

theorem State.afterWrite_keeps {M : Nat} {off : ℕ} {v : ℕ} {s u : State} (h : Keeps M s u)
    (hM : Mask.Le 0x100034 M := by first | assumption | exact Mask.trans (by assumption) rfl) :
    Keeps M s (State.afterWrite off v u) := by
  unfold State.afterWrite
  dsimp only
  repeat' first | with_reducible exact h | exact id | with_reducible refine State.newScanPeriod_keeps ?_ | with_reducible refine State.setFld_keeps ?_ | with_reducible refine Keeps.ite ?_ ?_ | split | with_reducible refine Keeps.upd ?_ ?_ ?_ ?_ ?_ ?_ ?_ ?_ ?_ ?_ ?_ ?_ ?_ ?_

theorem doAmaUpdClearBank_keeps {M : Nat} {q : ℕ} {m : ℕ} {s u : State} (h : Keeps M s u)
    (hM : Mask.Le 0x84 M := by first | assumption | exact Mask.trans (by assumption) rfl) :
    Keeps M s (doAmaUpdClearBank q m u) := by
  unfold doAmaUpdClearBank
  dsimp only
  repeat' first | with_reducible exact h | with_reducible exact Keeps.refl _ | exact id | with_reducible refine State.verStep_keeps ?_ | with_reducible refine State.updCmd_keeps (fun _ => ?_) ?_ | with_reducible refine Keeps.upd ?_ ?_ ?_ ?_ ?_ ?_ ?_ ?_ ?_ ?_ ?_ ?_ ?_ ?_ | dsimp only

theorem State.scrubEntry_keeps {M : Nat} {bank : ℕ} {slot : ℕ} {s u : State} (h : Keeps M s u)
    (hM : Mask.Le 0x84 M := by first | assumption | exact Mask.trans (by assumption) rfl) :
    Keeps M s (State.scrubEntry bank slot u) := by
  unfold State.scrubEntry
  dsimp only
  repeat' first | with_reducible exact h | exact id | with_reducible refine State.see_keeps ?_ | with_reducible refine State.inc_keeps ?_ | with_reducible refine Keeps.ite ?_ ?_ | split | with_reducible refine Keeps.upd ?_ ?_ ?_ ?_ ?_ ?_ ?_ ?_ ?_ ?_ ?_ ?_ ?_ ?_

theorem doAmaScrubVisit_keeps {M : Nat} {bank : ℕ} {us : List AmaUpset} {bad : Bool} {s u : State} (h : Keeps M s u)
    (hM : Mask.Le 0x84 M := by first | assumption | exact Mask.trans (by assumption) rfl) :
    Keeps M s (doAmaScrubVisit bank us bad u) := by
  unfold doAmaScrubVisit
  dsimp only
  repeat' first | with_reducible exact h | exact id | with_reducible refine State.quarantine_keeps ?_ | with_reducible refine State.scrubEntry_keeps ?_ | with_reducible refine Keeps.ite ?_ ?_ | split | with_reducible refine Keeps.upd ?_ ?_ ?_ ?_ ?_ ?_ ?_ ?_ ?_ ?_ ?_ ?_ ?_ ?_ | exact Sparse.wf_set _ _ _ _ | exact Sparse.wfFrom_filter _ _ _ _

theorem State.nvmEnd_keeps {M : Nat} {status : ℕ} {s u : State} (h : Keeps M s u)
    (hM : Mask.Le 0x2004 M := by first | assumption | exact Mask.trans (by assumption) rfl) :
    Keeps M s (State.nvmEnd status u) := by
  unfold State.nvmEnd
  dsimp only
  repeat' first | with_reducible exact h | exact id | with_reducible refine State.setFld_keeps ?_ | with_reducible refine Keeps.upd ?_ ?_ ?_ ?_ ?_ ?_ ?_ ?_ ?_ ?_ ?_ ?_ ?_ ?_

theorem State.nvmRange_keeps {M : Nat} {read : Bool} {s u : State} (h : Keeps M s u)
    (hM : Mask.Le 0x4 M := by first | assumption | exact Mask.trans (by assumption) rfl) :
    Keeps M s (State.nvmRange read u).2 := by
  unfold State.nvmRange
  dsimp only
  repeat' first | with_reducible exact h | with_reducible refine State.wr_keeps ?_ | with_reducible refine Keeps.ite ?_ ?_ | split

theorem State.dmaBoundary_keeps {M : Nat} {w : ℕ} {f : ℕ} {s u : State} (h : Keeps M s u)
    (hM : Mask.Le 0x20004 M := by first | assumption | exact Mask.trans (by assumption) rfl) :
    Keeps M s (State.dmaBoundary w f u) := by
  unfold State.dmaBoundary
  dsimp only
  repeat' first | with_reducible exact h | exact id | with_reducible refine State.wr_keeps ?_ | with_reducible refine State.setFld_keeps ?_ | with_reducible refine State.see_keeps ?_ | with_reducible refine Keeps.upd ?_ ?_ ?_ ?_ ?_ ?_ ?_ ?_ ?_ ?_ ?_ ?_ ?_ ?_

theorem State.dmaCheck_keeps {M : Nat} {w : ℕ} {f : ℕ} {write : Bool} {o : ℕ} {n : ℕ} {s u : State} (h : Keeps M s u)
    (hM : Mask.Le 0x20004 M := by first | assumption | exact Mask.trans (by assumption) rfl) :
    Keeps M s (State.dmaCheck w f write o n u).2 := by
  unfold State.dmaCheck
  dsimp only
  repeat' first | with_reducible exact h | with_reducible refine State.dmaBoundary_keeps ?_ | with_reducible refine Keeps.ite ?_ ?_ | split

theorem State.nvmCmd_keeps {M : Nat} {op win : Nat} {dma : Option Bool} {form : Nat → Nat → Bool} {last : State → Nat} {s u : State}
    (h : Keeps M s u)
    (hM : Mask.Le 0x22004 M := by first | assumption | exact Mask.trans (by assumption) rfl) : Keeps M s (State.nvmCmd op win dma form last u) := by
  unfold State.nvmCmd
  dsimp only
  repeat' first | with_reducible refine Keeps.ite ?_ ?_ | split
  all_goals first
    | exact h
    | exact State.nvmEnd_keeps h
    | exact State.nvmEnd_keeps (State.nvmRange_keeps h)
    | exact State.nvmEnd_keeps (State.dmaCheck_keeps h)
    | exact Keeps.upd (State.setFld_keeps (State.setFld_keeps h)) id id id id id id id id id id id id id

theorem doNvmRead_keeps {M : Nat} {win : ℕ} {s u : State} (h : Keeps M s u)
    (hM : Mask.Le 0x22004 M := by first | assumption | exact Mask.trans (by assumption) rfl) :
    Keeps M s (doNvmRead win u) := by
  unfold doNvmRead
  repeat' first | with_reducible exact h | with_reducible refine State.nvmCmd_keeps ?_

theorem State.updQp_keeps {M : Nat} {q : ℕ} {f : Qp → Qp} {s u : State} (h : Keeps M s u)
    (hM : Mask.Le 0x20000 M := by first | assumption | exact Mask.trans (by assumption) rfl) :
    Keeps M s (State.updQp q f u) := by
  unfold State.updQp
  repeat' first | with_reducible exact h | exact id | with_reducible refine Keeps.upd ?_ ?_ ?_ ?_ ?_ ?_ ?_ ?_ ?_ ?_ ?_ ?_ ?_ ?_ | exact Sparse.wf_upd _ _ _ _ | exact fun _ => rfl

theorem State.qpStop_keeps {M : Nat} {q : ℕ} {s u : State} (h : Keeps M s u)
    (hM : Mask.Le 0x20004 M := by first | assumption | exact Mask.trans (by assumption) rfl) :
    Keeps M s (State.qpStop q u) := by
  unfold State.qpStop
  dsimp only
  repeat' first | with_reducible exact h | with_reducible refine State.updQp_keeps ?_ | with_reducible refine State.setFld_keeps ?_ | with_reducible refine Keeps.ite ?_ ?_ | split

theorem State.writeFields_keeps {M : Nat} {fn : ℕ} {off : ℕ} {v : ℕ} {s u : State} (h : Keeps M s u)
    (hM : Mask.Le 0x100034 M := by first | assumption | exact Mask.trans (by assumption) rfl) :
    Keeps M s (State.writeFields fn off v u) := by
  unfold State.writeFields
  repeat' first | with_reducible exact h | with_reducible refine State.afterWrite_keeps ?_ | with_reducible refine State.wr_keeps ?_ | split

theorem doQpDisable_keeps {M : Nat} {fn : ℕ} {q : ℕ} {v : ℕ} {s u : State} (h : Keeps M s u)
    (hM : Mask.Le 0x120034 M := by first | assumption | exact Mask.trans (by assumption) rfl) :
    Keeps M s (doQpDisable fn q v u) := by
  unfold doQpDisable
  repeat' first | with_reducible exact h | with_reducible refine State.qpStop_keeps ?_ | with_reducible refine State.writeFields_keeps ?_ | with_reducible refine Keeps.ite ?_ ?_ | split

theorem State.epdCmd_keeps {M : Nat} {a b : Bool} {f : State → State} {s u : State} (hf : ∀ w, Keeps M w (f w)) (h : Keeps M s u)
    (hM : Mask.Le 0x4004 M := by first | assumption | exact Mask.trans (by assumption) rfl) :
    Keeps M s (State.epdCmd a b f u) := by
  unfold State.epdCmd
  repeat' split
  · exact h
  · exact State.epdEnd_keeps h
  · exact State.epdEnd_keeps h
  · exact State.epdEnd_keeps h
  · exact h.trans (hf _)

theorem doEpdSet_keeps {M : Nat} {key : ℕ} {s u : State} (h : Keeps M s u)
    (hM : Mask.Le 0x4004 M := by first | assumption | exact Mask.trans (by assumption) rfl) :
    Keeps M s (doEpdSet key u) := by
  unfold doEpdSet
  dsimp only
  repeat' first | with_reducible exact h | with_reducible exact Keeps.refl _ | exact id | with_reducible refine State.epdEnd_keeps ?_ | with_reducible refine State.epdCmd_keeps (fun _ => ?_) ?_ | with_reducible refine Keeps.ite ?_ ?_ | split | with_reducible refine Keeps.upd ?_ ?_ ?_ ?_ ?_ ?_ ?_ ?_ ?_ ?_ ?_ ?_ ?_ ?_ | dsimp only

theorem State.dmaErr_keeps {M : Nat} {s u : State} (h : Keeps M s u)
    (hM : Mask.Le 0x4 M := by first | assumption | exact Mask.trans (by assumption) rfl) :
    Keeps M s (State.dmaErr u) := by
  unfold State.dmaErr
  repeat' first | with_reducible exact h | with_reducible refine State.see_keeps ?_

theorem State.chunk0_keeps {M : Nat} {win : ℕ} {data : DmaIn} {s u : State} (h : Keeps M s u)
    (hM : Mask.Le 0x20004 M := by first | assumption | exact Mask.trans (by assumption) rfl) :
    Keeps M s (State.chunk0 win data u).2 := by
  unfold State.chunk0
  dsimp only
  repeat' first | with_reducible exact h | with_reducible refine State.dmaCheck_keeps ?_ | with_reducible refine State.dmaErr_keeps ?_ | with_reducible refine Keeps.ite ?_ ?_ | split

theorem State.setNvm_keeps {M : Nat} {r : Nvm × Bool} {s u : State} (hr : Sparse.wf blankPage u.nvm.pages = true → Sparse.wf blankPage r.1.pages = true)
    (h : Keeps M s u)
    (hM : Mask.Le 0x2004 M := by first | assumption | exact Mask.trans (by assumption) rfl) : Keeps M s (State.setNvm r u) := by
  have h1 : Keeps M s { u with nvm := r.1 } := Keeps.upd h id id id id id hr id id id id id id id
  unfold State.setNvm
  dsimp only
  repeat' split
  all_goals first | exact h1 | exact State.see_keeps h1 | exact State.see_keeps (State.see_keeps h1)

theorem Nvm.blank_wf {b : Nat} {n : Nvm} (h : Sparse.wf blankPage n.pages = true) : Sparse.wf blankPage (n.blank b).pages = true :=
  Sparse.wfFrom_filter _ _ _ _ h
theorem Nvm.takeSpare_pages {b : Nat} {n m : Nvm} (e : n.takeSpare b = some m) : m.pages = n.pages := by
  unfold Nvm.takeSpare at e; split at e <;> cases e; rfl
theorem Nvm.eraseBlock_wf {bad : Bool} {b : Nat} {n m : Nvm} (e : n.eraseBlock bad b = some m)
    (h : Sparse.wf blankPage n.pages = true) : Sparse.wf blankPage m.pages = true := by
  unfold Nvm.eraseBlock at e
  dsimp only at e
  split at e
  · rw [Option.map_eq_some_iff] at e
    obtain ⟨k, ek, rfl⟩ := e
    exact Nvm.blank_wf (by rw [Nvm.takeSpare_pages ek]; exact h)
  · cases e; exact Nvm.blank_wf h
theorem Nvm.eraseAll_wf {bad : NvmBad} {bs : List Nat} {n : Nvm} (h : Sparse.wf blankPage n.pages = true) :
    Sparse.wf blankPage (Nvm.eraseAll bad bs n).1.pages = true := by
  induction bs generalizing n with
  | nil => exact h
  | cons b bs ih =>
    unfold Nvm.eraseAll
    split
    · rename_i e; exact ih (Nvm.eraseBlock_wf e h)
    · exact h
theorem Nvm.programPage_wf {bad : Bool} {p : Nat} {bs : Bytes} {n m : Nvm} (e : n.programPage bad p bs = some m)
    (h : Sparse.wf blankPage n.pages = true) : Sparse.wf blankPage m.pages = true := by
  unfold Nvm.programPage at e
  rw [Option.map_eq_some_iff] at e
  obtain ⟨k, ek, rfl⟩ := e
  refine Sparse.wf_set _ _ _ _ ?_
  split at ek
  · rw [Nvm.takeSpare_pages ek]; exact h
  · cases ek; exact h
theorem Nvm.programAll_wf {bad : NvmBad} {torn : Nat} {ps : List (Nat × Bytes)} {n : Nvm} (h : Sparse.wf blankPage n.pages = true) :
    Sparse.wf blankPage (Nvm.programAll bad torn ps n).1.pages = true := by
  induction ps generalizing n with
  | nil => exact h
  | cons p ps ih =>
    unfold Nvm.programAll
    split
    · rename_i e; exact ih (Nvm.programPage_wf e h)
    · exact Sparse.wf_set _ _ _ _ h
theorem State.nvmErase_keeps {M : Nat} {bad : NvmBad} {bs : List Nat} {s u : State} (h : Keeps M s u)
    (hM : Mask.Le 0x2004 M := by first | assumption | exact Mask.trans (by assumption) rfl) : Keeps M s (State.nvmErase bad bs u).2 :=
  State.setNvm_keeps Nvm.eraseAll_wf h

theorem State.epdRun_keeps {M : Nat} {win : ℕ} {c : Sys2Proof.Bytes} {s u : State} (h : Keeps M s u)
    (hM : Mask.Le 0x4004 M := by first | assumption | exact Mask.trans (by assumption) rfl) :
    Keeps M s (State.epdRun win c u) := by
  unfold State.epdRun
  dsimp only
  repeat' first | with_reducible exact h | exact id | with_reducible refine State.setFld_keeps ?_ | with_reducible refine Keeps.upd ?_ ?_ ?_ ?_ ?_ ?_ ?_ ?_ ?_ ?_ ?_ ?_ ?_ ?_

theorem State.epdStop_keeps {M : Nat} {status : ℕ} {chunk : ℕ} {s u : State} (h : Keeps M s u)
    (hM : Mask.Le 0x4004 M := by first | assumption | exact Mask.trans (by assumption) rfl) :
    Keeps M s (State.epdStop status chunk u) := by
  unfold State.epdStop
  repeat' first | with_reducible exact h | with_reducible refine State.epdEnd_keeps ?_ | with_reducible refine State.epdPhase_keeps ?_

theorem doEpdWrite_keeps {M : Nat} {win : ℕ} {data : DmaIn} {bad : NvmBad} {s u : State} (h : Keeps M s u)
    (hM : Mask.Le 0x26004 M := by first | assumption | exact Mask.trans (by assumption) rfl) :
    Keeps M s (doEpdWrite win data bad u) := by
  unfold doEpdWrite
  dsimp only
  repeat' first | with_reducible exact h | with_reducible exact Keeps.refl _ | with_reducible refine State.epdEnd_keeps ?_ | with_reducible refine State.chunk0_keeps ?_ | with_reducible refine State.journal_keeps ?_ | with_reducible refine State.setFld_keeps ?_ | with_reducible refine State.nvmErase_keeps ?_ | with_reducible refine State.epdRun_keeps ?_ | with_reducible refine State.epdStop_keeps ?_ | with_reducible refine State.epdCmd_keeps (fun _ => ?_) ?_ | with_reducible refine Keeps.ite ?_ ?_ | split | dsimp only

theorem State.dropStray_keeps {M : Nat} {n : ℕ} {tag : ℕ} {s u : State} (h : Keeps M s u)
    (hM : Mask.Le 0x800 M := by first | assumption | exact Mask.trans (by assumption) rfl) :
    Keeps M s (State.dropStray n tag u) := by
  unfold State.dropStray
  repeat' first | with_reducible exact h | exact id | with_reducible refine Keeps.upd ?_ ?_ ?_ ?_ ?_ ?_ ?_ ?_ ?_ ?_ ?_ ?_ ?_ ?_ | exact Sparse.wfFrom_filter _ _ _ _

theorem State.pushFail_keeps {M : Nat} {s u : State} (h : Keeps M s u)
    (hM : Mask.Le 0x4 M := by first | assumption | exact Mask.trans (by assumption) rfl) :
    Keeps M s (State.pushFail u) := by
  unfold State.pushFail
  repeat' first | with_reducible exact h | with_reducible refine State.see_keeps ?_ | with_reducible refine State.setFld_keeps ?_

theorem State.readEntry_keeps {M : Nat} {n : ℕ} {ecc : Bool} {s u : State} (h : Keeps M s u)
    (hM : Mask.Le 0x100004 M := by first | assumption | exact Mask.trans (by assumption) rfl) :
    Keeps M s (State.readEntry n ecc u).2 := by
  unfold State.readEntry
  dsimp only
  repeat' first | with_reducible exact h | exact id | with_reducible refine State.fltLog_keeps ?_ | with_reducible refine State.see_keeps ?_ | with_reducible refine Keeps.ite ?_ ?_ | split | with_reducible refine Keeps.upd ?_ ?_ ?_ ?_ ?_ ?_ ?_ ?_ ?_ ?_ ?_ ?_ ?_ ?_ | exact fun _ => rfl

theorem State.dmaWrite_keeps {M : Nat} {w : ℕ} {o : ℕ} {bs : Sys2Proof.Bytes} {s u : State} (h : Keeps M s u)
    (hM : Mask.Le 0x400000 M := by first | assumption | exact Mask.trans (by assumption) rfl) :
    Keeps M s (State.dmaWrite w o bs u) := by
  unfold State.dmaWrite
  repeat' first | with_reducible exact h | exact id | with_reducible refine Keeps.upd ?_ ?_ ?_ ?_ ?_ ?_ ?_ ?_ ?_ ?_ ?_ ?_ ?_ ?_

theorem doColPushWrite_keeps {M : Nat} {ecc : Bool} {fails : Bool} {s u : State} (h : Keeps M s u)
    (hM : Mask.Le 0x520004 M := by first | assumption | exact Mask.trans (by assumption) rfl) :
    Keeps M s (doColPushWrite ecc fails u) := by
  unfold doColPushWrite
  dsimp only
  repeat' first | with_reducible exact h | exact id | with_reducible refine State.dmaCheck_keeps ?_ | with_reducible refine State.pushFail_keeps ?_ | with_reducible refine State.dmaErr_keeps ?_ | with_reducible refine State.readEntry_keeps ?_ | with_reducible refine State.dmaWrite_keeps ?_ | with_reducible refine Keeps.ite ?_ ?_ | split | with_reducible refine Keeps.upd ?_ ?_ ?_ ?_ ?_ ?_ ?_ ?_ ?_ ?_ ?_ ?_ ?_ ?_

theorem State.updCasc_keeps {M : Nat} {g : Casc → Casc} {s u : State} (h : Keeps M s u)
    (hM : Mask.Le 0x100 M := by first | assumption | exact Mask.trans (by assumption) rfl) :
    Keeps M s (State.updCasc g u) := by
  unfold State.updCasc
  repeat' first | with_reducible exact h | exact id | with_reducible refine Keeps.upd ?_ ?_ ?_ ?_ ?_ ?_ ?_ ?_ ?_ ?_ ?_ ?_ ?_ ?_

theorem State.cascSend_keeps {M : Nat} {f : CFrame} {s u : State} (h : Keeps M s u)
    (hM : Mask.Le 0x100 M := by first | assumption | exact Mask.trans (by assumption) rfl) :
    Keeps M s (State.cascSend f u) := by
  unfold State.cascSend
  repeat' first | with_reducible exact h | with_reducible refine State.updCasc_keeps ?_

theorem State.fastRetrain_keeps {M : Nat} {p : ℕ} {s u : State} (h : Keeps M s u)
    (hM : Mask.Le 0x404 M := by first | assumption | exact Mask.trans (by assumption) rfl) :
    Keeps M s (State.fastRetrain p u) := by
  unfold State.fastRetrain
  dsimp only
  repeat' first | with_reducible exact h | with_reducible refine State.updPort_keeps ?_ | with_reducible refine State.inc_keeps ?_ | with_reducible refine State.see_keeps ?_ | with_reducible refine State.setPortState_keeps ?_

theorem State.replay_keeps {M : Nat} {p : ℕ} {from_ : ℕ} {s u : State} (h : Keeps M s u)
    (hM : Mask.Le 0x404 M := by first | assumption | exact Mask.trans (by assumption) rfl) :
    Keeps M s (State.replay p from_ u) := by
  unfold State.replay
  dsimp only
  repeat' first | with_reducible exact h | with_reducible refine State.updPort_keeps ?_ | with_reducible refine State.see_keeps ?_ | with_reducible refine State.inc_keeps ?_ | with_reducible refine State.fastRetrain_keeps ?_ | with_reducible refine Keeps.ite ?_ ?_ | split

theorem State.takeAck_keeps {M : Nat} {p : ℕ} {f : RxFlit} {s u : State} (h : Keeps M s u)
    (hM : Mask.Le 0x404 M := by first | assumption | exact Mask.trans (by assumption) rfl) :
    Keeps M s (State.takeAck p f u) := by
  unfold State.takeAck
  dsimp only
  repeat' first | with_reducible exact h | with_reducible refine State.updPort_keeps ?_ | with_reducible refine State.replay_keeps ?_ | with_reducible refine Keeps.ite ?_ ?_ | split

theorem State.dataFlit_keeps {M : Nat} {p : ℕ} {f : RxFlit} {s u : State} (h : Keeps M s u)
    (hM : Mask.Le 0x280E36 M := by first | assumption | exact Mask.trans (by assumption) rfl) :
    Keeps M s (State.dataFlit p f u) := by
  unfold State.dataFlit
  dsimp only
  repeat' first | with_reducible exact h | with_reducible refine State.updPort_keeps ?_ | with_reducible refine State.fullTrain_keeps ?_ | with_reducible refine State.see_keeps ?_ | with_reducible refine Keeps.ite ?_ ?_ | split

theorem State.linkUp_keeps {M : Nat} {p : ℕ} {s u : State} (h : Keeps M s u)
    (hM : Mask.Le 0x200406 M := by first | assumption | exact Mask.trans (by assumption) rfl) :
    Keeps M s (State.linkUp p u) := by
  unfold State.linkUp
  dsimp only
  repeat' first | with_reducible exact h | with_reducible exact Keeps.refl _ | with_reducible refine State.setPortState_keeps ?_ | with_reducible refine State.nextTag_keeps ?_ | with_reducible refine State.send_keeps ?_ | with_reducible refine State.replay_keeps ?_ | with_reducible refine State.updPort_keeps ?_ | with_reducible refine Keeps.foldl (fun _ _ => ?_) _ ?_ | with_reducible refine Keeps.ite ?_ ?_ | split | dsimp only

theorem State.linkFlit_keeps {M : Nat} {p : ℕ} {pl : Sys2Proof.Bytes} {s u : State} (h : Keeps M s u)
    (hM : Mask.Le 0x200406 M := by first | assumption | exact Mask.trans (by assumption) rfl) :
    Keeps M s (State.linkFlit p pl u) := by
  unfold State.linkFlit
  dsimp only
  repeat' first | with_reducible exact h | with_reducible refine State.fastRetrain_keeps ?_ | with_reducible refine State.updPort_keeps ?_ | with_reducible refine State.setFld_keeps ?_ | with_reducible refine State.linkUp_keeps ?_ | with_reducible refine Keeps.ite ?_ ?_ | split

theorem State.flit_keeps {M : Nat} {p : ℕ} {bs : Sys2Proof.Bytes} {s u : State} (h : Keeps M s u)
    (hM : Mask.Le 0x280E36 M := by first | assumption | exact Mask.trans (by assumption) rfl) :
    Keeps M s (State.flit p bs u) := by
  unfold State.flit
  dsimp only
  repeat' first | with_reducible exact h | with_reducible refine State.inc_keeps ?_ | with_reducible refine State.see_keeps ?_ | with_reducible refine State.updPort_keeps ?_ | with_reducible refine State.takeAck_keeps ?_ | with_reducible refine State.dataFlit_keeps ?_ | with_reducible refine State.linkFlit_keeps ?_ | with_reducible refine Keeps.ite ?_ ?_ | split

theorem doSpnFecBlockRx_keeps {M : Nat} {p : ℕ} {blk : Option (ℕ × ℕ × List Sys2Proof.Bytes)} {s u : State} (h : Keeps M s u)
    (hM : Mask.Le 0x280E36 M := by first | assumption | exact Mask.trans (by assumption) rfl) :
    Keeps M s (doSpnFecBlockRx p blk u) := by
  unfold doSpnFecBlockRx
  dsimp only
  repeat' first | with_reducible exact h | with_reducible exact Keeps.refl _ | with_reducible refine State.updPort_keeps ?_ | with_reducible refine State.inc_keeps ?_ | with_reducible refine State.see_keeps ?_ | with_reducible refine State.flit_keeps ?_ | with_reducible refine State.incBy_keeps ?_ | with_reducible refine Keeps.foldl (fun _ _ => ?_) _ ?_ | with_reducible refine Keeps.ite ?_ ?_ | split | dsimp only

theorem State.updFilling_keeps {M : Nat} {n : ℕ} {g : Item → Item} {s u : State} (h : Keeps M s u)
    (hM : Mask.Le 0x20 M := by first | assumption | exact Mask.trans (by assumption) rfl) :
    Keeps M s (State.updFilling n g u) := by
  unfold State.updFilling
  repeat' first | with_reducible exact h | exact id | with_reducible refine Keeps.upd ?_ ?_ ?_ ?_ ?_ ?_ ?_ ?_ ?_ ?_ ?_ ?_ ?_ ?_

theorem State.closeBlock_keeps {M : Nat} {n : ℕ} {s u : State} (h : Keeps M s u)
    (hM : Mask.Le 0x30 M := by first | assumption | exact Mask.trans (by assumption) rfl) :
    Keeps M s (State.closeBlock n u) := by
  unfold State.closeBlock
  dsimp only
  repeat' first | with_reducible exact h | with_reducible refine State.updFilling_keeps ?_ | with_reducible refine State.updRun_keeps ?_ | with_reducible refine Keeps.ite ?_ ?_ | split

theorem State.qpFetched_keeps {M : Nat} {q : ℕ} {s u : State} (h : Keeps M s u)
    (hM : Mask.Le 0x20004 M := by first | assumption | exact Mask.trans (by assumption) rfl) :
    Keeps M s (State.qpFetched q u) := by
  unfold State.qpFetched
  dsimp only
  repeat' first | with_reducible exact h | with_reducible refine State.setFld_keeps ?_ | with_reducible refine State.updQp_keeps ?_

theorem State.writeCompl_keeps {M : Nat} {q : ℕ} {bs : Sys2Proof.Bytes} {s u : State} (h : Keeps M s u)
    (hM : Mask.Le 0x420004 M := by first | assumption | exact Mask.trans (by assumption) rfl) :
    Keeps M s (State.writeCompl q bs u) := by
  unfold State.writeCompl
  dsimp only
  repeat' first | with_reducible exact h | with_reducible refine State.dmaCheck_keeps ?_ | with_reducible refine State.updQp_keeps ?_ | with_reducible refine State.dmaWrite_keeps ?_ | with_reducible refine State.causeMsix_keeps ?_ | with_reducible refine Keeps.ite ?_ ?_ | split

theorem State.drainPosts_keeps {M : Nat} {q : Nat} {ps : List Bytes} {s u : State} (h : Keeps M s u)
    (hM : Mask.Le 0x420004 M := by first | assumption | exact Mask.trans (by assumption) rfl) : Keeps M s (State.drainPosts q ps u) := by
  induction ps generalizing u with
  | nil => exact State.updQp_keeps h
  | cons p ps ih =>
    unfold State.drainPosts
    split
    · exact State.updQp_keeps h
    · exact ih (State.writeCompl_keeps h)

theorem State.complete_keeps {M : Nat} {q : ℕ} {cid : ℕ} {status : ℕ} {data : ℕ} {s u : State} (h : Keeps M s u)
    (hM : Mask.Le 0x420004 M := by first | assumption | exact Mask.trans (by assumption) rfl) :
    Keeps M s (State.complete q cid status data u) := by
  unfold State.complete
  dsimp only
  repeat' first | with_reducible exact h | with_reducible refine State.updQp_keeps ?_ | with_reducible refine State.drainPosts_keeps ?_ | with_reducible refine State.writeCompl_keeps ?_ | with_reducible refine State.setFld_keeps ?_ | with_reducible refine Keeps.ite ?_ ?_ | split

theorem State.sqe_keeps {M : Nat} {q : Nat} {inp : DmaIn} {mine : Nat → Bool} {f : Bytes → Nat → State → State} {s u : State}
    (hf : ∀ e cid w, Keeps M w (f e cid w)) (h : Keeps M s u)
    (hM : Mask.Le 0x420004 M := by first | assumption | exact Mask.trans (by assumption) rfl) : Keeps M s (State.sqe q inp mine f u) := by
  unfold State.sqe
  dsimp only
  repeat' split
  · exact h
  · exact State.dmaCheck_keeps h
  · exact State.dmaErr_keeps (State.dmaCheck_keeps h)
  · exact h
  · exact State.complete_keeps (State.qpFetched_keeps (State.dmaCheck_keeps h))
  · exact (State.qpFetched_keeps (State.dmaCheck_keeps h)).trans (hf _ _ _)

theorem State.askCancel_keeps {M : Nat} {hh : Handle} {b : CancelBy} {s u : State} (h : Keeps M s u)
    (hM : Mask.Le 0x10 M := by first | assumption | exact Mask.trans (by assumption) rfl) :
    Keeps M s (State.askCancel hh b u) := by
  unfold State.askCancel
  repeat' first | with_reducible exact h | exact id | with_reducible refine Keeps.upd ?_ ?_ ?_ ?_ ?_ ?_ ?_ ?_ ?_ ?_ ?_ ?_ ?_ ?_

theorem doQpFolioCancel_keeps {M : Nat} {q : ℕ} {inp : DmaIn} {s u : State} (h : Keeps M s u)
    (hM : Mask.Le 0x420014 M := by first | assumption | exact Mask.trans (by assumption) rfl) :
    Keeps M s (doQpFolioCancel q inp u) := by
  unfold doQpFolioCancel
  dsimp only
  repeat' first | with_reducible exact h | with_reducible exact Keeps.refl _ | with_reducible refine State.complete_keeps ?_ | with_reducible refine State.updQp_keeps ?_ | with_reducible refine State.askCancel_keeps ?_ | with_reducible refine State.sqe_keeps (fun _ _ _ => ?_) ?_ | with_reducible refine Keeps.ite ?_ ?_ | split | dsimp only

theorem doNvmProgram_keeps {M : Nat} {win : ℕ} {s u : State} (h : Keeps M s u)
    (hM : Mask.Le 0x22004 M := by first | assumption | exact Mask.trans (by assumption) rfl) :
    Keeps M s (doNvmProgram win u) := by
  unfold doNvmProgram
  repeat' first | with_reducible exact h | with_reducible refine State.nvmCmd_keeps ?_ | with_reducible refine Keeps.ite ?_ ?_ | split

theorem State.setGather_keeps {M : Nat} {g : GState} {s u : State} (h : Keeps M s u)
    (hM : Mask.Le 0x8 M := by first | assumption | exact Mask.trans (by assumption) rfl) :
    Keeps M s (State.setGather g u) := by
  unfold State.setGather
  repeat' first | with_reducible exact h | exact id | with_reducible refine Keeps.upd ?_ ?_ ?_ ?_ ?_ ?_ ?_ ?_ ?_ ?_ ?_ ?_ ?_ ?_

theorem State.provEnd_keeps {M : Nat} {st : ℕ} {s u : State} (h : Keeps M s u)
    (hM : Mask.Le 0x4 M := by first | assumption | exact Mask.trans (by assumption) rfl) :
    Keeps M s (State.provEnd st u) := by
  unfold State.provEnd
  repeat' first | with_reducible exact h | with_reducible refine State.setFld_keeps ?_

theorem doSecProvAbort_keeps {M : Nat} {s u : State} (h : Keeps M s u)
    (hM : Mask.Le 0x10004 M := by first | assumption | exact Mask.trans (by assumption) rfl) :
    Keeps M s (doSecProvAbort u) := by
  unfold doSecProvAbort
  dsimp only
  repeat' first | with_reducible exact h | exact id | with_reducible refine State.provEnd_keeps ?_ | with_reducible refine State.setFld_keeps ?_ | with_reducible refine Keeps.ite ?_ ?_ | split | with_reducible refine Keeps.upd ?_ ?_ ?_ ?_ ?_ ?_ ?_ ?_ ?_ ?_ ?_ ?_ ?_ ?_

theorem State.qpStart_keeps {M : Nat} {q : Nat} {s u : State} (h : Keeps M s u)
    (hM : Mask.Le 0x20004 M := by first | assumption | exact Mask.trans (by assumption) rfl) : Keeps M s (State.qpStart q u) := by
  have h1 : Keeps M s { u with hif := { u.hif with qps := Sparse.set (fun _ => .zero) u.hif.qps q .zero } } :=
    Keeps.upd h id id id id id id id (fun w => by dsimp only; exact Sparse.wf_set _ _ _ _ w) id id id id id
  exact State.wr_keeps (State.wr_keeps (State.setFld_keeps (State.setFld_keeps (State.setFld_keeps (State.setFld_keeps h1)))))

theorem doGroupMoveDone_keeps {M : Nat} {s u : State} (h : Keeps M s u)
    (hM : Mask.Le 0x24 M := by first | assumption | exact Mask.trans (by assumption) rfl) : Keeps M s (doGroupMoveDone u) := by
  unfold doGroupMoveDone
  split
  · exact h
  · dsimp only
    split
    · exact h
    · refine State.inc_keeps ?_
      refine Keeps.upd h ?_ ?_ ?_ ?_ ?_ ?_ ?_ ?_ ?_ ?_ ?_ ?_ ?_
      all_goals try dsimp only
      all_goals first | with_reducible exact id | exact Adm.rescale_keeps (Adm.rescale_keeps id)

theorem State.bindCmd_keeps {M : Nat} {f : State → State} {s u : State} (hf : ∀ w, Keeps M w (f w)) (h : Keeps M s u)
    (hM : Mask.Le 0x1004 M := by first | assumption | exact Mask.trans (by assumption) rfl) : Keeps M s (State.bindCmd f u) := by
  unfold State.bindCmd
  repeat' split
  · exact h
  · exact State.bindEnd_keeps h
  · exact h.trans (hf _)

theorem State.goStale_keeps {M : Nat} {s u : State} (h : Keeps M s u)
    (hM : Mask.Le 0x1000 M := by first | assumption | exact Mask.trans (by assumption) rfl) :
    Keeps M s (State.goStale u) := by
  unfold State.goStale
  repeat' first | with_reducible exact h | exact id | with_reducible refine Keeps.ite ?_ ?_ | split | with_reducible refine Keeps.upd ?_ ?_ ?_ ?_ ?_ ?_ ?_ ?_ ?_ ?_ ?_ ?_ ?_ ?_

theorem State.bindRun_keeps {M : Nat} {op : BindOp} {s u : State} (h : Keeps M s u)
    (hM : Mask.Le 0x1004 M := by first | assumption | exact Mask.trans (by assumption) rfl) :
    Keeps M s (State.bindRun op u) := by
  unfold State.bindRun
  dsimp only
  repeat' first | with_reducible exact h | exact id | with_reducible refine State.setFld_keeps ?_ | with_reducible refine Keeps.upd ?_ ?_ ?_ ?_ ?_ ?_ ?_ ?_ ?_ ?_ ?_ ?_ ?_ ?_

theorem doBindStage_keeps {M : Nat} {win : ℕ} {s u : State} (h : Keeps M s u)
    (hM : Mask.Le 0x21004 M := by first | assumption | exact Mask.trans (by assumption) rfl) :
    Keeps M s (doBindStage win u) := by
  unfold doBindStage
  dsimp only
  repeat' first | with_reducible exact h | with_reducible exact Keeps.refl _ | exact id | with_reducible refine State.dmaCheck_keeps ?_ | with_reducible refine State.bindEnd_keeps ?_ | with_reducible refine State.goStale_keeps ?_ | with_reducible refine State.bindRun_keeps ?_ | with_reducible refine State.bindCmd_keeps (fun _ => ?_) ?_ | with_reducible refine Keeps.ite ?_ ?_ | split | with_reducible refine Keeps.upd ?_ ?_ ?_ ?_ ?_ ?_ ?_ ?_ ?_ ?_ ?_ ?_ ?_ ?_ | dsimp only

theorem State.cascLost_keeps {M : Nat} {c : CSearch} {s u : State} (h : Keeps M s u)
    (hM : Mask.Le 0x120 M := by first | assumption | exact Mask.trans (by assumption) rfl) :
    Keeps M s (State.cascLost c u) := by
  unfold State.cascLost
  dsimp only
  repeat' first | with_reducible exact h | with_reducible refine State.updCasc_keeps ?_ | with_reducible refine State.updItem_keeps ?_

theorem State.cascDown_keeps {M : Nat} {reason : ℕ} {s u : State} (h : Keeps M s u)
    (hM : Mask.Le 0x124 M := by first | assumption | exact Mask.trans (by assumption) rfl) :
    Keeps M s (State.cascDown reason u) := by
  unfold State.cascDown
  dsimp only
  repeat' first | with_reducible exact h | with_reducible exact Keeps.refl _ | with_reducible refine State.cascLost_keeps ?_ | with_reducible refine State.setFld_keeps ?_ | with_reducible refine State.inc_keeps ?_ | with_reducible refine State.see_keeps ?_ | with_reducible refine State.updCasc_keeps ?_ | with_reducible refine Keeps.foldl (fun _ _ => ?_) _ ?_ | dsimp only

theorem doCascadeRingDown_keeps {M : Nat} {s u : State} (h : Keeps M s u)
    (hM : Mask.Le 0x124 M := by first | assumption | exact Mask.trans (by assumption) rfl) :
    Keeps M s (doCascadeRingDown u) := by
  unfold doCascadeRingDown
  repeat' first | with_reducible exact h | with_reducible refine State.cascDown_keeps ?_ | with_reducible refine Keeps.ite ?_ ?_ | split

theorem State.fenceGroup_keeps {M : Nat} {toOut : Bool} {s u : State} (h : Keeps M s u)
    (hM : Mask.Le 0x24 M := by first | assumption | exact Mask.trans (by assumption) rfl) :
    Keeps M s (State.fenceGroup toOut u) := by
  unfold State.fenceGroup
  dsimp only
  repeat' first | with_reducible exact h | exact id | with_reducible refine State.see_keeps ?_ | with_reducible refine Keeps.ite ?_ ?_ | split | with_reducible refine Keeps.upd ?_ ?_ ?_ ?_ ?_ ?_ ?_ ?_ ?_ ?_ ?_ ?_ ?_ ?_ | exact Sparse.wfFrom_filter _ _ _ _

theorem State.cancelCompl_keeps {M : Nat} {by_ : CancelBy} {hh : Handle} {st : ℕ} {s u : State} (h : Keeps M s u)
    (hM : Mask.Le 0x420004 M := by first | assumption | exact Mask.trans (by assumption) rfl) :
    Keeps M s (State.cancelCompl by_ hh st u) := by
  unfold State.cancelCompl
  repeat' first | with_reducible exact h | with_reducible refine State.complete_keeps ?_ | with_reducible refine Keeps.ite ?_ ?_ | split

theorem doScpWatchdogExpiry_keeps {M : Nat} {w : WarmIn} {s u : State} (h : Keeps M s u)
    (hM : Mask.Le 0x3ADEFF M := by first | assumption | exact Mask.trans (by assumption) rfl) :
    Keeps M s (doScpWatchdogExpiry w u) := by
  unfold doScpWatchdogExpiry
  repeat' first | with_reducible exact h | with_reducible refine State.warmReset_keeps ?_

theorem State.placeEnd_keeps {M : Nat} {n : ℕ} {s u : State} (h : Keeps M s u)
    (hM : Mask.Le 0x30 M := by first | assumption | exact Mask.trans (by assumption) rfl) :
    Keeps M s (State.placeEnd n u) := by
  unfold State.placeEnd
  dsimp only
  repeat' first | with_reducible exact h | with_reducible refine State.closeBlock_keeps ?_ | with_reducible refine State.updRun_keeps ?_ | with_reducible refine State.enqueue_keeps ?_ | with_reducible refine Keeps.ite ?_ ?_ | split

theorem doReqEnd_keeps {M : Nat} {hd : Hdr} {hh : Handle} {s u : State} (h : Keeps M s u)
    (hM : Mask.Le 0x200436 M := by first | assumption | exact Mask.trans (by assumption) rfl) :
    Keeps M s (doReqEnd hd hh u) := by
  unfold doReqEnd
  dsimp only
  repeat' first | with_reducible exact h | with_reducible exact Keeps.refl _ | with_reducible refine State.reject_keeps ?_ | with_reducible refine State.updFolio_keeps ?_ | with_reducible refine State.placeEnd_keeps ?_ | with_reducible refine State.post_keeps ?_ | with_reducible refine State.fromPartner_keeps (fun _ => ?_) (fun _ _ => ?_) ?_ | with_reducible refine Keeps.ite ?_ ?_ | split | dsimp only

theorem State.raiseFuses_keeps {M : Nat} {v : ℕ} {upTo : Option ℕ} {s u : State} (h : Keeps M s u)
    (hM : Mask.Le 0x4004 M := by first | assumption | exact Mask.trans (by assumption) rfl) :
    Keeps M s (State.raiseFuses v upTo u) := by
  unfold State.raiseFuses
  dsimp only
  repeat' first | with_reducible exact h | exact id | with_reducible refine State.see_keeps ?_ | with_reducible refine Keeps.ite ?_ ?_ | split | with_reducible refine Keeps.upd ?_ ?_ ?_ ?_ ?_ ?_ ?_ ?_ ?_ ?_ ?_ ?_ ?_ ?_

theorem State.confirm_keeps {M : Nat} {i : FwImage} {s u : State} (h : Keeps M s u)
    (hM : Mask.Le 0x4004 M := by first | assumption | exact Mask.trans (by assumption) rfl) :
    Keeps M s (State.confirm i u) := by
  unfold State.confirm
  dsimp only
  repeat' first | with_reducible exact h | exact id | with_reducible refine State.epdPhase_keeps ?_ | with_reducible refine Keeps.upd ?_ ?_ ?_ ?_ ?_ ?_ ?_ ?_ ?_ ?_ ?_ ?_ ?_ ?_ | exact Sparse.wfFrom_filter _ _ _ _

theorem State.loadFirmware_keeps {M : Nat} {upset : Bool} {fuseTo : Option ℕ} {s u : State} (h : Keeps M s u)
    (hM : Mask.Le 0x4004 M := by first | assumption | exact Mask.trans (by assumption) rfl) :
    Keeps M s (State.loadFirmware upset fuseTo u) := by
  unfold State.loadFirmware
  dsimp only
  repeat' first | with_reducible exact h | exact id | with_reducible refine State.raiseFuses_keeps ?_ | with_reducible refine State.setFld_keeps ?_ | with_reducible refine State.see_keeps ?_ | with_reducible refine State.confirm_keeps ?_ | with_reducible refine Keeps.ite ?_ ?_ | split | with_reducible refine Keeps.upd ?_ ?_ ?_ ?_ ?_ ?_ ?_ ?_ ?_ ?_ ?_ ?_ ?_ ?_

theorem State.startStore_keeps {M : Nat} {c : ColdIn} {s u : State} (h : Keeps M s u)
    (hM : Mask.Le 0x6004 M := by first | assumption | exact Mask.trans (by assumption) rfl) :
    Keeps M s (State.startStore c u) := by
  unfold State.startStore
  dsimp only
  repeat' first | with_reducible exact h | exact id | with_reducible refine State.loadFirmware_keeps ?_ | with_reducible refine Keeps.ite ?_ ?_ | split | with_reducible refine Keeps.upd ?_ ?_ ?_ ?_ ?_ ?_ ?_ ?_ ?_ ?_ ?_ ?_ ?_ ?_

theorem State.raiseIbi_keeps {M : Nat} {cause : ℕ} {value : ℕ} {s u : State} (h : Keeps M s u)
    (hM : Mask.Le 0x20000 M := by first | assumption | exact Mask.trans (by assumption) rfl) :
    Keeps M s (State.raiseIbi cause value u) := by
  unfold State.raiseIbi
  repeat' first | with_reducible exact h | exact id | with_reducible refine Keeps.ite ?_ ?_ | split | with_reducible refine Keeps.upd ?_ ?_ ?_ ?_ ?_ ?_ ?_ ?_ ?_ ?_ ?_ ?_ ?_ ?_

theorem State.startEnd_keeps {M : Nat} {cals : List CalIn} {s u : State} (h : Keeps M s u)
    (hM : Mask.Le 0x2A0E36 M := by first | assumption | exact Mask.trans (by assumption) rfl) :
    Keeps M s (State.startEnd cals u) := by
  unfold State.startEnd
  dsimp only
  repeat' first | with_reducible exact h | with_reducible refine State.trainPorts_keeps ?_ | with_reducible refine State.setFld_keeps ?_ | with_reducible refine State.calQuires_keeps ?_ | with_reducible refine State.raiseIbi_keeps ?_ | with_reducible refine State.see_keeps ?_ | with_reducible refine Keeps.ite ?_ ?_ | split

theorem State.halt_keeps {M : Nat} {step : ℕ} {reason : ℕ} {s u : State} (h : Keeps M s u)
    (hM : Mask.Le 0x4 M := by first | assumption | exact Mask.trans (by assumption) rfl) :
    Keeps M s (State.halt step reason u) := by
  unfold State.halt
  repeat' first | with_reducible exact h | with_reducible refine State.setFld_keeps ?_

theorem State.haltLocked_keeps {M : Nat} {step : ℕ} {s u : State} (h : Keeps M s u)
    (hM : Mask.Le 0x4 M := by first | assumption | exact Mask.trans (by assumption) rfl) :
    Keeps M s (State.haltLocked step u) := by
  unfold State.haltLocked
  repeat' first | with_reducible exact h | with_reducible refine State.setFld_keeps ?_ | with_reducible refine State.halt_keeps ?_

theorem State.unsealKey_keeps {M : Nat} {s u : State} (h : Keeps M s u)
    (hM : Mask.Le 0x110004 M := by first | assumption | exact Mask.trans (by assumption) rfl) :
    Keeps M s (State.unsealKey u) := by
  unfold State.unsealKey
  dsimp only
  repeat' first | with_reducible exact h | exact id | with_reducible refine State.setFld_keeps ?_ | with_reducible refine State.haltLocked_keeps ?_ | with_reducible refine Keeps.ite ?_ ?_ | split | with_reducible refine Keeps.upd ?_ ?_ ?_ ?_ ?_ ?_ ?_ ?_ ?_ ?_ ?_ ?_ ?_ ?_

theorem State.startCore_keeps {M : Nat} {chainId : Sys2Proof.Bytes} {s u : State} (h : Keeps M s u)
    (hM : Mask.Le 0x100004 M := by first | assumption | exact Mask.trans (by assumption) rfl) :
    Keeps M s (State.startCore chainId u) := by
  unfold State.startCore
  dsimp only
  repeat' first | with_reducible exact h | exact id | with_reducible refine State.reloadQsvs_keeps ?_ | with_reducible refine State.wr_keeps ?_ | with_reducible refine Keeps.upd ?_ ?_ ?_ ?_ ?_ ?_ ?_ ?_ ?_ ?_ ?_ ?_ ?_ ?_

theorem State.startRest_keeps {M : Nat} {c : ColdIn} {s u : State} (h : Keeps M s u)
    (hM : Mask.Le 0x3B6E36 M := by first | assumption | exact Mask.trans (by assumption) rfl) :
    Keeps M s (State.startRest c u) := by
  unfold State.startRest
  dsimp only
  repeat' first | with_reducible exact h | with_reducible refine State.startStore_keeps ?_ | with_reducible refine State.startEnd_keeps ?_ | with_reducible refine State.setFld_keeps ?_ | with_reducible refine State.unsealKey_keeps ?_ | with_reducible refine State.startCore_keeps ?_ | with_reducible refine Keeps.ite ?_ ?_ | split

theorem doCatAddDone_keeps {M : Nat} {data : DmaIn} {s u : State} (h : Keeps M s u)
    (hM : Mask.Le 0x1004 M := by first | assumption | exact Mask.trans (by assumption) rfl) :
    Keeps M s (doCatAddDone data u) := by
  unfold doCatAddDone
  dsimp only
  repeat' first | with_reducible exact h | exact id | with_reducible refine State.bindEnd_keeps ?_ | with_reducible refine State.dmaErr_keeps ?_ | with_reducible refine Keeps.ite ?_ ?_ | split | with_reducible refine Keeps.upd ?_ ?_ ?_ ?_ ?_ ?_ ?_ ?_ ?_ ?_ ?_ ?_ ?_ ?_ | exact Sparse.wf_set _ _ _ _

theorem State.fault_keeps {M : Nat} {ns : List ℕ} {i : FaultInfo} {damaged : Bool} {s u : State} (h : Keeps M s u)
    (hM : Mask.Le 0x280E36 M := by first | assumption | exact Mask.trans (by assumption) rfl) :
    Keeps M s (State.fault ns i damaged u) := by
  unfold State.fault
  repeat' first | with_reducible exact h | with_reducible refine State.faultAt_keeps ?_

theorem State.quireReset_keeps {M : Nat} {qs : List ℕ} {tEnd : ℕ} {badJournals : List (Fin 8)} {cals : List CalIn} {s u : State} (h : Keeps M s u)
    (hM : Mask.Le 0x281EB6 M := by first | assumption | exact Mask.trans (by assumption) rfl) :
    Keeps M s (State.quireReset qs tEnd badJournals cals u) := by
  unfold State.quireReset
  dsimp only
  repeat' first | with_reducible exact h | with_reducible exact Keeps.refl _ | exact id | with_reducible refine State.setFld_keeps ?_ | with_reducible refine State.fault_keeps ?_ | with_reducible refine State.reloadQsvs_keeps ?_ | with_reducible refine State.cutRestore_keeps ?_ | with_reducible refine State.cutLoad_keeps ?_ | with_reducible refine State.rollForward_keeps ?_ | with_reducible refine State.freshEngines_keeps ?_ | with_reducible refine Keeps.foldl (fun _ _ => ?_) _ ?_ | with_reducible refine Keeps.ite ?_ ?_ | split | with_reducible refine Keeps.upd ?_ ?_ ?_ ?_ ?_ ?_ ?_ ?_ ?_ ?_ ?_ ?_ ?_ ?_ | exact Sparse.wfFrom_filter _ _ _ _ | dsimp only

theorem doQsvWatchdogExpiry_keeps {M : Nat} {q : ℕ} {tEnd : ℕ} {badJournals : List (Fin 8)} {cals : List CalIn} {s u : State} (h : Keeps M s u)
    (hM : Mask.Le 0x281EB6 M := by first | assumption | exact Mask.trans (by assumption) rfl) :
    Keeps M s (doQsvWatchdogExpiry q tEnd badJournals cals u) := by
  unfold doQsvWatchdogExpiry
  repeat' first | with_reducible exact h | with_reducible refine State.quireReset_keeps ?_

theorem State.countSearch_keeps {M : Nat} {q : ℕ} {r : SearchRes} {s u : State} (h : Keeps M s u)
    (hM : Mask.Le 0x4 M := by first | assumption | exact Mask.trans (by assumption) rfl) :
    Keeps M s (State.countSearch q r u) := by
  unfold State.countSearch
  repeat' first | with_reducible exact h | with_reducible refine State.inc_keeps ?_ | with_reducible refine State.see_keeps ?_ | split

theorem doAmtCalStart_keeps {M : Nat} {q : ℕ} {t : ℕ} {s u : State} (h : Keeps M s u)
    (hM : Mask.Le 0x224 M := by first | assumption | exact Mask.trans (by assumption) rfl) :
    Keeps M s (doAmtCalStart q t u) := by
  unfold doAmtCalStart
  dsimp only
  repeat' first | with_reducible exact h | with_reducible exact Keeps.refl _ | with_reducible refine State.updTile_keeps ?_ | with_reducible refine State.loadRow_keeps ?_ | with_reducible refine Keeps.foldl (fun _ _ => ?_) _ ?_ | with_reducible refine Keeps.ite ?_ ?_ | split | dsimp only

theorem State.portDisable_keeps {M : Nat} {p : ℕ} {s u : State} (h : Keeps M s u)
    (hM : Mask.Le 0x280E36 M := by first | assumption | exact Mask.trans (by assumption) rfl) :
    Keeps M s (State.portDisable p u) := by
  unfold State.portDisable
  dsimp only
  repeat' first | with_reducible exact h | with_reducible refine State.losePort_keeps ?_ | with_reducible refine State.setPortState_keeps ?_ | with_reducible refine State.setFld_keeps ?_ | with_reducible refine State.updPort_keeps ?_

theorem State.spnCtrl_keeps {M : Nat} {p : ℕ} {v : ℕ} {s u : State} (h : Keeps M s u)
    (hM : Mask.Le 0x280E36 M := by first | assumption | exact Mask.trans (by assumption) rfl) :
    Keeps M s (State.spnCtrl p v u) := by
  unfold State.spnCtrl
  dsimp only
  repeat' first | with_reducible exact h | with_reducible refine State.wr_keeps ?_ | with_reducible refine State.portDisable_keeps ?_ | with_reducible refine State.fullTrain_keeps ?_ | with_reducible refine State.fastRetrain_keeps ?_ | with_reducible refine Keeps.ite ?_ ?_ | split

theorem doSpnFullTrain_keeps {M : Nat} {p : ℕ} {v : ℕ} {s u : State} (h : Keeps M s u)
    (hM : Mask.Le 0x280E36 M := by first | assumption | exact Mask.trans (by assumption) rfl) :
    Keeps M s (doSpnFullTrain p v u) := by
  unfold doSpnFullTrain
  repeat' first | with_reducible exact h | with_reducible refine State.spnCtrl_keeps ?_

theorem doAmaUpdWrite_keeps {M : Nat} {q : ℕ} {m : ℕ} {slot : ℕ} {s u : State} (h : Keeps M s u)
    (hM : Mask.Le 0x84 M := by first | assumption | exact Mask.trans (by assumption) rfl) :
    Keeps M s (doAmaUpdWrite q m slot u) := by
  unfold doAmaUpdWrite
  dsimp only
  repeat' first | with_reducible exact h | with_reducible exact Keeps.refl _ | with_reducible refine State.setFld_keeps ?_ | with_reducible refine State.updBegin_keeps ?_ | with_reducible refine State.updCmd_keeps (fun _ => ?_) ?_ | with_reducible refine Keeps.ite ?_ ?_ | split | dsimp only

theorem doReqAttr_keeps {M : Nat} {hd : Hdr} {hh : Handle} {es : List (BitVec 8 × BitVec 32)} {s u : State} (h : Keeps M s u)
    (hM : Mask.Le 0x200414 M := by first | assumption | exact Mask.trans (by assumption) rfl) :
    Keeps M s (doReqAttr hd hh es u) := by
  unfold doReqAttr
  dsimp only
  repeat' first | with_reducible exact h | with_reducible exact Keeps.refl _ | with_reducible refine State.reject_keeps ?_ | with_reducible refine State.updRun_keeps ?_ | with_reducible refine State.fromPartner_keeps (fun _ => ?_) (fun _ _ => ?_) ?_ | with_reducible refine Keeps.foldl (fun _ _ => ?_) _ ?_ | with_reducible refine Keeps.ite ?_ ?_ | split | dsimp only

theorem State.cancelNak_keeps {M : Nat} {src : Endp} {tag : ℕ} {hh : Handle} {st : ℕ} {s u : State} (h : Keeps M s u)
    (hM : Mask.Le 0x200404 M := by first | assumption | exact Mask.trans (by assumption) rfl) :
    Keeps M s (State.cancelNak src tag hh st u) := by
  unfold State.cancelNak
  dsimp only
  repeat' first | with_reducible exact h | with_reducible refine State.send_keeps ?_ | with_reducible refine State.countReject_keeps ?_

theorem State.folioResult_keeps {M : Nat} {st : ℕ} {s u : State} (h : Keeps M s u)
    (hM : Mask.Le 0x4 M := by first | assumption | exact Mask.trans (by assumption) rfl) :
    Keeps M s (State.folioResult st u) := by
  unfold State.folioResult
  repeat' first | with_reducible exact h | with_reducible refine State.setFld_keeps ?_

theorem State.refuseCancel_keeps {M : Nat} {c : CancelReq} {s u : State} (h : Keeps M s u)
    (hM : Mask.Le 0x200404 M := by first | assumption | exact Mask.trans (by assumption) rfl) :
    Keeps M s (State.refuseCancel c u) := by
  unfold State.refuseCancel
  dsimp only
  repeat' first | with_reducible exact h | with_reducible refine State.cancelNak_keeps ?_ | with_reducible refine State.folioResult_keeps ?_ | split

theorem State.xlFault_keeps {M : Nat} {q : ℕ} {items : List Item} {i : FaultInfo} {damaged : Bool} {seen : Option Fld} {s u : State} (h : Keeps M s u)
    (hM : Mask.Le 0x280E36 M := by first | assumption | exact Mask.trans (by assumption) rfl) :
    Keeps M s (State.xlFault q items i damaged seen u) := by
  unfold State.xlFault
  dsimp only
  repeat' first | with_reducible exact h | with_reducible refine State.incBy_keeps ?_ | with_reducible refine State.see_keeps ?_ | with_reducible refine State.fault_keeps ?_ | split

theorem doThermTripRelease_keeps {M : Nat} {ns : ℕ} {hottest : ℕ} {s u : State} (h : Keeps M s u)
    (hM : Mask.Le 0x40000 M := by first | assumption | exact Mask.trans (by assumption) rfl) :
    Keeps M s (doThermTripRelease ns hottest u) := by
  unfold doThermTripRelease
  repeat' first | with_reducible exact h | exact id | with_reducible refine Keeps.ite ?_ ?_ | split | with_reducible refine Keeps.upd ?_ ?_ ?_ ?_ ?_ ?_ ?_ ?_ ?_ ?_ ?_ ?_ ?_ ?_

theorem State.endAttach_keeps {M : Nat} {e : Endp} {s u : State} (h : Keeps M s u)
    (hM : Mask.Le 0x800 M := by first | assumption | exact Mask.trans (by assumption) rfl) :
    Keeps M s (State.endAttach e u) := by
  unfold State.endAttach
  repeat' first | with_reducible exact h | exact id | with_reducible refine Keeps.upd ?_ ?_ ?_ ?_ ?_ ?_ ?_ ?_ ?_ ?_ ?_ ?_ ?_ ?_ | exact Sparse.wfFrom_filter _ _ _ _

theorem doDetach_keeps {M : Nat} {hd : Hdr} {s u : State} (h : Keeps M s u)
    (hM : Mask.Le 0x280E36 M := by first | assumption | exact Mask.trans (by assumption) rfl) :
    Keeps M s (doDetach hd u) := by
  unfold doDetach
  repeat' first | with_reducible exact h | with_reducible refine State.losePartner_keeps ?_ | with_reducible refine State.endAttach_keeps ?_ | split

theorem doCascadeTrainTimeout_keeps {M : Nat} {s u : State} (h : Keeps M s u)
    (hM : Mask.Le 0x124 M := by first | assumption | exact Mask.trans (by assumption) rfl) :
    Keeps M s (doCascadeTrainTimeout u) := by
  unfold doCascadeTrainTimeout
  repeat' first | with_reducible exact h | with_reducible refine State.cascDown_keeps ?_ | with_reducible refine Keeps.ite ?_ ?_ | split

theorem State.loadSpoils_keeps {M : Nat} {b : Binding} {m : MSet} {s u : State} (h : Keeps M s u)
    (hM : Mask.Le 0x1080 M := by first | assumption | exact Mask.trans (by assumption) rfl) :
    Keeps M s (State.loadSpoils b m u) := by
  unfold State.loadSpoils
  repeat' first | with_reducible exact h | exact id | with_reducible refine Keeps.upd ?_ ?_ ?_ ?_ ?_ ?_ ?_ ?_ ?_ ?_ ?_ ?_ ?_ ?_

theorem State.stopLoad_keeps {M : Nat} {s u : State} (h : Keeps M s u)
    (hM : Mask.Le 0x1084 M := by first | assumption | exact Mask.trans (by assumption) rfl) :
    Keeps M s (State.stopLoad u) := by
  unfold State.stopLoad
  repeat' first | with_reducible exact h | with_reducible refine State.bindEnd_keeps ?_ | with_reducible refine State.loadSpoils_keeps ?_ | split

theorem State.beginSeal_keeps {M : Nat} {timer : Bool} {at_ : ℕ} {s u : State} (h : Keeps M s u)
    (hM : Mask.Le 0x108C M := by first | assumption | exact Mask.trans (by assumption) rfl) :
    Keeps M s (State.beginSeal timer at_ u) := by
  unfold State.beginSeal
  dsimp only
  repeat' first | with_reducible exact h | exact id | with_reducible refine State.stopLoad_keeps ?_ | with_reducible refine Keeps.upd ?_ ?_ ?_ ?_ ?_ ?_ ?_ ?_ ?_ ?_ ?_ ?_ ?_ ?_

theorem State.askSeal_keeps {M : Nat} {timer : Bool} {s u : State} (h : Keeps M s u)
    (hM : Mask.Le 0x508C M := by first | assumption | exact Mask.trans (by assumption) rfl) :
    Keeps M s (State.askSeal timer u) := by
  unfold State.askSeal
  repeat' first | with_reducible exact h | exact id | with_reducible refine State.beginSeal_keeps ?_ | with_reducible refine Keeps.ite ?_ ?_ | split | with_reducible refine Keeps.upd ?_ ?_ ?_ ?_ ?_ ?_ ?_ ?_ ?_ ?_ ?_ ?_ ?_ ?_

theorem doGatherSeal_keeps {M : Nat} {s u : State} (h : Keeps M s u)
    (hM : Mask.Le 0x508C M := by first | assumption | exact Mask.trans (by assumption) rfl) :
    Keeps M s (doGatherSeal u) := by
  unfold doGatherSeal
  repeat' first | with_reducible exact h | with_reducible refine State.askSeal_keeps ?_ | with_reducible refine Keeps.ite ?_ ?_ | split

theorem doFtFreeAck_keeps {M : Nat} {hd : Hdr} {s u : State} (h : Keeps M s u)
    (hM : Mask.Le 0x804 M := by first | assumption | exact Mask.trans (by assumption) rfl) :
    Keeps M s (doFtFreeAck hd u) := by
  unfold doFtFreeAck
  repeat' first | with_reducible exact h | exact id | with_reducible refine State.dropMsg_keeps ?_ | with_reducible refine Keeps.ite ?_ ?_ | split | with_reducible refine Keeps.upd ?_ ?_ ?_ ?_ ?_ ?_ ?_ ?_ ?_ ?_ ?_ ?_ ?_ ?_ | exact Sparse.wfFrom_filter _ _ _ _

theorem State.freeFolio_keeps {M : Nat} {n : ℕ} {s u : State} (h : Keeps M s u)
    (hM : Mask.Le 0x10 M := by first | assumption | exact Mask.trans (by assumption) rfl) :
    Keeps M s (State.freeFolio n u) := by
  unfold State.freeFolio
  dsimp only
  repeat' first | with_reducible exact h | exact id | with_reducible refine State.updFolio_keeps ?_ | with_reducible refine State.setRun_keeps ?_ | with_reducible refine Keeps.upd ?_ ?_ ?_ ?_ ?_ ?_ ?_ ?_ ?_ ?_ ?_ ?_ ?_ ?_ | exact fun _ => rfl

theorem State.release_keeps {M : Nat} {hh : Handle} {s u : State} (h : Keeps M s u)
    (hM : Mask.Le 0x10 M := by first | assumption | exact Mask.trans (by assumption) rfl) :
    Keeps M s (State.release hh u) := by
  unfold State.release
  repeat' first | with_reducible exact h | with_reducible refine State.freeFolio_keeps ?_ | with_reducible refine Keeps.ite ?_ ?_ | split

theorem State.nvmProgram_keeps {M : Nat} {bad : NvmBad} {ps : List (Nat × Bytes)} {s u : State} (h : Keeps M s u)
    (hM : Mask.Le 0x2006 M := by first | assumption | exact Mask.trans (by assumption) rfl) :
    Keeps M s (State.nvmProgram bad ps u).2 :=
  Keeps.upd (State.setNvm_keeps Nvm.programAll_wf h) id id id id id id id id id id id id id

theorem State.epdFinish_keeps {M : Nat} {c0 : Sys2Proof.Bytes} {bad : NvmBad} {s u : State} (h : Keeps M s u)
    (hM : Mask.Le 0x6006 M := by first | assumption | exact Mask.trans (by assumption) rfl) :
    Keeps M s (State.epdFinish c0 bad u) := by
  unfold State.epdFinish
  dsimp only
  repeat' first | with_reducible exact h | with_reducible refine State.nvmProgram_keeps ?_ | with_reducible refine State.epdEnd_keeps ?_ | with_reducible refine State.epdPhase_keeps ?_ | with_reducible refine State.epdStop_keeps ?_ | with_reducible refine Keeps.ite ?_ ?_ | split

theorem State.epdChunk_keeps {M : Nat} {win : ℕ} {src : ℕ} {c0 : Sys2Proof.Bytes} {data : DmaIn} {bad : NvmBad} {s u : State} (h : Keeps M s u)
    (hM : Mask.Le 0x26006 M := by first | assumption | exact Mask.trans (by assumption) rfl) :
    Keeps M s (State.epdChunk win src c0 data bad u).2 := by
  unfold State.epdChunk
  dsimp only
  repeat' first | with_reducible exact h | with_reducible refine State.dmaCheck_keeps ?_ | with_reducible refine State.epdStop_keeps ?_ | with_reducible refine State.dmaErr_keeps ?_ | with_reducible refine State.nvmErase_keeps ?_ | with_reducible refine State.nvmProgram_keeps ?_ | with_reducible refine State.journal_keeps ?_ | with_reducible refine Keeps.ite ?_ ?_ | split

theorem State.epdChunks_keeps {M : Nat} {win src : Nat} {c0 : Bytes} {bad : NvmBad} {ds : List DmaIn} {s u : State} (h : Keeps M s u)
    (hM : Mask.Le 0x26006 M := by first | assumption | exact Mask.trans (by assumption) rfl) :
    Keeps M s (State.epdChunks win src c0 bad ds u) := by
  induction ds generalizing u with
  | nil => unfold State.epdChunks; split; exacts [State.epdFinish_keeps h, h]
  | cons d ds ih =>
    unfold State.epdChunks
    dsimp only
    repeat' split
    · exact State.epdFinish_keeps h
    · exact ih (State.epdChunk_keeps h)
    · exact State.epdChunk_keeps h

theorem doVfFlr_keeps {M : Nat} {v : ℕ} {busy : List ℕ} {s u : State} (h : Keeps M s u)
    (hM : Mask.Le 0x20004 M := by first | assumption | exact Mask.trans (by assumption) rfl) :
    Keeps M s (doVfFlr v busy u) := by
  unfold doVfFlr
  dsimp only
  repeat' first | with_reducible exact h | with_reducible exact Keeps.refl _ | exact id | with_reducible refine State.qpStop_keeps ?_ | with_reducible refine State.updQp_keeps ?_ | with_reducible refine State.setFld_keeps ?_ | with_reducible refine Keeps.foldl (fun _ _ => ?_) _ ?_ | with_reducible refine Keeps.upd ?_ ?_ ?_ ?_ ?_ ?_ ?_ ?_ ?_ ?_ ?_ ?_ ?_ ?_ | exact Sparse.wfFrom_filter _ _ _ _ | dsimp only

theorem doBindStageDone_keeps {M : Nat} {data : DmaIn} {s u : State} (h : Keeps M s u)
    (hM : Mask.Le 0x21004 M := by first | assumption | exact Mask.trans (by assumption) rfl) :
    Keeps M s (doBindStageDone data u) := by
  unfold doBindStageDone
  dsimp only
  repeat' first | with_reducible exact h | exact id | with_reducible refine State.bindEnd_keeps ?_ | with_reducible refine State.dmaErr_keeps ?_ | with_reducible refine State.dmaCheck_keeps ?_ | with_reducible refine Keeps.ite ?_ ?_ | split | with_reducible refine Keeps.upd ?_ ?_ ?_ ?_ ?_ ?_ ?_ ?_ ?_ ?_ ?_ ?_ ?_ ?_

theorem State.sqeDma_keeps {M : Nat} {q : ℕ} {n : ℕ} {e : Sys2Proof.Bytes} {s u : State} (h : Keeps M s u)
    (hM : Mask.Le 0x20004 M := by first | assumption | exact Mask.trans (by assumption) rfl) :
    Keeps M s (State.sqeDma q n e u).2 := by
  unfold State.sqeDma
  dsimp only
  repeat' first | with_reducible exact h | with_reducible refine State.dmaCheck_keeps ?_ | with_reducible refine Keeps.ite ?_ ?_ | split

theorem State.sqeRead_keeps {M : Nat} {q n : Nat} {data : Nat → State → Bytes} {e : Bytes} {cid : Nat} {s u : State} (h : Keeps M s u)
    (hM : Mask.Le 0x420004 M := by first | assumption | exact Mask.trans (by assumption) rfl) :
    Keeps M s (State.sqeRead q n data e cid u) := by
  unfold State.sqeRead
  dsimp only
  repeat' split
  · exact State.complete_keeps (State.sqeDma_keeps h)
  · exact State.complete_keeps h
  · exact State.complete_keeps h
  · exact State.complete_keeps (State.dmaWrite_keeps h)

theorem doQpCensusRead_keeps {M : Nat} {q : ℕ} {inp : DmaIn} {s u : State} (h : Keeps M s u)
    (hM : Mask.Le 0x420004 M := by first | assumption | exact Mask.trans (by assumption) rfl) :
    Keeps M s (doQpCensusRead q inp u) := by
  unfold doQpCensusRead
  repeat' first | with_reducible exact h | with_reducible exact Keeps.refl _ | with_reducible refine State.sqeRead_keeps ?_ | with_reducible refine State.sqe_keeps (fun _ _ _ => ?_) ?_ | dsimp only

theorem State.pushEnable_keeps {M : Nat} {s u : State} (h : Keeps M s u)
    (hM : Mask.Le 0x120004 M := by first | assumption | exact Mask.trans (by assumption) rfl) :
    Keeps M s (State.pushEnable u) := by
  unfold State.pushEnable
  dsimp only
  repeat' first | with_reducible exact h | exact id | with_reducible refine State.dmaCheck_keeps ?_ | with_reducible refine State.setFld_keeps ?_ | with_reducible refine State.see_keeps ?_ | with_reducible refine Keeps.ite ?_ ?_ | split | with_reducible refine Keeps.upd ?_ ?_ ?_ ?_ ?_ ?_ ?_ ?_ ?_ ?_ ?_ ?_ ?_ ?_

theorem State.sealNow_keeps {M : Nat} {s u : State} (h : Keeps M s u)
    (hM : Mask.Le 0x180004 M := by first | assumption | exact Mask.trans (by assumption) rfl) :
    Keeps M s (State.sealNow u) := by
  unfold State.sealNow
  repeat' first | with_reducible exact h | exact id | with_reducible refine State.sealIfDue_keeps ?_ | with_reducible refine Keeps.ite ?_ ?_ | split | with_reducible refine Keeps.upd ?_ ?_ ?_ ?_ ?_ ?_ ?_ ?_ ?_ ?_ ?_ ?_ ?_ ?_

theorem State.colCtrl_keeps {M : Nat} {v : ℕ} {s u : State} (h : Keeps M s u)
    (hM : Mask.Le 0x1A0034 M := by first | assumption | exact Mask.trans (by assumption) rfl) :
    Keeps M s (State.colCtrl v u) := by
  unfold State.colCtrl
  dsimp only
  repeat' first | with_reducible exact h | with_reducible refine State.writeFields_keeps ?_ | with_reducible refine State.pushEnable_keeps ?_ | with_reducible refine State.sealNow_keeps ?_ | with_reducible refine Keeps.ite ?_ ?_ | split

theorem doColPushEnable_keeps {M : Nat} {v : ℕ} {s u : State} (h : Keeps M s u)
    (hM : Mask.Le 0x1A0034 M := by first | assumption | exact Mask.trans (by assumption) rfl) :
    Keeps M s (doColPushEnable v u) := by
  unfold doColPushEnable
  repeat' first | with_reducible exact h | with_reducible refine State.colCtrl_keeps ?_

theorem State.witnessFail_keeps {M : Nat} {q : ℕ} {t : ℕ} {s u : State} (h : Keeps M s u)
    (hM : Mask.Le 0x204 M := by first | assumption | exact Mask.trans (by assumption) rfl) :
    Keeps M s (State.witnessFail q t u) := by
  unfold State.witnessFail
  dsimp only
  repeat' first | with_reducible exact h | with_reducible refine State.inc_keeps ?_ | with_reducible refine State.see_keeps ?_ | with_reducible refine State.updTile_keeps ?_ | with_reducible refine Keeps.ite ?_ ?_ | split

theorem State.passRow_keeps {M : Nat} {q : ℕ} {d : ClsDesc} {row : TRow} {cal : Option RowCal} {codes : List (List ℕ)} {good : Bool} {fail : Bool} {s u : State} (h : Keeps M s u)
    (hM : Mask.Le 0x24 M := by first | assumption | exact Mask.trans (by assumption) rfl) :
    Keeps M s (State.passRow q d row cal codes good fail u) := by
  unfold State.passRow
  dsimp only
  repeat' first | with_reducible exact h | with_reducible refine State.inc_keeps ?_ | with_reducible refine State.see_keeps ?_ | with_reducible refine State.updCls_keeps ?_ | with_reducible refine Keeps.ite ?_ ?_ | split

theorem Adm.unbook_keeps {i : Item} {r : Res} {a b : Adm} (h : AdmKeeps a b) : AdmKeeps a (b.unbook i r) := Adm.setB_keeps h
theorem State.finishRes_keeps {M : Nat} {ident : Nat} {r : Res} {s u : State} (h : Keeps M s u)
    (hM : Mask.Le 0x20 M := by first | assumption | exact Mask.trans (by assumption) rfl) : Keeps M s (State.finishRes ident r u) := by
  unfold State.finishRes
  split
  · exact h
  · exact Keeps.upd h id id id id id id id id id (Adm.unbook_keeps id) id id id

theorem State.dispatchTree_keeps {M : Nat} {i : Item} {ens : ℕ} {tree : ℕ} {s u : State} (h : Keeps M s u)
    (hM : Mask.Le 0x200 M := by first | assumption | exact Mask.trans (by assumption) rfl) :
    Keeps M s (State.dispatchTree i ens tree u) := by
  unfold State.dispatchTree
  repeat' first | with_reducible exact h | exact id | split | with_reducible refine Keeps.upd ?_ ?_ ?_ ?_ ?_ ?_ ?_ ?_ ?_ ?_ ?_ ?_ ?_ ?_

theorem State.startTrees_keeps {M : Nat} {i : Item} {s u : State} (h : Keeps M s u)
    (hM : Mask.Le 0x220 M := by first | assumption | exact Mask.trans (by assumption) rfl) :
    Keeps M s (State.startTrees i u) := by
  unfold State.startTrees
  dsimp only
  repeat' first | with_reducible exact h | with_reducible exact Keeps.refl _ | with_reducible refine State.updItem_keeps ?_ | with_reducible refine State.dispatchTree_keeps ?_ | with_reducible refine Keeps.foldl (fun _ _ => ?_) _ ?_ | dsimp only

theorem State.decideBlock_keeps {M : Nat} {i : Item} {s u : State} (h : Keeps M s u)
    (hM : Mask.Le 0x20 M := by first | assumption | exact Mask.trans (by assumption) rfl) :
    Keeps M s (State.decideBlock i u) := by
  unfold State.decideBlock
  dsimp only
  repeat' first | with_reducible exact h | with_reducible refine State.updItem_keeps ?_ | with_reducible refine Keeps.ite ?_ ?_ | split

theorem State.select_keeps {M : Nat} {i : Item} {countEcc : Bool} {s u : State} (h : Keeps M s u)
    (hM : Mask.Le 0x280E36 M := by first | assumption | exact Mask.trans (by assumption) rfl) :
    Keeps M s (State.select i countEcc u) := by
  unfold State.select
  dsimp only
  repeat' first | with_reducible exact h | with_reducible refine State.fault_keeps ?_ | with_reducible refine State.see_keeps ?_ | with_reducible refine State.inc_keeps ?_ | with_reducible refine State.updItem_keeps ?_ | with_reducible refine State.setRun_keeps ?_ | with_reducible refine State.finishRes_keeps ?_ | with_reducible refine State.incBy_keeps ?_ | with_reducible refine Keeps.ite ?_ ?_ | split

theorem State.advanceItem_keeps {M : Nat} {ident : ℕ} {countEcc : Bool} {s u : State} (h : Keeps M s u)
    (hM : Mask.Le 0x280E36 M := by first | assumption | exact Mask.trans (by assumption) rfl) :
    Keeps M s (State.advanceItem ident countEcc u) := by
  unfold State.advanceItem
  dsimp only
  repeat' first | with_reducible exact h | with_reducible refine State.startTrees_keeps ?_ | with_reducible refine State.finishRes_keeps ?_ | with_reducible refine State.decideBlock_keeps ?_ | with_reducible refine State.select_keeps ?_ | with_reducible refine Keeps.ite ?_ ?_ | split

theorem State.afterCls_keeps {M : Nat} {ident : ℕ} {countEcc : Bool} {s u : State} (h : Keeps M s u)
    (hM : Mask.Le 0x280E36 M := by first | assumption | exact Mask.trans (by assumption) rfl) :
    Keeps M s (State.afterCls ident countEcc u) := by
  unfold State.afterCls
  dsimp only
  repeat' first | with_reducible exact h | with_reducible refine State.finishRes_keeps ?_ | with_reducible refine State.advanceItem_keeps ?_ | with_reducible refine Keeps.ite ?_ ?_ | split

theorem State.passRows_keeps {M : Nat} {q : ℕ} {t : ℕ} {d : ClsDesc} {rows : List (TRow × ℕ)} {codes : List (List (List ℕ))} {wit : List (List ℕ)} {fails : List ℕ} {countEcc : Bool} {s u : State} (h : Keeps M s u)
    (hM : Mask.Le 0x280E36 M := by first | assumption | exact Mask.trans (by assumption) rfl) :
    Keeps M s (State.passRows q t d rows codes wit fails countEcc u) := by
  unfold State.passRows
  dsimp only
  repeat' first | with_reducible exact h | with_reducible exact Keeps.refl _ | with_reducible refine State.inc_keeps ?_ | with_reducible refine State.see_keeps ?_ | with_reducible refine State.witnessFail_keeps ?_ | with_reducible refine State.passRow_keeps ?_ | with_reducible refine State.updTile_keeps ?_ | with_reducible refine State.loadWaiting_keeps ?_ | with_reducible refine State.afterCls_keeps ?_ | with_reducible refine Keeps.foldl (fun _ _ => ?_) _ ?_ | with_reducible refine Keeps.ite ?_ ?_ | split | dsimp only

theorem doAmtPassDone_keeps {M : Nat} {q : ℕ} {t : ℕ} {codes : List (List (List ℕ))} {wit : List (List ℕ)} {fails : List ℕ} {ecc : Option ℕ} {countEcc : Bool} {s u : State} (h : Keeps M s u)
    (hM : Mask.Le 0x280E36 M := by first | assumption | exact Mask.trans (by assumption) rfl) :
    Keeps M s (doAmtPassDone q t codes wit fails ecc countEcc u) := by
  unfold doAmtPassDone
  dsimp only
  repeat' first | with_reducible exact h | with_reducible refine State.updTile_keeps ?_ | with_reducible refine State.loadWaiting_keeps ?_ | with_reducible refine State.fault_keeps ?_ | with_reducible refine State.xlFault_keeps ?_ | with_reducible refine State.passRows_keeps ?_ | with_reducible refine Keeps.ite ?_ ?_ | split

theorem doI3cAddressAssign_keeps {M : Nat} {addr : ℕ} {s u : State} (h : Keeps M s u)
    (hM : Mask.Le 0x4 M := by first | assumption | exact Mask.trans (by assumption) rfl) :
    Keeps M s (doI3cAddressAssign addr u) := by
  unfold doI3cAddressAssign
  repeat' first | with_reducible exact h | with_reducible refine State.setFld_keeps ?_

theorem doModelRepairDone_keeps {M : Nat} {q : ℕ} {addr : ℕ} {bad : Bool} {s u : State} (h : Keeps M s u)
    (hM : Mask.Le 0x1004 M := by first | assumption | exact Mask.trans (by assumption) rfl) :
    Keeps M s (doModelRepairDone q addr bad u) := by
  unfold doModelRepairDone
  dsimp only
  repeat' first | with_reducible exact h | exact id | with_reducible refine State.see_keeps ?_ | with_reducible refine State.setFld_keeps ?_ | with_reducible refine State.inc_keeps ?_ | with_reducible refine Keeps.ite ?_ ?_ | split | with_reducible refine Keeps.upd ?_ ?_ ?_ ?_ ?_ ?_ ?_ ?_ ?_ ?_ ?_ ?_ ?_ ?_ | exact Sparse.wfFrom_filter _ _ _ _

theorem State.loadWrites_keeps {M : Nat} {b : Binding} {m : MSet} {fromStage : Bool} {s u : State} (h : Keeps M s u)
    (hM : Mask.Le 0x1080 M := by first | assumption | exact Mask.trans (by assumption) rfl) :
    Keeps M s (State.loadWrites b m fromStage u) := by
  unfold State.loadWrites
  dsimp only
  repeat' first | with_reducible exact h | with_reducible exact Keeps.refl _ | exact id | with_reducible refine Keeps.foldl (fun _ _ => ?_) _ ?_ | with_reducible refine Keeps.upd ?_ ?_ ?_ ?_ ?_ ?_ ?_ ?_ ?_ ?_ ?_ ?_ ?_ ?_ | exact Sparse.wfFrom_filter _ _ _ _ | dsimp only

theorem doItemComputeDone_keeps {M : Nat} {ident : ℕ} {snapLate : Bool} {s u : State} (h : Keeps M s u)
    (hM : Mask.Le 0x280E76 M := by first | assumption | exact Mask.trans (by assumption) rfl) :
    Keeps M s (doItemComputeDone ident snapLate u) := by
  unfold doItemComputeDone
  dsimp only
  repeat' first | with_reducible exact h | with_reducible refine State.updItem_keeps ?_ | with_reducible refine State.gateItem_keeps ?_ | with_reducible refine Keeps.ite ?_ ?_ | split

theorem State.coldReset_keeps {M : Nat} {cause : Nat} {s u : State} (h : Keeps M s u)
    (hM : Mask.Le 0xFFFFFF M := by first | assumption | exact Mask.trans (by assumption) rfl) : Keeps M s (State.coldReset cause u) :=
  State.setFld_keeps (Keeps.upd h (fun _ => rfl) (fun _ => rfl) (fun _ => rfl) (fun _ => rfl) (fun _ => rfl) id (fun _ => rfl)
    (fun _ => rfl) (fun _ => rfl) (fun _ => rfl) (fun _ => rfl) (fun _ => rfl) (fun _ _ => Nat.zero_le _))

theorem doCriticalTemp_keeps {M : Nat} {s u : State} (h : Keeps M s u)
    (hM : Mask.Le 0xFFFFFF M := by first | assumption | exact Mask.trans (by assumption) rfl) :
    Keeps M s (doCriticalTemp u) := by
  unfold doCriticalTemp
  repeat' first | with_reducible exact h | exact id | with_reducible refine State.coldReset_keeps ?_ | with_reducible refine Keeps.upd ?_ ?_ ?_ ?_ ?_ ?_ ?_ ?_ ?_ ?_ ?_ ?_ ?_ ?_ | exact fun _ => rfl

theorem State.reloadCore_keeps {M : Nat} {s u : State} (h : Keeps M s u)
    (hM : Mask.Le 0x1080 M := by first | assumption | exact Mask.trans (by assumption) rfl) :
    Keeps M s (State.reloadCore u) := by
  unfold State.reloadCore
  dsimp only
  repeat' first | with_reducible exact h | with_reducible exact Keeps.refl _ | exact id | with_reducible refine Keeps.foldl (fun _ _ => ?_) _ ?_ | split | with_reducible refine Keeps.upd ?_ ?_ ?_ ?_ ?_ ?_ ?_ ?_ ?_ ?_ ?_ ?_ ?_ ?_ | exact fun _ => rfl | dsimp only

theorem State.wake_keeps {M : Nat} {s u : State} (h : Keeps M s u)
    (hM : Mask.Le 0x8004 M := by first | assumption | exact Mask.trans (by assumption) rfl) :
    Keeps M s (State.wake u) := by
  unfold State.wake
  repeat' first | with_reducible exact h | exact id | with_reducible refine State.setFld_keeps ?_ | with_reducible refine Keeps.ite ?_ ?_ | split | with_reducible refine Keeps.upd ?_ ?_ ?_ ?_ ?_ ?_ ?_ ?_ ?_ ?_ ?_ ?_ ?_ ?_

theorem doWakeNLow_keeps {M : Nat} {ns : ℕ} {s u : State} (h : Keeps M s u)
    (hM : Mask.Le 0x8004 M := by first | assumption | exact Mask.trans (by assumption) rfl) :
    Keeps M s (doWakeNLow ns u) := by
  unfold doWakeNLow
  repeat' first | with_reducible exact h | with_reducible refine State.wake_keeps ?_ | with_reducible refine Keeps.ite ?_ ?_ | split

theorem doOpenLimitWrite_keeps {M : Nat} {v : ℕ} {s u : State} (h : Keeps M s u)
    (hM : Mask.Le 0x4 M := by first | assumption | exact Mask.trans (by assumption) rfl) :
    Keeps M s (doOpenLimitWrite v u) := by
  unfold doOpenLimitWrite
  dsimp only
  repeat' first | with_reducible exact h | with_reducible refine State.setFld_keeps ?_ | with_reducible refine Keeps.ite ?_ ?_ | split

theorem doAmtCalAll_keeps {M : Nat} {q : ℕ} {s u : State} (h : Keeps M s u)
    (hM : Mask.Le 0x200 M := by first | assumption | exact Mask.trans (by assumption) rfl) :
    Keeps M s (doAmtCalAll q u) := by
  unfold doAmtCalAll
  repeat' first | with_reducible exact h | with_reducible exact Keeps.refl _ | with_reducible refine State.updTile_keeps ?_ | with_reducible refine Keeps.foldl (fun _ _ => ?_) _ ?_ | with_reducible refine Keeps.ite ?_ ?_ | split | dsimp only

theorem State.cascTrain_keeps {M : Nat} {s u : State} (h : Keeps M s u)
    (hM : Mask.Le 0x104 M := by first | assumption | exact Mask.trans (by assumption) rfl) :
    Keeps M s (State.cascTrain u) := by
  unfold State.cascTrain
  repeat' first | with_reducible exact h | with_reducible refine State.setFld_keeps ?_ | with_reducible refine State.updCasc_keeps ?_

theorem doCascadeRetrainTimer_keeps {M : Nat} {s u : State} (h : Keeps M s u)
    (hM : Mask.Le 0x104 M := by first | assumption | exact Mask.trans (by assumption) rfl) :
    Keeps M s (doCascadeRetrainTimer u) := by
  unfold doCascadeRetrainTimer
  repeat' first | with_reducible exact h | with_reducible refine State.cascTrain_keeps ?_ | with_reducible refine Keeps.ite ?_ ?_ | split

theorem State.folioCmd_keeps {M : Nat} {f : State → State} {s u : State} (hf : ∀ w, Keeps M w (f w)) (h : Keeps M s u)
    (hM : Mask.Le 0x4 M := by first | assumption | exact Mask.trans (by assumption) rfl) : Keeps M s (State.folioCmd f u) := by
  unfold State.folioCmd
  split
  · exact h
  · split
    · exact State.folioResult_keeps h
    · exact h.trans (hf _)

theorem doLdgSnapshot_keeps {M : Nat} {n : ℕ} {s u : State} (h : Keeps M s u)
    (hM : Mask.Le 0x4 M := by first | assumption | exact Mask.trans (by assumption) rfl) :
    Keeps M s (doLdgSnapshot n u) := by
  unfold doLdgSnapshot
  repeat' first | with_reducible exact h | with_reducible exact Keeps.refl _ | with_reducible refine State.folioResult_keeps ?_ | with_reducible refine State.wrWords_keeps ?_ | with_reducible refine State.folioCmd_keeps (fun _ => ?_) ?_ | dsimp only

theorem State.pageArrives_keeps {M : Nat} {m : PageMsg} {s u : State} (h : Keeps M s u)
    (hM : Mask.Le 0x280C16 M := by first | assumption | exact Mask.trans (by assumption) rfl) :
    Keeps M s (State.pageArrives m u) := by
  unfold State.pageArrives
  repeat' first | with_reducible exact h | exact id | with_reducible refine State.drainPages_keeps ?_ | with_reducible refine Keeps.upd ?_ ?_ ?_ ?_ ?_ ?_ ?_ ?_ ?_ ?_ ?_ ?_ ?_ ?_

theorem doKvPage_keeps {M : Nat} {hd : Hdr} {hh : Handle} {no : ℕ} {kib : ℕ} {data : Sys2Proof.Bytes} {s u : State} (h : Keeps M s u)
    (hM : Mask.Le 0x280C16 M := by first | assumption | exact Mask.trans (by assumption) rfl) :
    Keeps M s (doKvPage hd hh no kib data u) := by
  unfold doKvPage
  repeat' first | with_reducible exact h | with_reducible refine State.pageArrives_keeps ?_

theorem State.updSample_keeps {M : Nat} {x : Sample} {g : Sample → Sample} {s u : State} (h : Keeps M s u)
    (hM : Mask.Le 0x200 M := by first | assumption | exact Mask.trans (by assumption) rfl) :
    Keeps M s (State.updSample x g u) := by
  unfold State.updSample
  repeat' first | with_reducible exact h | exact id | with_reducible refine Keeps.upd ?_ ?_ ?_ ?_ ?_ ?_ ?_ ?_ ?_ ?_ ?_ ?_ ?_ ?_

theorem State.moveSample_keeps {M : Nat} {x : Sample} {node : ℕ} {s u : State} (h : Keeps M s u)
    (hM : Mask.Le 0x200 M := by first | assumption | exact Mask.trans (by assumption) rfl) :
    Keeps M s (State.moveSample x node u) := by
  unfold State.moveSample
  repeat' first | with_reducible exact h | with_reducible refine State.updSample_keeps ?_

theorem doI3cSetIndex_keeps {M : Nat} {i : ℕ} {s u : State} (h : Keeps M s u)
    (hM : Mask.Le 0x20000 M := by first | assumption | exact Mask.trans (by assumption) rfl) :
    Keeps M s (doI3cSetIndex i u) := by
  unfold doI3cSetIndex
  repeat' first | with_reducible exact h | exact id | with_reducible refine Keeps.ite ?_ ?_ | split | with_reducible refine Keeps.upd ?_ ?_ ?_ ?_ ?_ ?_ ?_ ?_ ?_ ?_ ?_ ?_ ?_ ?_

theorem State.qpError_keeps {M : Nat} {q : ℕ} {s u : State} (h : Keeps M s u)
    (hM : Mask.Le 0x4 M := by first | assumption | exact Mask.trans (by assumption) rfl) :
    Keeps M s (State.qpError q u) := by
  unfold State.qpError
  repeat' first | with_reducible exact h | with_reducible refine State.see_keeps ?_ | with_reducible refine State.setFld_keeps ?_

theorem doQpCqHeadWrite_keeps {M : Nat} {fn : ℕ} {q : ℕ} {v : ℕ} {s u : State} (h : Keeps M s u)
    (hM : Mask.Le 0x420004 M := by first | assumption | exact Mask.trans (by assumption) rfl) :
    Keeps M s (doQpCqHeadWrite fn q v u) := by
  unfold doQpCqHeadWrite
  dsimp only
  repeat' first | with_reducible exact h | with_reducible refine State.qpError_keeps ?_ | with_reducible refine State.updQp_keeps ?_ | with_reducible refine State.wr_keeps ?_ | with_reducible refine State.drainPosts_keeps ?_ | with_reducible refine Keeps.ite ?_ ?_ | split

theorem Adm.setTags_backlog (a : Adm) (c : Chan) (m : Sparse Tag) : (a.setTags c m).backlog = a.backlog := by cases c <;> rfl
theorem Adm.setV_backlog (a : Adm) (c : Chan) (v : Nat) : (a.setV c v).backlog = a.backlog := by cases c <;> rfl
theorem Adm.setLevel_backlog (a : Adm) (c : Chan) (t v : Nat) : (a.setLevel c t v).backlog = a.backlog := by cases c <;> rfl
theorem State.charge_keeps {M : Nat} {c : Chan} {i : Item} {spare : Bool} {s u : State} (h : Keeps M s u)
    (hM : Mask.Le 0x24 M := by first | assumption | exact Mask.trans (by assumption) rfl) : Keeps M s (State.charge c i spare u) := by
  unfold State.charge
  dsimp only
  repeat' split
  · exact State.see_keeps (State.inc_keeps h)
  · exact h
  · exact Keeps.upd h id id id id id id id id id (fun w => by rw [Adm.setLevel_backlog]; exact w) id id id
  · exact Keeps.upd h id id id id id id id id id (fun w => by rw [Adm.setTags_backlog, Adm.setV_backlog]; exact w) id id id

theorem State.raise_keeps {M : Nat} {off : ℕ} {v : ℕ} {s u : State} (h : Keeps M s u)
    (hM : Mask.Le 0x4 M := by first | assumption | exact Mask.trans (by assumption) rfl) :
    Keeps M s (State.raise off v u) := by
  unfold State.raise
  repeat' first | with_reducible exact h | with_reducible refine State.wr_keeps ?_

theorem State.countWait_keeps {M : Nat} {c : Chan} {w : ℕ} {s u : State} (h : Keeps M s u)
    (hM : Mask.Le 0x24 M := by first | assumption | exact Mask.trans (by assumption) rfl) :
    Keeps M s (State.countWait c w u) := by
  unfold State.countWait
  dsimp only
  repeat' first | with_reducible exact h | exact id | with_reducible refine State.raise_keeps ?_ | with_reducible refine State.inc_keeps ?_ | split | with_reducible refine Keeps.upd ?_ ?_ ?_ ?_ ?_ ?_ ?_ ?_ ?_ ?_ ?_ ?_ ?_ ?_

theorem State.probeBlock_keeps {M : Nat} {i : Item} {ecc : List ℕ} {s u : State} (h : Keeps M s u)
    (hM : Mask.Le 0x44 M := by first | assumption | exact Mask.trans (by assumption) rfl) :
    Keeps M s (State.probeBlock i ecc u).2 := by
  unfold State.probeBlock
  dsimp only
  repeat' first | with_reducible exact h | with_reducible exact Keeps.refl _ | exact id | with_reducible refine State.inc_keeps ?_ | with_reducible refine State.see_keeps ?_ | with_reducible refine Keeps.foldl (fun _ _ => ?_) _ ?_ | with_reducible refine Keeps.ite ?_ ?_ | split | with_reducible refine Keeps.upd ?_ ?_ ?_ ?_ ?_ ?_ ?_ ?_ ?_ ?_ ?_ ?_ ?_ ?_ | exact Sparse.wfFrom_filter _ _ _ _ | dsimp only

/-- A tick with a release booked is listed. -/
theorem mem_of_get {b : Sparse Nat} {k : Nat} (h : Sparse.get (fun _ => 0) b k ≠ 0) : k ∈ b.map (·.1) := by
  induction b with
  | nil => simp at h
  | cons p b ih =>
    obtain ⟨k', v⟩ := p
    by_cases e : k = k'
    · simp [e]
    · simp only [Sparse.get, e, if_false] at h
      exact List.mem_cons_of_mem _ (ih h)
/-- Among more ticks than are listed one has room: the search finds it within as many tries (R37). -/
theorem Dkl.firstRoom_lt (d : Dkl) : ∀ (n r : Nat) (seen : List Nat), seen.Nodup → (∀ k ∈ seen, 16 ≤ d.bookedAt k ∧ k < r) →
    d.booked.length ≤ n + seen.length → d.bookedAt (d.firstRoom n r) < 16
  | 0, r, seen, hn, hs, hl => by
    by_contra hc
    have h1 : (r :: seen).Nodup := List.nodup_cons.mpr ⟨fun hm => by have := (hs r hm).2; omega, hn⟩
    have h2 : r :: seen ⊆ d.booked.map (·.1) := by
      intro k hk
      refine mem_of_get ?_
      rcases List.mem_cons.mp hk with rfl | hk
      · simp only [Dkl.firstRoom, Dkl.bookedAt] at hc; omega
      · have := (hs k hk).1; simp only [Dkl.bookedAt] at this; omega
    have := (List.Nodup.subperm h1 h2).length_le
    simp at this; omega
  | n + 1, r, seen, hn, hs, hl => by
    unfold Dkl.firstRoom
    split
    · rename_i hr
      refine Dkl.firstRoom_lt d n (r + 10) (r :: seen) ?_ ?_ (by simp; omega)
      · exact List.nodup_cons.mpr ⟨fun hm => by have := (hs r hm).2; omega, hn⟩
      · intro k hk
        rcases List.mem_cons.mp hk with rfl | hk
        · exact ⟨hr, by omega⟩
        · exact ⟨(hs k hk).1, by have := (hs k hk).2; omega⟩
    · omega
theorem Dkl.relTick_lt (d : Dkl) (r : Nat) : d.bookedAt (d.relTick r) < 16 :=
  Dkl.firstRoom_lt d _ r [] List.nodup_nil (by simp) (by simp)
theorem Dkl.book_wf {d : Dkl} {r : Nat} (h : Sparse.wf (fun _ => 0) d.booked = true) : Sparse.wf (fun _ => 0) (d.book r).booked = true := by
  show Sparse.wf (fun _ => 0) (Sparse.upd (fun _ => 0) d.booked r (· + 1)) = true
  exact Sparse.wf_upd _ _ _ _ h
theorem Dkl.book_gate {d : Dkl} {r : Nat} (h : GateRoom d.booked) (hr : d.bookedAt r < 16) : GateRoom (d.book r).booked := by
  intro t
  unfold Dkl.book Sparse.upd
  simp only [Sparse.get_set]
  split
  · unfold Dkl.bookedAt at hr; omega
  · exact h t
theorem State.commit_keeps {M : Nat} {i : Item} {q : Nat} {costs : List (Res × Nat)} {spare : Bool} {ecc : List Nat} {s u : State} (h : Keeps M s u)
    (hM : Mask.Le 0x27C M := by first | assumption | exact Mask.trans (by assumption) rfl) :
    Keeps M s (State.commit i q costs spare ecc u) := by
  have hd : ∀ (c : Chan) (w g : Nat) (v : State), ((v.countWait c w).updFolio i.folio (Folio.onCommit i w g)).dkl = v.dkl := by
    intro c w g v; cases c <;> rfl
  unfold State.commit
  dsimp only
  have h1 := State.charge_keeps (c := i.chan) (i := i) (spare := spare) h
  generalize u.charge i.chan i spare = v at h1 ⊢
  generalize hj : State.committed i q costs v = j
  have hr : v.dkl.bookedAt j.tRel < 16 := by rw [← hj]; exact Dkl.relTick_lt _ _
  generalize hw : (v.countWait i.chan (j.tAdm - i.tArr)).updFolio i.folio
    (Folio.onCommit i (j.tAdm - i.tArr) (v.fld F.DKL_GATHER_ID_ID)) = w
  have h2 : Keeps M s w := by rw [← hw]; exact State.updFolio_keeps (State.countWait_keeps h1)
  have hb : w.dkl.bookedAt j.tRel < 16 := by rw [← hw, hd]; exact hr
  generalize hp : State.probeBlock j ecc _ = p
  have h3 : Keeps M s p.2 := by
    rw [← hp]
    refine State.probeBlock_keeps (Keeps.upd h2 ?_ ?_ ?_ ?_ ?_ ?_ ?_ ?_ ?_ ?_ ?_ ?_ ?_)
    all_goals try dsimp only
    all_goals first | with_reducible exact id | exact Dkl.book_wf | exact Adm.bookAll_keeps id | exact fun g => Dkl.book_gate g hb
  refine Keeps.upd h3 ?_ ?_ ?_ ?_ ?_ ?_ ?_ ?_ ?_ ?_ ?_ ?_ ?_
  all_goals try dsimp only
  all_goals with_reducible exact id

theorem State.setIdleBank_keeps {M : Nat} {i : FwImage} {s u : State} (h : Keeps M s u)
    (hM : Mask.Le 0x4000 M := by first | assumption | exact Mask.trans (by assumption) rfl) :
    Keeps M s (State.setIdleBank i u) := by
  unfold State.setIdleBank
  repeat' first | with_reducible exact h | exact id | with_reducible refine Keeps.ite ?_ ?_ | split | with_reducible refine Keeps.upd ?_ ?_ ?_ ?_ ?_ ?_ ?_ ?_ ?_ ?_ ?_ ?_ ?_ ?_

theorem doEpdPreloadDone_keeps {M : Nat} {upset : Bool} {s u : State} (h : Keeps M s u)
    (hM : Mask.Le 0x4004 M := by first | assumption | exact Mask.trans (by assumption) rfl) :
    Keeps M s (doEpdPreloadDone upset u) := by
  unfold doEpdPreloadDone
  repeat' first | with_reducible exact h | with_reducible refine State.setFld_keeps ?_ | with_reducible refine State.epdPhase_keeps ?_ | with_reducible refine State.setIdleBank_keeps ?_ | with_reducible refine Keeps.ite ?_ ?_ | split

theorem doFunctionDStateChange_keeps {M : Nat} {fn : ℕ} {toD3 : Bool} {s u : State} (h : Keeps M s u)
    (hM : Mask.Le 0x20000 M := by first | assumption | exact Mask.trans (by assumption) rfl) :
    Keeps M s (doFunctionDStateChange fn toD3 u) := by
  unfold doFunctionDStateChange
  dsimp only
  repeat' first | with_reducible exact h | exact id | with_reducible refine Keeps.ite ?_ ?_ | split | with_reducible refine Keeps.upd ?_ ?_ ?_ ?_ ?_ ?_ ?_ ?_ ?_ ?_ ?_ ?_ ?_ ?_ | exact Sparse.wfFrom_filter _ _ _ _

theorem State.orphanAll_keeps {M : Nat} {s u : State} (h : Keeps M s u)
    (hM : Mask.Le 0x280E36 M := by first | assumption | exact Mask.trans (by assumption) rfl) :
    Keeps M s (State.orphanAll u) := by
  unfold State.orphanAll
  repeat' first | with_reducible exact h | with_reducible exact Keeps.refl _ | with_reducible refine State.orphan_keeps ?_ | with_reducible refine Keeps.foldl (fun _ _ => ?_) _ ?_ | dsimp only

theorem State.disablePorts_keeps {M : Nat} {s u : State} (h : Keeps M s u)
    (hM : Mask.Le 0x280E36 M := by first | assumption | exact Mask.trans (by assumption) rfl) :
    Keeps M s (State.disablePorts u) := by
  unfold State.disablePorts
  repeat' first | with_reducible exact h | with_reducible exact Keeps.refl _ | with_reducible refine State.portDisable_keeps ?_ | with_reducible refine Keeps.foldl (fun _ _ => ?_) _ ?_ | dsimp only

theorem doLockdownEntry_keeps {M : Nat} {s u : State} (h : Keeps M s u)
    (hM : Mask.Le 0x288E36 M := by first | assumption | exact Mask.trans (by assumption) rfl) :
    Keeps M s (doLockdownEntry u) := by
  unfold doLockdownEntry
  dsimp only
  repeat' first | with_reducible exact h | exact id | with_reducible refine State.setFld_keeps ?_ | with_reducible refine State.orphanAll_keeps ?_ | with_reducible refine State.disablePorts_keeps ?_ | with_reducible refine Keeps.ite ?_ ?_ | split | with_reducible refine Keeps.upd ?_ ?_ ?_ ?_ ?_ ?_ ?_ ?_ ?_ ?_ ?_ ?_ ?_ ?_

theorem Ledger.pop_keeps {l m : Ledger} {n : Nat} (e : l.pop = some (n, m)) : m.folios = l.folios ∧ m.runs = l.runs := by
  unfold Ledger.pop at e
  split at e
  · cases e; exact ⟨rfl, rfl⟩
  · split at e
    · cases e; exact ⟨rfl, rfl⟩
    · cases e
theorem doReqOpen_keeps {M : Nat} {hh : Hdr} {q : OpenReq} {s u : State} (h : Keeps M s u)
    (hM : Mask.Le 0x200416 M := by first | assumption | exact Mask.trans (by assumption) rfl) : Keeps M s (doReqOpen hh q u) := by
  unfold doReqOpen
  refine State.fromPartner_keeps (fun _ => State.send_keeps (State.countReject_keeps (Keeps.refl _))) (fun gw w => ?_) h
  split
  · dsimp only
    refine State.send_keeps (State.countReject_keeps ?_)
    split
    · exact State.see_keeps (Keeps.refl _)
    · exact Keeps.refl _
  · split
    · exact Keeps.refl _
    · rename_i e
      obtain ⟨h1, h2⟩ := Ledger.pop_keeps e
      dsimp only
      refine State.send_keeps (State.setRun_keeps (State.setFolio_keeps (Keeps.upd (State.nearAddr_keeps (Keeps.refl w)) id ?_ ?_ id id id id id id id id id id)))
      · exact fun w => by rw [h1]; exact w
      · exact fun w => by rw [h2]; exact w

theorem doReqCancel_keeps {M : Nat} {hd : Hdr} {hh : Handle} {s u : State} (h : Keeps M s u)
    (hM : Mask.Le 0x200414 M := by first | assumption | exact Mask.trans (by assumption) rfl) :
    Keeps M s (doReqCancel hd hh u) := by
  unfold doReqCancel
  repeat' first | with_reducible exact h | with_reducible exact Keeps.refl _ | with_reducible refine State.cancelNak_keeps ?_ | with_reducible refine State.askCancel_keeps ?_ | with_reducible refine State.fromPartner_keeps (fun _ => ?_) (fun _ _ => ?_) ?_ | with_reducible refine Keeps.ite ?_ ?_ | split | dsimp only

theorem doKvEnd_keeps {M : Nat} {hd : Hdr} {hh : Handle} {pages : ℕ} {s u : State} (h : Keeps M s u)
    (hM : Mask.Le 0x280C16 M := by first | assumption | exact Mask.trans (by assumption) rfl) :
    Keeps M s (doKvEnd hd hh pages u) := by
  unfold doKvEnd
  repeat' first | with_reducible exact h | with_reducible refine State.pageArrives_keeps ?_

theorem doKvEndEvict_keeps {M : Nat} {hd : Hdr} {hh : Handle} {pages : ℕ} {s u : State} (h : Keeps M s u)
    (hM : Mask.Le 0x280C16 M := by first | assumption | exact Mask.trans (by assumption) rfl) :
    Keeps M s (doKvEndEvict hd hh pages u) := by
  unfold doKvEndEvict
  repeat' first | with_reducible exact h | with_reducible refine doKvEnd_keeps ?_

theorem State.endHandover_keeps {M : Nat} {s u : State} (h : Keeps M s u)
    (hM : Mask.Le 0x508C M := by first | assumption | exact Mask.trans (by assumption) rfl) :
    Keeps M s (State.endHandover u) := by
  unfold State.endHandover
  dsimp only
  repeat' first | with_reducible exact h | exact id | with_reducible refine State.beginSeal_keeps ?_ | split | with_reducible refine Keeps.upd ?_ ?_ ?_ ?_ ?_ ?_ ?_ ?_ ?_ ?_ ?_ ?_ ?_ ?_

theorem doHandoverDone_keeps {M : Nat} {recordOk : Bool} {s u : State} (h : Keeps M s u)
    (hM : Mask.Le 0x508C M := by first | assumption | exact Mask.trans (by assumption) rfl) :
    Keeps M s (doHandoverDone recordOk u) := by
  unfold doHandoverDone
  repeat' first | with_reducible exact h | with_reducible refine State.endHandover_keeps ?_ | with_reducible refine State.switchBanks_keeps ?_ | with_reducible refine State.setFld_keeps ?_ | with_reducible refine State.epdPhase_keeps ?_ | with_reducible refine Keeps.ite ?_ ?_ | split

theorem State.censusResult_keeps {M : Nat} {st : ℕ} {new : ℕ} {s u : State} (h : Keeps M s u)
    (hM : Mask.Le 0x4 M := by first | assumption | exact Mask.trans (by assumption) rfl) :
    Keeps M s (State.censusResult st new u) := by
  unfold State.censusResult
  repeat' first | with_reducible exact h | with_reducible refine State.setFld_keeps ?_

theorem State.thermalStop_keeps {M : Nat} {tj : ℕ} {s u : State} (h : Keeps M s u)
    (hM : Mask.Le 0x28004 M := by first | assumption | exact Mask.trans (by assumption) rfl) :
    Keeps M s (State.thermalStop tj u) := by
  unfold State.thermalStop
  dsimp only
  repeat' first | with_reducible exact h | exact id | with_reducible refine State.see_keeps ?_ | with_reducible refine State.setFld_keeps ?_ | with_reducible refine State.raiseIbi_keeps ?_ | with_reducible refine Keeps.ite ?_ ?_ | split | with_reducible refine Keeps.upd ?_ ?_ ?_ ?_ ?_ ?_ ?_ ?_ ?_ ?_ ?_ ?_ ?_ ?_

theorem doSpnRetrain_keeps {M : Nat} {p : ℕ} {v : ℕ} {s u : State} (h : Keeps M s u)
    (hM : Mask.Le 0x280E36 M := by first | assumption | exact Mask.trans (by assumption) rfl) :
    Keeps M s (doSpnRetrain p v u) := by
  unfold doSpnRetrain
  repeat' first | with_reducible exact h | with_reducible refine State.spnCtrl_keeps ?_

theorem doQpNop_keeps {M : Nat} {q : ℕ} {inp : DmaIn} {s u : State} (h : Keeps M s u)
    (hM : Mask.Le 0x420004 M := by first | assumption | exact Mask.trans (by assumption) rfl) :
    Keeps M s (doQpNop q inp u) := by
  unfold doQpNop
  repeat' first | with_reducible exact h | with_reducible exact Keeps.refl _ | with_reducible refine State.complete_keeps ?_ | with_reducible refine State.sqe_keeps (fun _ _ _ => ?_) ?_ | with_reducible refine Keeps.ite ?_ ?_ | split | dsimp only

theorem State.answerCancel_keeps {M : Nat} {c : CancelReq} {s u : State} (h : Keeps M s u)
    (hM : Mask.Le 0x200404 M := by first | assumption | exact Mask.trans (by assumption) rfl) :
    Keeps M s (State.answerCancel c u) := by
  unfold State.answerCancel
  dsimp only
  repeat' first | with_reducible exact h | with_reducible refine State.send_keeps ?_ | with_reducible refine State.folioResult_keeps ?_ | split

theorem State.commitCancel_keeps {M : Nat} {n : ℕ} {cause : ℕ} {skip : List ℕ} {s u : State} (h : Keeps M s u)
    (hM : Mask.Le 0x280E36 M := by first | assumption | exact Mask.trans (by assumption) rfl) :
    Keeps M s (State.commitCancel n cause skip u) := by
  unfold State.commitCancel
  dsimp only
  repeat' first | with_reducible exact h | with_reducible refine State.endFolio_keeps ?_ | with_reducible refine State.updFolio_keeps ?_ | with_reducible refine State.inc_keeps ?_ | with_reducible refine State.cancelCol_keeps ?_

theorem State.commitReq_keeps {M : Nat} {c : CancelReq} {s u : State} (h : Keeps M s u)
    (hM : Mask.Le 0x280E36 M := by first | assumption | exact Mask.trans (by assumption) rfl) :
    Keeps M s (State.commitReq c u) := by
  unfold State.commitReq
  dsimp only
  repeat' first | with_reducible exact h | with_reducible refine State.refuseCancel_keeps ?_ | with_reducible refine State.answerCancel_keeps ?_ | with_reducible refine State.commitCancel_keeps ?_ | with_reducible refine Keeps.ite ?_ ?_ | split

theorem doResetNLow_keeps {M : Nat} {ns : ℕ} {s u : State} (h : Keeps M s u)
    (hM : Mask.Le 0xFFFFFF M := by first | assumption | exact Mask.trans (by assumption) rfl) :
    Keeps M s (doResetNLow ns u) := by
  unfold doResetNLow
  repeat' first | with_reducible exact h | exact id | with_reducible refine State.coldReset_keeps ?_ | with_reducible refine Keeps.ite ?_ ?_ | split | with_reducible refine Keeps.upd ?_ ?_ ?_ ?_ ?_ ?_ ?_ ?_ ?_ ?_ ?_ ?_ ?_ ?_ | exact fun _ => rfl

theorem State.answer_keeps {M : Nat} {space : ℕ} {off : ℕ} {data : Sys2Proof.Bytes} {s u : State} (h : Keeps M s u)
    (hM : Mask.Le 0x800000 M := by first | assumption | exact Mask.trans (by assumption) rfl) :
    Keeps M s (State.answer space off data u) := by
  unfold State.answer
  repeat' first | with_reducible exact h | exact id | with_reducible refine Keeps.upd ?_ ?_ ?_ ?_ ?_ ?_ ?_ ?_ ?_ ?_ ?_ ?_ ?_ ?_

theorem doPcieHotReset_keeps {M : Nat} {speed : ℕ} {width : ℕ} {w : WarmIn} {s u : State} (h : Keeps M s u)
    (hM : Mask.Le 0x3ADEFF M := by first | assumption | exact Mask.trans (by assumption) rfl) :
    Keeps M s (doPcieHotReset speed width w u) := by
  unfold doPcieHotReset
  repeat' first | with_reducible exact h | with_reducible refine State.warmReset_keeps ?_

theorem State.i3cRead_keeps {M : Nat} {i n : Nat} {s u : State} (h : Keeps M s u)
    (hM : Mask.Le 0x20000 M := by first | assumption | exact Mask.trans (by assumption) rfl) : Keeps M s (State.i3cRead i n u).2 := by
  induction n generalizing i u with
  | zero => exact h
  | succ n ih =>
    unfold State.i3cRead
    dsimp only
    apply ih
    split
    · exact Keeps.upd h id id id id id id id id id id id id id
    · exact h

theorem doI3cRead_keeps {M : Nat} {n : ℕ} {s u : State} (h : Keeps M s u)
    (hM : Mask.Le 0x820000 M := by first | assumption | exact Mask.trans (by assumption) rfl) :
    Keeps M s (doI3cRead n u) := by
  unfold doI3cRead
  dsimp only
  repeat' first | with_reducible exact h | with_reducible refine State.i3cRead_keeps ?_ | with_reducible refine State.answer_keeps ?_ | with_reducible refine Keeps.ite ?_ ?_ | split

theorem State.finishSearch_keeps {M : Nat} {ident : ℕ} {r : SearchRes} {countEcc : Bool} {s u : State} (h : Keeps M s u)
    (hM : Mask.Le 0x280E36 M := by first | assumption | exact Mask.trans (by assumption) rfl) :
    Keeps M s (State.finishSearch ident r countEcc u) := by
  unfold State.finishSearch
  dsimp only
  repeat' first | with_reducible exact h | with_reducible refine State.countSearch_keeps ?_ | with_reducible refine State.updItem_keeps ?_ | with_reducible refine State.advanceItem_keeps ?_ | with_reducible refine State.finishRes_keeps ?_ | with_reducible refine Keeps.ite ?_ ?_ | split

theorem State.bankReports_keeps {M : Nat} {rs : List (ℕ × BankReport)} {s u : State} (h : Keeps M s u)
    (hM : Mask.Le 0x84 M := by first | assumption | exact Mask.trans (by assumption) rfl) :
    Keeps M s (State.bankReports rs u) := by
  unfold State.bankReports
  dsimp only
  repeat' first | with_reducible exact h | with_reducible exact Keeps.refl _ | with_reducible refine State.falseHit_keeps ?_ | with_reducible refine State.quarantine_keeps ?_ | with_reducible refine Keeps.foldl (fun _ _ => ?_) _ ?_ | dsimp only

theorem State.searchLocal_keeps {M : Nat} {t : ℕ} {key : ℕ} {us : List AmaUpset} {s u : State} (h : Keeps M s u)
    (hM : Mask.Le 0x84 M := by first | assumption | exact Mask.trans (by assumption) rfl) :
    Keeps M s (State.searchLocal t key us u).2 := by
  unfold State.searchLocal
  dsimp only
  repeat' first | with_reducible exact h | exact id | with_reducible refine State.bankReports_keeps ?_ | with_reducible refine Keeps.upd ?_ ?_ ?_ ?_ ?_ ?_ ?_ ?_ ?_ ?_ ?_ ?_ ?_ ?_

theorem doAmaSearchDone_keeps {M : Nat} {ident : ℕ} {us : List AmaUpset} {countEcc : Bool} {s u : State} (h : Keeps M s u)
    (hM : Mask.Le 0x280EB6 M := by first | assumption | exact Mask.trans (by assumption) rfl) :
    Keeps M s (doAmaSearchDone ident us countEcc u) := by
  unfold doAmaSearchDone
  dsimp only
  repeat' first | with_reducible exact h | with_reducible refine State.finishSearch_keeps ?_ | with_reducible refine State.inc_keeps ?_ | with_reducible refine State.searchLocal_keeps ?_ | with_reducible refine State.updItem_keeps ?_ | with_reducible refine Keeps.ite ?_ ?_ | split

theorem doEpdArm_keeps {M : Nat} {s u : State} (h : Keeps M s u)
    (hM : Mask.Le 0x4004 M := by first | assumption | exact Mask.trans (by assumption) rfl) :
    Keeps M s (doEpdArm u) := by
  unfold doEpdArm
  repeat' first | with_reducible exact h | with_reducible exact Keeps.refl _ | with_reducible refine State.epdEnd_keeps ?_ | with_reducible refine State.epdPhase_keeps ?_ | with_reducible refine State.epdCmd_keeps (fun _ => ?_) ?_ | with_reducible refine Keeps.ite ?_ ?_ | split | dsimp only

theorem State.countRestore_keeps {M : Nat} {s u : State} (h : Keeps M s u)
    (hM : Mask.Le 0x4 M := by first | assumption | exact Mask.trans (by assumption) rfl) :
    Keeps M s (State.countRestore u) := by
  unfold State.countRestore
  repeat' first | with_reducible exact h | with_reducible refine State.inc_keeps ?_ | with_reducible refine Keeps.ite ?_ ?_ | split

theorem State.cascSeal_keeps {M : Nat} {s u : State} (h : Keeps M s u)
    (hM : Mask.Le 0x104 M := by first | assumption | exact Mask.trans (by assumption) rfl) :
    Keeps M s (State.cascSeal u) := by
  unfold State.cascSeal
  dsimp only
  repeat' first | with_reducible exact h | with_reducible refine State.updCasc_keeps ?_ | with_reducible refine State.cascTrain_keeps ?_ | with_reducible refine State.setFld_keeps ?_ | with_reducible refine Keeps.ite ?_ ?_ | split

theorem State.newGathering_keeps {M : Nat} {s u : State} (h : Keeps M s u)
    (hM : Mask.Le 0x12C M := by first | assumption | exact Mask.trans (by assumption) rfl) :
    Keeps M s (State.newGathering u) := by
  unfold State.newGathering
  dsimp only
  repeat' first | with_reducible exact h | exact id | with_reducible refine State.setFld_keeps ?_ | with_reducible refine State.cascSeal_keeps ?_ | with_reducible refine Keeps.ite ?_ ?_ | split | with_reducible refine Keeps.upd ?_ ?_ ?_ ?_ ?_ ?_ ?_ ?_ ?_ ?_ ?_ ?_ ?_ ?_ | exact fun _ => rfl

theorem State.sealResult_keeps {M : Nat} {result : ℕ} {reverted : Bool} {timer : Bool} {s u : State} (h : Keeps M s u)
    (hM : Mask.Le 0x4 M := by first | assumption | exact Mask.trans (by assumption) rfl) :
    Keeps M s (State.sealResult result reverted timer u) := by
  unfold State.sealResult
  repeat' first | with_reducible exact h | with_reducible refine State.setFld_keeps ?_

theorem State.adopt_keeps {M : Nat} {s u : State} (h : Keeps M s u)
    (hM : Mask.Le 0x1084 M := by first | assumption | exact Mask.trans (by assumption) rfl) :
    Keeps M s (State.adopt u) := by
  unfold State.adopt
  dsimp only
  repeat' first | with_reducible exact h | exact id | with_reducible refine State.resumeUpds_keeps ?_ | with_reducible refine State.showMset_keeps ?_ | with_reducible refine Keeps.ite ?_ ?_ | split | with_reducible refine Keeps.upd ?_ ?_ ?_ ?_ ?_ ?_ ?_ ?_ ?_ ?_ ?_ ?_ ?_ ?_ | exact fun _ => rfl

theorem State.gatherCol_keeps {M : Nat} {prev : ℕ} {result : ℕ} {reverted : Bool} {timer : Bool} {s u : State} (h : Keeps M s u)
    (hM : Mask.Le 0x80084 M := by first | assumption | exact Mask.trans (by assumption) rfl) :
    Keeps M s (State.gatherCol prev result reverted timer u) := by
  unfold State.gatherCol
  dsimp only
  repeat' first | with_reducible exact h | exact id | with_reducible refine State.colophon_keeps ?_ | with_reducible refine Keeps.upd ?_ ?_ ?_ ?_ ?_ ?_ ?_ ?_ ?_ ?_ ?_ ?_ ?_ ?_ | exact fun _ => rfl

theorem doGatherSwitchDone_keeps {M : Nat} {s u : State} (h : Keeps M s u)
    (hM : Mask.Le 0x811AC M := by first | assumption | exact Mask.trans (by assumption) rfl) :
    Keeps M s (doGatherSwitchDone u) := by
  unfold doGatherSwitchDone
  dsimp only
  repeat' first | with_reducible exact h | with_reducible refine State.sealResult_keeps ?_ | with_reducible refine State.setGather_keeps ?_ | with_reducible refine State.adopt_keeps ?_ | with_reducible refine State.revert_keeps ?_ | with_reducible refine State.newGathering_keeps ?_ | with_reducible refine State.countRestore_keeps ?_ | with_reducible refine State.see_keeps ?_ | with_reducible refine State.gatherCol_keeps ?_ | with_reducible refine Keeps.ite ?_ ?_ | split

theorem doJtagExtest_keeps {M : Nat} {inputs : List Bool} {cells : List Bool} {s u : State} (h : Keeps M s u)
    (hM : Mask.Le 0x40000 M := by first | assumption | exact Mask.trans (by assumption) rfl) :
    Keeps M s (doJtagExtest inputs cells u) := by
  unfold doJtagExtest
  repeat' first | with_reducible exact h | exact id | with_reducible refine Keeps.upd ?_ ?_ ?_ ?_ ?_ ?_ ?_ ?_ ?_ ?_ ?_ ?_ ?_ ?_

theorem State.localPart_keeps {M : Nat} {f : CFrame} {us : List AmaUpset} {s u : State} (h : Keeps M s u)
    (hM : Mask.Le 0x84 M := by first | assumption | exact Mask.trans (by assumption) rfl) :
    Keeps M s (State.localPart f us u).2 := by
  unfold State.localPart
  dsimp only
  repeat' first | with_reducible exact h | with_reducible refine State.searchLocal_keeps ?_ | with_reducible refine Keeps.ite ?_ ?_ | split

theorem State.mergeFrame_keeps {M : Nat} {f : CFrame} {us : List AmaUpset} {s u : State} (h : Keeps M s u)
    (hM : Mask.Le 0x84 M := by first | assumption | exact Mask.trans (by assumption) rfl) :
    Keeps M s (State.mergeFrame f us u).2 := by
  unfold State.mergeFrame
  dsimp only
  repeat' first | with_reducible exact h | with_reducible refine State.see_keeps ?_ | with_reducible refine State.localPart_keeps ?_ | with_reducible refine Keeps.ite ?_ ?_ | split

theorem State.cascReturn_keeps {M : Nat} {slot : ℕ} {f : CFrame} {us : List AmaUpset} {s u : State} (h : Keeps M s u)
    (hM : Mask.Le 0x1A4 M := by first | assumption | exact Mask.trans (by assumption) rfl) :
    Keeps M s (State.cascReturn slot f us u) := by
  unfold State.cascReturn
  dsimp only
  repeat' first | with_reducible exact h | with_reducible refine State.cascLost_keeps ?_ | with_reducible refine State.mergeFrame_keeps ?_ | with_reducible refine State.updCasc_keeps ?_ | with_reducible refine State.updItem_keeps ?_ | with_reducible refine Keeps.ite ?_ ?_ | split

theorem State.cascBadCrc_keeps {M : Nat} {slot : ℕ} {s u : State} (h : Keeps M s u)
    (hM : Mask.Le 0x1A4 M := by first | assumption | exact Mask.trans (by assumption) rfl) :
    Keeps M s (State.cascBadCrc slot u) := by
  unfold State.cascBadCrc
  dsimp only
  repeat' first | with_reducible exact h | with_reducible refine State.see_keeps ?_ | with_reducible refine State.inc_keeps ?_ | with_reducible refine State.updCasc_keeps ?_ | with_reducible refine State.cascReturn_keeps ?_ | with_reducible refine State.cascSend_keeps ?_ | with_reducible refine State.cascDown_keeps ?_ | with_reducible refine Keeps.ite ?_ ?_ | split

theorem State.cascTrainRx_keeps {M : Nat} {slot : ℕ} {f : CFrame} {s u : State} (h : Keeps M s u)
    (hM : Mask.Le 0x100 M := by first | assumption | exact Mask.trans (by assumption) rfl) :
    Keeps M s (State.cascTrainRx slot f u) := by
  unfold State.cascTrainRx
  dsimp only
  repeat' first | with_reducible exact h | with_reducible refine State.updCasc_keeps ?_ | with_reducible refine Keeps.ite ?_ ?_ | split

theorem doCascadeFrameRx_keeps {M : Nat} {slot : ℕ} {bs : Sys2Proof.Bytes} {us : List AmaUpset} {s u : State} (h : Keeps M s u)
    (hM : Mask.Le 0x1A4 M := by first | assumption | exact Mask.trans (by assumption) rfl) :
    Keeps M s (doCascadeFrameRx slot bs us u) := by
  unfold doCascadeFrameRx
  dsimp only
  repeat' first | with_reducible exact h | with_reducible refine State.cascBadCrc_keeps ?_ | with_reducible refine State.updCasc_keeps ?_ | with_reducible refine State.cascTrainRx_keeps ?_ | with_reducible refine State.cascReturn_keeps ?_ | with_reducible refine State.mergeFrame_keeps ?_ | with_reducible refine State.cascSend_keeps ?_ | with_reducible refine Keeps.ite ?_ ?_ | split

theorem doRefClockRelock_keeps {M : Nat} {s u : State} (h : Keeps M s u)
    (hM : Mask.Le 0x4 M := by first | assumption | exact Mask.trans (by assumption) rfl) :
    Keeps M s (doRefClockRelock u) := by
  unfold doRefClockRelock
  repeat' first | with_reducible exact h | with_reducible refine State.setFld_keeps ?_

theorem State.enterState_keeps {M : Nat} {n : ℕ} {s u : State} (h : Keeps M s u)
    (hM : Mask.Le 0x4 M := by first | assumption | exact Mask.trans (by assumption) rfl) :
    Keeps M s (State.enterState n u) := by
  unfold State.enterState
  repeat' first | with_reducible exact h | with_reducible refine State.setFld_keeps ?_

theorem State.enterPs2_keeps {M : Nat} {s u : State} (h : Keeps M s u)
    (hM : Mask.Le 0x280E36 M := by first | assumption | exact Mask.trans (by assumption) rfl) :
    Keeps M s (State.enterPs2 u) := by
  unfold State.enterPs2
  dsimp only
  repeat' first | with_reducible exact h | with_reducible exact Keeps.refl _ | with_reducible refine State.post_keeps ?_ | with_reducible refine State.enterState_keeps ?_ | with_reducible refine State.disablePorts_keeps ?_ | with_reducible refine Keeps.foldl (fun _ _ => ?_) _ ?_ | dsimp only

theorem doSealSignatureDone_keeps {M : Nat} {r : ℕ} {t : ℕ} {s u : State} (h : Keeps M s u)
    (hM : Mask.Le 0x180004 M := by first | assumption | exact Mask.trans (by assumption) rfl) :
    Keeps M s (doSealSignatureDone r t u) := by
  unfold doSealSignatureDone
  dsimp only
  repeat' first | with_reducible exact h | exact id | with_reducible refine State.sealIfDue_keeps ?_ | with_reducible refine State.sealPart1_keeps ?_ | with_reducible refine Keeps.ite ?_ ?_ | split | with_reducible refine Keeps.upd ?_ ?_ ?_ ?_ ?_ ?_ ?_ ?_ ?_ ?_ ?_ ?_ ?_ ?_

theorem doWinEnable_keeps {M : Nat} {fn : ℕ} {w : ℕ} {v : ℕ} {s u : State} (h : Keeps M s u)
    (hM : Mask.Le 0x100034 M := by first | assumption | exact Mask.trans (by assumption) rfl) :
    Keeps M s (doWinEnable fn w v u) := by
  unfold doWinEnable
  dsimp only
  repeat' first | with_reducible exact h | with_reducible refine State.writeFields_keeps ?_ | with_reducible refine State.setFld_keeps ?_ | with_reducible refine Keeps.ite ?_ ?_ | split

theorem doSpnReplayTimeout_keeps {M : Nat} {p : ℕ} {s u : State} (h : Keeps M s u)
    (hM : Mask.Le 0x404 M := by first | assumption | exact Mask.trans (by assumption) rfl) :
    Keeps M s (doSpnReplayTimeout p u) := by
  unfold doSpnReplayTimeout
  dsimp only
  repeat' first | with_reducible exact h | with_reducible refine State.replay_keeps ?_ | with_reducible refine Keeps.ite ?_ ?_ | split

theorem doCatRemove_keeps {M : Nat} {variant : ℕ} {s u : State} (h : Keeps M s u)
    (hM : Mask.Le 0x1004 M := by first | assumption | exact Mask.trans (by assumption) rfl) :
    Keeps M s (doCatRemove variant u) := by
  unfold doCatRemove
  dsimp only
  repeat' first | with_reducible exact h | with_reducible exact Keeps.refl _ | exact id | with_reducible refine State.bindEnd_keeps ?_ | with_reducible refine State.bindCmd_keeps (fun _ => ?_) ?_ | with_reducible refine Keeps.ite ?_ ?_ | split | with_reducible refine Keeps.upd ?_ ?_ ?_ ?_ ?_ ?_ ?_ ?_ ?_ ?_ ?_ ?_ ?_ ?_ | exact Sparse.wf_set _ _ _ _ | dsimp only

theorem doConfigRestoreDone_keeps {M : Nat} {q : ℕ} {s u : State} (h : Keeps M s u)
    (hM : Mask.Le 0x1084 M := by first | assumption | exact Mask.trans (by assumption) rfl) :
    Keeps M s (doConfigRestoreDone q u) := by
  unfold doConfigRestoreDone
  dsimp only
  repeat' first | with_reducible exact h | with_reducible exact Keeps.refl _ | exact id | with_reducible refine State.resumeUpds_keeps ?_ | with_reducible refine Keeps.foldl (fun _ _ => ?_) _ ?_ | with_reducible refine Keeps.ite ?_ ?_ | split | with_reducible refine Keeps.upd ?_ ?_ ?_ ?_ ?_ ?_ ?_ ?_ ?_ ?_ ?_ ?_ ?_ ?_ | exact Sparse.wfFrom_filter _ _ _ _ | exact fun _ => rfl | dsimp only

theorem doHello_keeps {M : Nat} {hd : Hdr} {kind : ℕ} {proto : ℕ} {unitId : Sys2Proof.Bytes} {s u : State} (h : Keeps M s u)
    (hM : Mask.Le 0x280E36 M := by first | assumption | exact Mask.trans (by assumption) rfl) :
    Keeps M s (doHello hd kind proto unitId u) := by
  unfold doHello
  dsimp only
  repeat' first | with_reducible exact h | exact id | with_reducible refine State.losePartner_keeps ?_ | with_reducible refine State.send_keeps ?_ | with_reducible refine State.countReject_keeps ?_ | with_reducible refine State.endAttach_keeps ?_ | with_reducible refine Keeps.ite ?_ ?_ | split | with_reducible refine Keeps.upd ?_ ?_ ?_ ?_ ?_ ?_ ?_ ?_ ?_ ?_ ?_ ?_ ?_ ?_

theorem doColSealNow_keeps {M : Nat} {v : ℕ} {s u : State} (h : Keeps M s u)
    (hM : Mask.Le 0x1A0034 M := by first | assumption | exact Mask.trans (by assumption) rfl) :
    Keeps M s (doColSealNow v u) := by
  unfold doColSealNow
  repeat' first | with_reducible exact h | with_reducible refine State.colCtrl_keeps ?_

theorem doXlDemandWindow_keeps {M : Nat} {q : ℕ} {s u : State} (h : Keeps M s u)
    (hM : Mask.Le 0x204 M := by first | assumption | exact Mask.trans (by assumption) rfl) :
    Keeps M s (doXlDemandWindow q u) := by
  unfold doXlDemandWindow
  dsimp only
  repeat' first | with_reducible exact h | exact id | with_reducible refine State.setFld_keeps ?_ | with_reducible refine State.see_keeps ?_ | with_reducible refine Keeps.ite ?_ ?_ | split | with_reducible refine Keeps.upd ?_ ?_ ?_ ?_ ?_ ?_ ?_ ?_ ?_ ?_ ?_ ?_ ?_ ?_ | exact Sparse.wf_set _ _ _ _

theorem doI3cEnec_keeps {M : Nat} {s u : State} (h : Keeps M s u)
    (hM : Mask.Le 0x20004 M := by first | assumption | exact Mask.trans (by assumption) rfl) :
    Keeps M s (doI3cEnec u) := by
  unfold doI3cEnec
  dsimp only
  repeat' first | with_reducible exact h | with_reducible exact Keeps.refl _ | exact id | with_reducible refine State.setFld_keeps ?_ | with_reducible refine State.raiseIbi_keeps ?_ | with_reducible refine Keeps.foldl (fun _ _ => ?_) _ ?_ | with_reducible refine Keeps.upd ?_ ?_ ?_ ?_ ?_ ?_ ?_ ?_ ?_ ?_ ?_ ?_ ?_ ?_ | exact fun _ => rfl | dsimp only

theorem State.openWindow_keeps {M : Nat} {s u : State} (h : Keeps M s u)
    (hM : Mask.Le 0x400C M := by first | assumption | exact Mask.trans (by assumption) rfl) :
    Keeps M s (State.openWindow u) := by
  unfold State.openWindow
  dsimp only
  repeat' first | with_reducible exact h | exact id | with_reducible refine State.see_keeps ?_ | with_reducible refine State.epdPhase_keeps ?_ | with_reducible refine Keeps.ite ?_ ?_ | split | with_reducible refine Keeps.upd ?_ ?_ ?_ ?_ ?_ ?_ ?_ ?_ ?_ ?_ ?_ ?_ ?_ ?_

theorem doBindDiscard_keeps {M : Nat} {s u : State} (h : Keeps M s u)
    (hM : Mask.Le 0x1004 M := by first | assumption | exact Mask.trans (by assumption) rfl) :
    Keeps M s (doBindDiscard u) := by
  unfold doBindDiscard
  dsimp only
  repeat' first | with_reducible exact h | with_reducible exact Keeps.refl _ | exact id | with_reducible refine State.goStale_keeps ?_ | with_reducible refine State.bindEnd_keeps ?_ | with_reducible refine State.bindCmd_keeps (fun _ => ?_) ?_ | with_reducible refine Keeps.upd ?_ ?_ ?_ ?_ ?_ ?_ ?_ ?_ ?_ ?_ ?_ ?_ ?_ ?_ | dsimp only

theorem doEpdDisarm_keeps {M : Nat} {s u : State} (h : Keeps M s u)
    (hM : Mask.Le 0x4004 M := by first | assumption | exact Mask.trans (by assumption) rfl) :
    Keeps M s (doEpdDisarm u) := by
  unfold doEpdDisarm
  repeat' first | with_reducible exact h | with_reducible exact Keeps.refl _ | with_reducible refine State.epdEnd_keeps ?_ | with_reducible refine State.epdPhase_keeps ?_ | with_reducible refine State.epdCmd_keeps (fun _ => ?_) ?_ | with_reducible refine Keeps.ite ?_ ?_ | split | dsimp only

theorem doSpnPortDisable_keeps {M : Nat} {p : ℕ} {v : ℕ} {s u : State} (h : Keeps M s u)
    (hM : Mask.Le 0x280E36 M := by first | assumption | exact Mask.trans (by assumption) rfl) :
    Keeps M s (doSpnPortDisable p v u) := by
  unfold doSpnPortDisable
  repeat' first | with_reducible exact h | with_reducible refine State.spnCtrl_keeps ?_

theorem State.invalidatePvc_keeps {M : Nat} {tenant : Option ℕ} {s u : State} (h : Keeps M s u)
    (hM : Mask.Le 0x44 M := by first | assumption | exact Mask.trans (by assumption) rfl) :
    Keeps M s (State.invalidatePvc tenant u) := by
  unfold State.invalidatePvc
  dsimp only
  repeat' first | with_reducible exact h | exact id | with_reducible refine State.setFld_keeps ?_ | with_reducible refine Keeps.ite ?_ ?_ | split | with_reducible refine Keeps.upd ?_ ?_ ?_ ?_ ?_ ?_ ?_ ?_ ?_ ?_ ?_ ?_ ?_ ?_

theorem State.enterPs3_keeps {M : Nat} {s u : State} (h : Keeps M s u)
    (hM : Mask.Le 0x180004 M := by first | assumption | exact Mask.trans (by assumption) rfl) :
    Keeps M s (State.enterPs3 u) := by
  unfold State.enterPs3
  repeat' first | with_reducible exact h | with_reducible refine State.sealPart0_keeps ?_ | with_reducible refine State.setFld_keeps ?_ | with_reducible refine State.enterState_keeps ?_ | with_reducible refine Keeps.ite ?_ ?_ | split

theorem State.fetchFault_keeps {M : Nat} {i : Item} {e : FetchErr} {s u : State} (h : Keeps M s u)
    (hM : Mask.Le 0x280E36 M := by first | assumption | exact Mask.trans (by assumption) rfl) :
    Keeps M s (State.fetchFault i e u) := by
  unfold State.fetchFault
  dsimp only
  repeat' first | with_reducible exact h | with_reducible refine State.xlFault_keeps ?_ | with_reducible refine State.fault_keeps ?_ | split

theorem State.folded_keeps {M : Nat} {i : Item} {rejects : List ℕ} {countEcc : Bool} {s u : State} (h : Keeps M s u)
    (hM : Mask.Le 0x280E36 M := by first | assumption | exact Mask.trans (by assumption) rfl) :
    Keeps M s (State.folded i rejects countEcc u) := by
  unfold State.folded
  dsimp only
  repeat' first | with_reducible exact h | with_reducible exact Keeps.refl _ | with_reducible refine State.updItem_keeps ?_ | with_reducible refine State.loadRow_keeps ?_ | with_reducible refine State.advanceItem_keeps ?_ | with_reducible refine State.finishRes_keeps ?_ | with_reducible refine Keeps.foldl (fun _ _ => ?_) _ ?_ | with_reducible refine Keeps.ite ?_ ?_ | split | dsimp only

theorem doStateFetchDone_keeps {M : Nat} {ident : ℕ} {rejects : List ℕ} {err : Option FetchErr} {countEcc : Bool} {s u : State} (h : Keeps M s u)
    (hM : Mask.Le 0x280E36 M := by first | assumption | exact Mask.trans (by assumption) rfl) :
    Keeps M s (doStateFetchDone ident rejects err countEcc u) := by
  unfold doStateFetchDone
  repeat' first | with_reducible exact h | with_reducible refine State.fetchFault_keeps ?_ | with_reducible refine State.fault_keeps ?_ | with_reducible refine State.folded_keeps ?_ | with_reducible refine Keeps.ite ?_ ?_ | split

theorem State.fetchList_keeps {M : Nat} {n : Nat} {ps : List Page} {s u : State} (h : Keeps M s u)
    (hM : Mask.Le 0x200412 M := by first | assumption | exact Mask.trans (by assumption) rfl) : Keeps M s (State.fetchList n ps u) := by
  induction ps generalizing u with
  | nil => exact h
  | cons p ps ih =>
    unfold State.fetchList
    split
    · exact h
    · split
      · exact ih (State.updPage_keeps (State.sendTo_keeps (State.nextTag_keeps h)))
      · exact ih h

theorem State.resumeStep_keeps {M : Nat} {n : ℕ} {s u : State} (h : Keeps M s u)
    (hM : Mask.Le 0x280C16 M := by first | assumption | exact Mask.trans (by assumption) rfl) :
    Keeps M s (State.resumeStep n u) := by
  unfold State.resumeStep
  dsimp only
  repeat' first | with_reducible exact h | with_reducible refine State.maybeResumed_keeps ?_ | with_reducible refine State.forward_keeps ?_ | with_reducible refine State.fetchList_keeps ?_ | with_reducible refine Keeps.ite ?_ ?_ | split

theorem State.startSample_keeps {M : Nat} {x : Sample} {s u : State} (h : Keeps M s u)
    (hM : Mask.Le 0x200 M := by first | assumption | exact Mask.trans (by assumption) rfl) :
    Keeps M s (State.startSample x u) := by
  unfold State.startSample
  dsimp only
  repeat' first | with_reducible exact h | with_reducible refine State.updSample_keeps ?_

theorem State.freeSample_keeps {M : Nat} {x : Sample} {s u : State} (h : Keeps M s u)
    (hM : Mask.Le 0x200 M := by first | assumption | exact Mask.trans (by assumption) rfl) :
    Keeps M s (State.freeSample x u) := by
  unfold State.freeSample
  repeat' first | with_reducible exact h | exact id | with_reducible refine Keeps.upd ?_ ?_ ?_ ?_ ?_ ?_ ?_ ?_ ?_ ?_ ?_ ?_ ?_ ?_ | exact Sparse.wfFrom_filter _ _ _ _

theorem State.tweFault_keeps {M : Nat} {x : Sample} {status : ℕ} {addr : ℕ} {seen : Fld} {folio : ℕ} {s u : State} (h : Keeps M s u)
    (hM : Mask.Le 0x280E36 M := by first | assumption | exact Mask.trans (by assumption) rfl) :
    Keeps M s (State.tweFault x status addr seen folio u) := by
  unfold State.tweFault
  dsimp only
  repeat' first | with_reducible exact h | with_reducible refine State.inc_keeps ?_ | with_reducible refine State.setFld_keeps ?_ | with_reducible refine State.see_keeps ?_ | with_reducible refine State.fault_keeps ?_

theorem State.deliver_keeps {M : Nat} {x : Sample} {i : Item} {value : ℕ} {res : Bool} {s u : State} (h : Keeps M s u)
    (hM : Mask.Le 0x280E36 M := by first | assumption | exact Mask.trans (by assumption) rfl) :
    Keeps M s (State.deliver x i value res u) := by
  unfold State.deliver
  dsimp only
  repeat' first | with_reducible exact h | with_reducible refine State.inc_keeps ?_ | with_reducible refine State.freeSample_keeps ?_ | with_reducible refine State.updItem_keeps ?_ | with_reducible refine State.tweFault_keeps ?_ | with_reducible refine Keeps.ite ?_ ?_ | split

theorem State.countTurn_keeps {M : Nat} {q : ℕ} {t : Turn} {s u : State} (h : Keeps M s u)
    (hM : Mask.Le 0x4 M := by first | assumption | exact Mask.trans (by assumption) rfl) :
    Keeps M s (State.countTurn q t u) := by
  unfold State.countTurn
  dsimp only
  repeat' first | with_reducible exact h | with_reducible refine State.inc_keeps ?_ | with_reducible refine State.see_keeps ?_ | with_reducible refine Keeps.ite ?_ ?_ | split

theorem State.stepSample_keeps {M : Nat} {x : Sample} {err : Option TweErr} {s u : State} (h : Keeps M s u)
    (hM : Mask.Le 0x280E36 M := by first | assumption | exact Mask.trans (by assumption) rfl) :
    Keeps M s (State.stepSample x err u) := by
  unfold State.stepSample
  dsimp only
  repeat' first | with_reducible exact h | exact id | with_reducible refine State.freeSample_keeps ?_ | with_reducible refine State.tweFault_keeps ?_ | with_reducible refine State.deliver_keeps ?_ | with_reducible refine State.moveSample_keeps ?_ | with_reducible refine State.countTurn_keeps ?_ | with_reducible refine Keeps.ite ?_ ?_ | split | with_reducible refine Keeps.upd ?_ ?_ ?_ ?_ ?_ ?_ ?_ ?_ ?_ ?_ ?_ ?_ ?_ ?_ | exact Sparse.wf_upd _ _ _ _

theorem State.afterTrees_keeps {M : Nat} {countEcc : Bool} {ident : ℕ} {s u : State} (h : Keeps M s u)
    (hM : Mask.Le 0x280E36 M := by first | assumption | exact Mask.trans (by assumption) rfl) :
    Keeps M s (State.afterTrees countEcc u ident) := by
  unfold State.afterTrees
  repeat' first | with_reducible exact h | with_reducible refine State.advanceItem_keeps ?_ | with_reducible refine State.finishRes_keeps ?_ | with_reducible refine Keeps.ite ?_ ?_ | split

theorem doTweStep_keeps {M : Nat} {q : ℕ} {m : ℕ} {errs : List (ℕ × ℕ × TweErr)} {countEcc : Bool} {s u : State} (h : Keeps M s u)
    (hM : Mask.Le 0x280E36 M := by first | assumption | exact Mask.trans (by assumption) rfl) :
    Keeps M s (doTweStep q m errs countEcc u) := by
  unfold doTweStep
  dsimp only
  repeat' first | with_reducible exact h | with_reducible exact Keeps.refl _ | with_reducible refine State.startSample_keeps ?_ | with_reducible refine State.stepSample_keeps ?_ | with_reducible refine State.afterTrees_keeps ?_ | with_reducible refine Keeps.foldl (fun _ _ => ?_) _ ?_ | with_reducible refine Keeps.ite ?_ ?_ | split | dsimp only

theorem doGatherBegin_keeps {M : Nat} {s u : State} (h : Keeps M s u)
    (hM : Mask.Le 0x8 M := by first | assumption | exact Mask.trans (by assumption) rfl) :
    Keeps M s (doGatherBegin u) := by
  unfold doGatherBegin
  dsimp only
  repeat' first | with_reducible exact h | exact id | with_reducible refine Keeps.ite ?_ ?_ | split | with_reducible refine Keeps.upd ?_ ?_ ?_ ?_ ?_ ?_ ?_ ?_ ?_ ?_ ?_ ?_ ?_ ?_

theorem doThermalReading_keeps {M : Nat} {tj : ℕ} {sensor : ℕ} {s u : State} (h : Keeps M s u)
    (hM : Mask.Le 0x28004 M := by first | assumption | exact Mask.trans (by assumption) rfl) :
    Keeps M s (doThermalReading tj sensor u) := by
  unfold doThermalReading
  dsimp only
  repeat' first | with_reducible exact h | exact id | with_reducible refine State.setFld_keeps ?_ | with_reducible refine State.see_keeps ?_ | with_reducible refine State.thermalStop_keeps ?_ | with_reducible refine Keeps.ite ?_ ?_ | split | with_reducible refine Keeps.upd ?_ ?_ ?_ ?_ ?_ ?_ ?_ ?_ ?_ ?_ ?_ ?_ ?_ ?_

theorem doEpdCheck_keeps {M : Nat} {win : ℕ} {data : DmaIn} {s u : State} (h : Keeps M s u)
    (hM : Mask.Le 0x24004 M := by first | assumption | exact Mask.trans (by assumption) rfl) :
    Keeps M s (doEpdCheck win data u) := by
  unfold doEpdCheck
  dsimp only
  repeat' first | with_reducible exact h | with_reducible exact Keeps.refl _ | with_reducible refine State.chunk0_keeps ?_ | with_reducible refine State.epdEnd_keeps ?_ | with_reducible refine State.epdCmd_keeps (fun _ => ?_) ?_ | split | dsimp only

theorem State.seeAll_keeps {M : Nat} {fs : List Fld} {s u : State} (h : Keeps M s u)
    (hM : Mask.Le 0x4 M := by first | assumption | exact Mask.trans (by assumption) rfl) :
    Keeps M s (State.seeAll fs u) := by
  unfold State.seeAll
  repeat' first | with_reducible exact h | with_reducible exact Keeps.refl _ | with_reducible refine State.see_keeps ?_ | with_reducible refine Keeps.foldl (fun _ _ => ?_) _ ?_ | dsimp only

theorem doPartnerOpen_keeps {M : Nat} {n : ℕ} {s u : State} (h : Keeps M s u)
    (hM : Mask.Le 0x800 M := by first | assumption | exact Mask.trans (by assumption) rfl) :
    Keeps M s (doPartnerOpen n u) := by
  unfold doPartnerOpen
  repeat' first | with_reducible exact h | with_reducible refine State.rosterDue_keeps ?_ | with_reducible refine State.updPartner_keeps ?_ | with_reducible refine Keeps.ite ?_ ?_ | split

theorem doOpenLimitExpiry_keeps {M : Nat} {s u : State} (h : Keeps M s u)
    (hM : Mask.Le 0x508C M := by first | assumption | exact Mask.trans (by assumption) rfl) :
    Keeps M s (doOpenLimitExpiry u) := by
  unfold doOpenLimitExpiry
  repeat' first | with_reducible exact h | with_reducible refine State.askSeal_keeps ?_ | with_reducible refine Keeps.ite ?_ ?_ | split

theorem doWinDisable_keeps {M : Nat} {fn : ℕ} {w : ℕ} {v : ℕ} {busy : Bool} {s u : State} (h : Keeps M s u)
    (hM : Mask.Le 0x100034 M := by first | assumption | exact Mask.trans (by assumption) rfl) :
    Keeps M s (doWinDisable fn w v busy u) := by
  unfold doWinDisable
  dsimp only
  repeat' first | with_reducible exact h | with_reducible refine State.writeFields_keeps ?_ | with_reducible refine State.setFld_keeps ?_ | with_reducible refine Keeps.ite ?_ ?_ | split

theorem doSpnPortEnable_keeps {M : Nat} {p : ℕ} {v : ℕ} {s u : State} (h : Keeps M s u)
    (hM : Mask.Le 0x280E36 M := by first | assumption | exact Mask.trans (by assumption) rfl) :
    Keeps M s (doSpnPortEnable p v u) := by
  unfold doSpnPortEnable
  repeat' first | with_reducible exact h | with_reducible refine State.spnCtrl_keeps ?_

theorem State.unmask_keeps {M : Nat} {k : ℕ} {s u : State} (h : Keeps M s u)
    (hM : Mask.Le 0x20000 M := by first | assumption | exact Mask.trans (by assumption) rfl) :
    Keeps M s (State.unmask k u) := by
  unfold State.unmask
  dsimp only
  repeat' first | with_reducible exact h | with_reducible refine State.updMsix_keeps ?_ | with_reducible refine State.fireMsix_keeps ?_ | with_reducible refine Keeps.ite ?_ ?_ | split

theorem State.msixWrite_keeps {M : Nat} {k : ℕ} {i : ℕ} {v : ℕ} {s u : State} (h : Keeps M s u)
    (hM : Mask.Le 0x20000 M := by first | assumption | exact Mask.trans (by assumption) rfl) :
    Keeps M s (State.msixWrite k i v u) := by
  unfold State.msixWrite
  repeat' first | with_reducible exact h | with_reducible refine State.updMsix_keeps ?_ | with_reducible refine State.unmask_keeps ?_ | with_reducible refine Keeps.ite ?_ ?_ | split

theorem doRegisterWrite_keeps {M : Nat} {fn : ℕ} {off : ℕ} {v : ℕ} {s u : State} (h : Keeps M s u)
    (hM : Mask.Le 0x120034 M := by first | assumption | exact Mask.trans (by assumption) rfl) :
    Keeps M s (doRegisterWrite fn off v u) := by
  unfold doRegisterWrite
  repeat' first | with_reducible exact h | with_reducible refine State.msixWrite_keeps ?_ | with_reducible refine State.writeFields_keeps ?_ | with_reducible refine Keeps.ite ?_ ?_ | split

theorem State.latchHi_keeps {M : Nat} {off : ℕ} {s u : State} (h : Keeps M s u)
    (hM : Mask.Le 0x4 M := by first | assumption | exact Mask.trans (by assumption) rfl) :
    Keeps M s (State.latchHi off u) := by
  unfold State.latchHi
  dsimp only
  repeat' first | with_reducible exact h | with_reducible refine State.wrWords_keeps ?_ | with_reducible refine State.wr_keeps ?_ | with_reducible refine Keeps.ite ?_ ?_ | split

theorem doReadLoLatchHi_keeps {M : Nat} {fn : ℕ} {off : ℕ} {s u : State} (h : Keeps M s u)
    (hM : Mask.Le 0x800004 M := by first | assumption | exact Mask.trans (by assumption) rfl) :
    Keeps M s (doReadLoLatchHi fn off u) := by
  unfold doReadLoLatchHi
  dsimp only
  repeat' first | with_reducible exact h | with_reducible refine State.answer_keeps ?_ | with_reducible refine State.latchHi_keeps ?_ | split

theorem doBar0BadAccessWrite_keeps {M : Nat} {s u : State} (h : Keeps M s u)
    (hM : Mask.Le 0x4 M := by first | assumption | exact Mask.trans (by assumption) rfl) :
    Keeps M s (doBar0BadAccessWrite u) := by
  unfold doBar0BadAccessWrite
  repeat' first | with_reducible exact h | with_reducible refine State.see_keeps ?_

theorem doRefClockLost_keeps {M : Nat} {s u : State} (h : Keeps M s u)
    (hM : Mask.Le 0xC M := by first | assumption | exact Mask.trans (by assumption) rfl) :
    Keeps M s (doRefClockLost u) := by
  unfold doRefClockLost
  dsimp only
  repeat' first | with_reducible exact h | exact id | with_reducible refine State.see_keeps ?_ | with_reducible refine State.setFld_keeps ?_ | with_reducible refine Keeps.upd ?_ ?_ ?_ ?_ ?_ ?_ ?_ ?_ ?_ ?_ ?_ ?_ ?_ ?_

theorem doRefLostSeenClear_keeps {M : Nat} {s u : State} (h : Keeps M s u)
    (hM : Mask.Le 0xC M := by first | assumption | exact Mask.trans (by assumption) rfl) :
    Keeps M s (doRefLostSeenClear u) := by
  unfold doRefLostSeenClear
  dsimp only
  repeat' first | with_reducible exact h | exact id | with_reducible refine State.setFld_keeps ?_ | with_reducible refine Keeps.ite ?_ ?_ | split | with_reducible refine Keeps.upd ?_ ?_ ?_ ?_ ?_ ?_ ?_ ?_ ?_ ?_ ?_ ?_ ?_ ?_

theorem doMarginEval_keeps {M : Nat} {m : ℤ} {domain : ℕ} {s u : State} (h : Keeps M s u)
    (hM : Mask.Le 0x4000C M := by first | assumption | exact Mask.trans (by assumption) rfl) :
    Keeps M s (doMarginEval m domain u) := by
  unfold doMarginEval
  dsimp only
  repeat' first | with_reducible exact h | exact id | with_reducible refine State.setFld_keeps ?_ | with_reducible refine State.marginStatus_keeps ?_ | with_reducible refine Keeps.ite ?_ ?_ | split | with_reducible refine Keeps.upd ?_ ?_ ?_ ?_ ?_ ?_ ?_ ?_ ?_ ?_ ?_ ?_ ?_ ?_

theorem State.passOver_keeps {M : Nat} {c : Chan} {ids : List ℕ} {s u : State} (h : Keeps M s u)
    (hM : Mask.Le 0x24 M := by first | assumption | exact Mask.trans (by assumption) rfl) :
    Keeps M s (State.passOver c ids u) := by
  unfold State.passOver
  dsimp only
  repeat' first | with_reducible exact h | exact id | with_reducible refine State.see_keeps ?_ | with_reducible refine Keeps.ite ?_ ?_ | split | with_reducible refine Keeps.upd ?_ ?_ ?_ ?_ ?_ ?_ ?_ ?_ ?_ ?_ ?_ ?_ ?_ ?_ | exact Sparse.wfFrom_filter _ _ _ _

theorem State.offer_keeps {M : Nat} {c : Chan} {spare : Bool} {ecc : List Nat} {is : List Item} {past : List Nat} {s u : State} (h : Keeps M s u)
    (hM : Mask.Le 0x27C M := by first | assumption | exact Mask.trans (by assumption) rfl) :
    Keeps M s (State.offer c spare ecc is past u) := by
  induction is generalizing past with
  | nil => exact h
  | cons i is ih =>
    unfold State.offer
    split
    · exact State.commit_keeps (State.passOver_keeps h)
    · exact ih

theorem State.refreshTags_backlog (s : State) (c : Chan) (ts : List Nat) : (s.refreshTags c ts).backlog = s.adm.backlog := by
  unfold State.refreshTags
  dsimp only
  generalize hg : Adm.setTags _ _ _ = a
  have ha : a.backlog = s.adm.backlog := by rw [← hg, Adm.setTags_backlog]
  rw [← ha]
  clear hg ha
  induction ts generalizing a with
  | nil => rfl
  | cons t ts ih =>
    rw [List.foldl_cons, ih]
    split
    · rfl
    · rw [Adm.setTags_backlog]
theorem State.schedule_keeps {M : Nat} {c : Chan} {ecc : List Nat} {s u : State} (h : Keeps M s u)
    (hM : Mask.Le 0x27C M := by first | assumption | exact Mask.trans (by assumption) rfl) : Keeps M s (State.schedule c ecc u) :=
  State.offer_keeps (Keeps.upd h id id id id id id id id id (fun w => by rw [State.refreshTags_backlog]; exact w) id id id)

theorem Adm.applyCuts_backlog (a : Adm) (t : Nat) : (a.applyCuts t).backlog = a.backlog := by
  have key (l : List (Nat × Chan × Nat × Nat)) (b : Adm) :
      (l.foldl (fun a x => a.setLevel x.2.1 x.2.2.1 (min (a.level x.2.1 x.2.2.1) (x.2.2.2 * 65536))) b).backlog = b.backlog := by
    induction l generalizing b with
    | nil => rfl
    | cons x l ih => rw [List.foldl_cons, ih, Adm.setLevel_backlog]
  exact key _ _
theorem doAdmissionSchedule_keeps {M : Nat} {ecc : List Nat} {s u : State} (h : Keeps M s u)
    (hM : Mask.Le 0x27C M := by first | assumption | exact Mask.trans (by assumption) rfl) : Keeps M s (doAdmissionSchedule ecc u) := by
  have h1 : Keeps M s { u with adm := u.adm.applyCuts u.tick } :=
    Keeps.upd h id id id id id id id id id (fun w => by rw [Adm.applyCuts_backlog]; exact w) id id id
  unfold doAdmissionSchedule
  dsimp only
  repeat' split
  · exact h1
  · exact State.schedule_keeps (State.schedule_keeps (Keeps.upd h1 id id id id id id id id id id id id id))
  · exact Keeps.upd h1 id id id id id id id id id id id id id

theorem doGateRelease_keeps {M : Nat} {snapLate : Bool} {s u : State} (h : Keeps M s u)
    (hM : Mask.Le 0x280E76 M := by first | assumption | exact Mask.trans (by assumption) rfl) :
    Keeps M s (doGateRelease snapLate u) := by
  unfold doGateRelease
  repeat' first | with_reducible exact h | with_reducible refine State.gateItem_keeps ?_ | split

theorem State.suspendUpds_keeps {M : Nat} {s u : State} (h : Keeps M s u)
    (hM : Mask.Le 0x84 M := by first | assumption | exact Mask.trans (by assumption) rfl) :
    Keeps M s (State.suspendUpds u) := by
  unfold State.suspendUpds
  repeat' first | with_reducible exact h | with_reducible exact Keeps.refl _ | exact id | with_reducible refine State.setFld_keeps ?_ | with_reducible refine Keeps.foldl (fun _ _ => ?_) _ ?_ | split | with_reducible refine Keeps.upd ?_ ?_ ?_ ?_ ?_ ?_ ?_ ?_ ?_ ?_ ?_ ?_ ?_ ?_ | dsimp only

theorem doDrainStart_keeps {M : Nat} {s u : State} (h : Keeps M s u)
    (hM : Mask.Le 0x8C M := by first | assumption | exact Mask.trans (by assumption) rfl) :
    Keeps M s (doDrainStart u) := by
  unfold doDrainStart
  repeat' first | with_reducible exact h | with_reducible refine State.suspendUpds_keeps ?_ | with_reducible refine State.setGather_keeps ?_ | with_reducible refine Keeps.ite ?_ ?_ | split

theorem doQuiescenceDone_keeps {M : Nat} {s u : State} (h : Keeps M s u)
    (hM : Mask.Le 0x420C M := by first | assumption | exact Mask.trans (by assumption) rfl) :
    Keeps M s (doQuiescenceDone u) := by
  unfold doQuiescenceDone
  repeat' first | with_reducible exact h | exact id | with_reducible refine State.openWindow_keeps ?_ | with_reducible refine Keeps.ite ?_ ?_ | split | with_reducible refine Keeps.upd ?_ ?_ ?_ ?_ ?_ ?_ ?_ ?_ ?_ ?_ ?_ ?_ ?_ ?_ | exact fun _ => rfl

theorem State.queueFull_keeps {M : Nat} {s u : State} (h : Keeps M s u)
    (hM : Mask.Le 0x4 M := by first | assumption | exact Mask.trans (by assumption) rfl) :
    Keeps M s (State.queueFull u) := by
  unfold State.queueFull
  repeat' first | with_reducible exact h | with_reducible refine State.inc_keeps ?_ | with_reducible refine State.see_keeps ?_

theorem State.takeToken_keeps {M : Nat} {n : ℕ} {tok : ℕ} {s u : State} (h : Keeps M s u)
    (hM : Mask.Le 0x30 M := by first | assumption | exact Mask.trans (by assumption) rfl) :
    Keeps M s (State.takeToken n tok u) := by
  unfold State.takeToken
  dsimp only
  repeat' first | with_reducible exact h | with_reducible refine State.enqueue_keeps ?_ | with_reducible refine State.updFilling_keeps ?_ | with_reducible refine State.updRun_keeps ?_ | with_reducible refine State.updFolio_keeps ?_ | with_reducible refine State.closeBlock_keeps ?_ | with_reducible refine Keeps.ite ?_ ?_ | split

theorem doReqTokens_keeps {M : Nat} {hd : Hdr} {hh : Handle} {firstPos : ℕ} {toks : List (BitVec 20)} {s u : State} (h : Keeps M s u)
    (hM : Mask.Le 0x200436 M := by first | assumption | exact Mask.trans (by assumption) rfl) :
    Keeps M s (doReqTokens hd hh firstPos toks u) := by
  unfold doReqTokens
  dsimp only
  repeat' first | with_reducible exact h | with_reducible exact Keeps.refl _ | with_reducible refine State.reject_keeps ?_ | with_reducible refine State.queueFull_keeps ?_ | with_reducible refine State.takeToken_keeps ?_ | with_reducible refine State.post_keeps ?_ | with_reducible refine State.fromPartner_keeps (fun _ => ?_) (fun _ _ => ?_) ?_ | with_reducible refine Keeps.foldl (fun _ _ => ?_) _ ?_ | with_reducible refine Keeps.ite ?_ ?_ | split | dsimp only

theorem doCancelCommit_keeps {M : Nat} {s u : State} (h : Keeps M s u)
    (hM : Mask.Le 0x6A0E36 M := by first | assumption | exact Mask.trans (by assumption) rfl) :
    Keeps M s (doCancelCommit u) := by
  unfold doCancelCommit
  dsimp only
  repeat' first | with_reducible exact h | exact id | with_reducible refine State.cancelCompl_keeps ?_ | with_reducible refine State.commitReq_keeps ?_ | split | with_reducible refine Keeps.upd ?_ ?_ ?_ ?_ ?_ ?_ ?_ ?_ ?_ ?_ ?_ ?_ ?_ ?_ | exact Sparse.wfFrom_filter _ _ _ _

theorem doReqPause_keeps {M : Nat} {hd : Hdr} {hh : Handle} {ft : ℕ} {ttl : ℕ} {s u : State} (h : Keeps M s u)
    (hM : Mask.Le 0x200C16 M := by first | assumption | exact Mask.trans (by assumption) rfl) :
    Keeps M s (doReqPause hd hh ft ttl u) := by
  unfold doReqPause
  dsimp only
  repeat' first | with_reducible exact h | with_reducible exact Keeps.refl _ | with_reducible refine State.send_keeps ?_ | with_reducible refine State.countReject_keeps ?_ | with_reducible refine State.updFolio_keeps ?_ | with_reducible refine State.maybeEvict_keeps ?_ | with_reducible refine State.fromPartner_keeps (fun _ => ?_) (fun _ _ => ?_) ?_ | split | dsimp only

theorem doReqResume_keeps {M : Nat} {hd : Hdr} {hh : Handle} {dec : ℕ} {s u : State} (h : Keeps M s u)
    (hM : Mask.Le 0x280C16 M := by first | assumption | exact Mask.trans (by assumption) rfl) :
    Keeps M s (doReqResume hd hh dec u) := by
  unfold doReqResume
  dsimp only
  repeat' first | with_reducible exact h | with_reducible exact Keeps.refl _ | with_reducible refine State.send_keeps ?_ | with_reducible refine State.countReject_keeps ?_ | with_reducible refine State.updFolio_keeps ?_ | with_reducible refine State.resumeStep_keeps ?_ | with_reducible refine State.decBind_keeps ?_ | with_reducible refine State.fromPartner_keeps (fun _ => ?_) (fun _ _ => ?_) ?_ | split | dsimp only

theorem doLdgCancel_keeps {M : Nat} {hh : Handle} {s u : State} (h : Keeps M s u)
    (hM : Mask.Le 0x14 M := by first | assumption | exact Mask.trans (by assumption) rfl) :
    Keeps M s (doLdgCancel hh u) := by
  unfold doLdgCancel
  repeat' first | with_reducible exact h | with_reducible exact Keeps.refl _ | with_reducible refine State.folioResult_keeps ?_ | with_reducible refine State.setFld_keeps ?_ | with_reducible refine State.askCancel_keeps ?_ | with_reducible refine State.folioCmd_keeps (fun _ => ?_) ?_ | split | dsimp only

theorem doLdgRelease_keeps {M : Nat} {hh : Handle} {s u : State} (h : Keeps M s u)
    (hM : Mask.Le 0x14 M := by first | assumption | exact Mask.trans (by assumption) rfl) :
    Keeps M s (doLdgRelease hh u) := by
  unfold doLdgRelease
  repeat' first | with_reducible exact h | with_reducible exact Keeps.refl _ | with_reducible refine State.folioResult_keeps ?_ | with_reducible refine State.release_keeps ?_ | with_reducible refine State.folioCmd_keeps (fun _ => ?_) ?_ | dsimp only

theorem State.expire_keeps {M : Nat} {n : ℕ} {s u : State} (h : Keeps M s u)
    (hM : Mask.Le 0x280E36 M := by first | assumption | exact Mask.trans (by assumption) rfl) :
    Keeps M s (State.expire n u) := by
  unfold State.expire
  dsimp only
  repeat' first | with_reducible exact h | with_reducible exact Keeps.refl _ | with_reducible refine State.dropPages_keeps ?_ | with_reducible refine State.dropItems_keeps ?_ | with_reducible refine State.sendEnd_keeps ?_ | with_reducible refine State.colophon_keeps ?_ | with_reducible refine State.updFolio_keeps ?_ | with_reducible refine State.see_keeps ?_ | with_reducible refine State.inc_keeps ?_ | with_reducible refine State.freeFolio_keeps ?_ | with_reducible refine Keeps.foldl (fun _ _ => ?_) _ ?_ | dsimp only

theorem doScannerVisit_keeps {M : Nat} {n : ℕ} {s u : State} (h : Keeps M s u)
    (hM : Mask.Le 0x280E36 M := by first | assumption | exact Mask.trans (by assumption) rfl) :
    Keeps M s (doScannerVisit n u) := by
  unfold doScannerVisit
  dsimp only
  repeat' first | with_reducible exact h | with_reducible refine State.expire_keeps ?_ | with_reducible refine State.freeFolio_keeps ?_ | with_reducible refine Keeps.ite ?_ ?_ | split

theorem doKvPageEvict_keeps {M : Nat} {hd : Hdr} {hh : Handle} {no : ℕ} {kib : ℕ} {data : Sys2Proof.Bytes} {s u : State} (h : Keeps M s u)
    (hM : Mask.Le 0x280C16 M := by first | assumption | exact Mask.trans (by assumption) rfl) :
    Keeps M s (doKvPageEvict hd hh no kib data u) := by
  unfold doKvPageEvict
  repeat' first | with_reducible exact h | with_reducible refine doKvPage_keeps ?_

theorem doFtStoreAckTimeout_keeps {M : Nat} {n : ℕ} {no : ℕ} {s u : State} (h : Keeps M s u)
    (hM : Mask.Le 0x280E36 M := by first | assumption | exact Mask.trans (by assumption) rfl) :
    Keeps M s (doFtStoreAckTimeout n no u) := by
  unfold doFtStoreAckTimeout
  dsimp only
  repeat' first | with_reducible exact h | exact id | with_reducible refine State.storeFailed_keeps ?_ | with_reducible refine Keeps.ite ?_ ?_ | split | with_reducible refine Keeps.upd ?_ ?_ ?_ ?_ ?_ ?_ ?_ ?_ ?_ ?_ ?_ ?_ ?_ ?_

theorem State.storeAck_keeps {M : Nat} {n : ℕ} {tag : ℕ} {status : ℕ} {handle : ℕ} {port : ℕ} {s u : State} (h : Keeps M s u)
    (hM : Mask.Le 0x280E36 M := by first | assumption | exact Mask.trans (by assumption) rfl) :
    Keeps M s (State.storeAck n tag status handle port u) := by
  unfold State.storeAck
  dsimp only
  repeat' first | with_reducible exact h | with_reducible refine State.dropStray_keeps ?_ | with_reducible refine State.sendFree_keeps ?_ | with_reducible refine State.dropMsg_keeps ?_ | with_reducible refine State.storeFailed_keeps ?_ | with_reducible refine State.updPage_keeps ?_ | with_reducible refine State.storePages_keeps ?_ | with_reducible refine State.inc_keeps ?_ | with_reducible refine State.drainPages_keeps ?_ | with_reducible refine State.maybePaused_keeps ?_ | with_reducible refine Keeps.ite ?_ ?_ | split

theorem doFtStoreAck_keeps {M : Nat} {hd : Hdr} {status : ℕ} {handle : ℕ} {s u : State} (h : Keeps M s u)
    (hM : Mask.Le 0x280E36 M := by first | assumption | exact Mask.trans (by assumption) rfl) :
    Keeps M s (doFtStoreAck hd status handle u) := by
  unfold doFtStoreAck
  dsimp only
  repeat' first | with_reducible exact h | with_reducible refine State.dropMsg_keeps ?_ | with_reducible refine doFtStoreAckTimeout_keeps ?_ | with_reducible refine State.storeAck_keeps ?_ | split

theorem doFtFetchTimeout_keeps {M : Nat} {n : ℕ} {no : ℕ} {s u : State} (h : Keeps M s u)
    (hM : Mask.Le 0x280E36 M := by first | assumption | exact Mask.trans (by assumption) rfl) :
    Keeps M s (doFtFetchTimeout n no u) := by
  unfold doFtFetchTimeout
  repeat' first | with_reducible exact h | with_reducible refine State.orphan_keeps ?_ | with_reducible refine Keeps.ite ?_ ?_ | split

theorem State.ftData_keeps {M : Nat} {n : ℕ} {tag : ℕ} {status : ℕ} {kib : ℕ} {port : ℕ} {data : Sys2Proof.Bytes} {s u : State} (h : Keeps M s u)
    (hM : Mask.Le 0x280C16 M := by first | assumption | exact Mask.trans (by assumption) rfl) :
    Keeps M s (State.ftData n tag status kib port data u) := by
  unfold State.ftData
  dsimp only
  repeat' first | with_reducible exact h | with_reducible refine State.dropMsg_keeps ?_ | with_reducible refine State.holdUnit_keeps ?_ | with_reducible refine State.updPage_keeps ?_ | with_reducible refine State.resumeStep_keeps ?_ | with_reducible refine State.inc_keeps ?_ | with_reducible refine Keeps.ite ?_ ?_ | split

theorem doFtData_keeps {M : Nat} {hd : Hdr} {status : ℕ} {kib : ℕ} {data : Sys2Proof.Bytes} {s u : State} (h : Keeps M s u)
    (hM : Mask.Le 0x280E36 M := by first | assumption | exact Mask.trans (by assumption) rfl) :
    Keeps M s (doFtData hd status kib data u) := by
  unfold doFtData
  dsimp only
  repeat' first | with_reducible exact h | with_reducible refine State.dropMsg_keeps ?_ | with_reducible refine doFtFetchTimeout_keeps ?_ | with_reducible refine State.ftData_keeps ?_ | split

theorem doFtFreeTimeout_keeps {M : Nat} {s u : State} (h : Keeps M s u)
    (hM : Mask.Le 0x804 M := by first | assumption | exact Mask.trans (by assumption) rfl) :
    Keeps M s (doFtFreeTimeout u) := by
  unfold doFtFreeTimeout
  repeat' first | with_reducible exact h | exact id | with_reducible refine State.see_keeps ?_ | with_reducible refine Keeps.ite ?_ ?_ | split | with_reducible refine Keeps.upd ?_ ?_ ?_ ?_ ?_ ?_ ?_ ?_ ?_ ?_ ?_ ?_ ?_ ?_

theorem doCandList_keeps {M : Nat} {hd : Hdr} {body : Sys2Proof.Bytes} {s u : State} (h : Keeps M s u)
    (hM : Mask.Le 0x200424 M := by first | assumption | exact Mask.trans (by assumption) rfl) :
    Keeps M s (doCandList hd body u) := by
  unfold doCandList
  dsimp only
  repeat' first | with_reducible exact h | with_reducible exact Keeps.refl _ | with_reducible refine State.reject_keeps ?_ | with_reducible refine State.queueFull_keeps ?_ | with_reducible refine State.see_keeps ?_ | with_reducible refine State.inc_keeps ?_ | with_reducible refine State.enqueue_keeps ?_ | with_reducible refine State.fromPartner_keeps (fun _ => ?_) (fun _ _ => ?_) ?_ | with_reducible refine Keeps.ite ?_ ?_ | split | dsimp only

theorem State.refill_keeps {M : Nat} {c : Chan} {s u : State} (h : Keeps M s u)
    (hM : Mask.Le 0x20 M := by first | assumption | exact Mask.trans (by assumption) rfl) : Keeps M s (State.refill c u) := by
  refine Keeps.foldl (fun w t => ?_) _ h
  split
  · exact Keeps.refl _
  · exact Keeps.upd (Keeps.refl _) id id id id id id id id id (fun w => by rw [Adm.setLevel_backlog]; exact w) id id id

theorem doBudgetRefill_keeps {M : Nat} {s u : State} (h : Keeps M s u)
    (hM : Mask.Le 0x20 M := by first | assumption | exact Mask.trans (by assumption) rfl) : Keeps M s (doBudgetRefill u) := by
  have h1 : Keeps M s { u with adm := u.adm.applyCuts u.tick } :=
    Keeps.upd h id id id id id id id id id (fun w => by rw [Adm.applyCuts_backlog]; exact w) id id id
  unfold doBudgetRefill
  dsimp only
  repeat' split
  · exact h1
  · exact State.refill_keeps (State.refill_keeps (Keeps.upd h1 id id id id id id id id id id id id id))

theorem doBalancerEval_keeps {M : Nat} {s u : State} (h : Keeps M s u)
    (hM : Mask.Le 0x24 M := by first | assumption | exact Mask.trans (by assumption) rfl) :
    Keeps M s (doBalancerEval u) := by
  unfold doBalancerEval
  dsimp only
  repeat' first | with_reducible exact h | exact id | with_reducible refine State.fenceGroup_keeps ?_ | with_reducible refine Keeps.ite ?_ ?_ | split | with_reducible refine Keeps.upd ?_ ?_ ?_ ?_ ?_ ?_ ?_ ?_ ?_ ?_ ?_ ?_ ?_ ?_

theorem doPvcInvalidateTenant_keeps {M : Nat} {tenant : ℕ} {s u : State} (h : Keeps M s u)
    (hM : Mask.Le 0x44 M := by first | assumption | exact Mask.trans (by assumption) rfl) :
    Keeps M s (doPvcInvalidateTenant tenant u) := by
  unfold doPvcInvalidateTenant
  repeat' first | with_reducible exact h | with_reducible refine State.invalidatePvc_keeps ?_

theorem doPvcInvalidateAll_keeps {M : Nat} {s u : State} (h : Keeps M s u)
    (hM : Mask.Le 0x44 M := by first | assumption | exact Mask.trans (by assumption) rfl) :
    Keeps M s (doPvcInvalidateAll u) := by
  unfold doPvcInvalidateAll
  repeat' first | with_reducible exact h | with_reducible refine State.invalidatePvc_keeps ?_

theorem doPvcSweepDone_keeps {M : Nat} {s u : State} (h : Keeps M s u)
    (hM : Mask.Le 0x44 M := by first | assumption | exact Mask.trans (by assumption) rfl) :
    Keeps M s (doPvcSweepDone u) := by
  unfold doPvcSweepDone
  dsimp only
  repeat' first | with_reducible exact h | exact id | with_reducible refine State.setFld_keeps ?_ | with_reducible refine Keeps.ite ?_ ?_ | split | with_reducible refine Keeps.upd ?_ ?_ ?_ ?_ ?_ ?_ ?_ ?_ ?_ ?_ ?_ ?_ ?_ ?_

theorem doCascadeSlotSend_keeps {M : Nat} {slot : ℕ} {ident : ℕ} {s u : State} (h : Keeps M s u)
    (hM : Mask.Le 0x104 M := by first | assumption | exact Mask.trans (by assumption) rfl) :
    Keeps M s (doCascadeSlotSend slot ident u) := by
  unfold doCascadeSlotSend
  dsimp only
  repeat' first | with_reducible exact h | with_reducible refine State.cascSend_keeps ?_ | with_reducible refine State.updCasc_keeps ?_ | with_reducible refine State.inc_keeps ?_ | with_reducible refine Keeps.ite ?_ ?_ | split

theorem doCascadeRingUp_keeps {M : Nat} {s u : State} (h : Keeps M s u)
    (hM : Mask.Le 0x4 M := by first | assumption | exact Mask.trans (by assumption) rfl) :
    Keeps M s (doCascadeRingUp u) := by
  unfold doCascadeRingUp
  repeat' first | with_reducible exact h | with_reducible refine State.setFld_keeps ?_ | with_reducible refine Keeps.ite ?_ ?_ | split

theorem doAmaUpdInvalidate_keeps {M : Nat} {q : ℕ} {m : ℕ} {slot : ℕ} {s u : State} (h : Keeps M s u)
    (hM : Mask.Le 0x84 M := by first | assumption | exact Mask.trans (by assumption) rfl) :
    Keeps M s (doAmaUpdInvalidate q m slot u) := by
  unfold doAmaUpdInvalidate
  dsimp only
  repeat' first | with_reducible exact h | with_reducible exact Keeps.refl _ | exact id | with_reducible refine State.verStep_keeps ?_ | with_reducible refine State.updCmd_keeps (fun _ => ?_) ?_ | with_reducible refine Keeps.ite ?_ ?_ | split | with_reducible refine Keeps.upd ?_ ?_ ?_ ?_ ?_ ?_ ?_ ?_ ?_ ?_ ?_ ?_ ?_ ?_ | dsimp only

theorem doAmaUpdSubstep_keeps {M : Nat} {q : ℕ} {srcBad : Bool} {s u : State} (h : Keeps M s u)
    (hM : Mask.Le 0x84 M := by first | assumption | exact Mask.trans (by assumption) rfl) :
    Keeps M s (doAmaUpdSubstep q srcBad u) := by
  unfold doAmaUpdSubstep
  repeat' first | with_reducible exact h | with_reducible refine State.microStep_keeps ?_ | with_reducible refine Keeps.ite ?_ ?_ | split

theorem doAmtGatherTimeout_keeps {M : Nat} {q : ℕ} {t : ℕ} {s u : State} (h : Keeps M s u)
    (hM : Mask.Le 0x204 M := by first | assumption | exact Mask.trans (by assumption) rfl) :
    Keeps M s (doAmtGatherTimeout q t u) := by
  unfold doAmtGatherTimeout
  dsimp only
  repeat' first | with_reducible exact h | with_reducible refine State.startPass_keeps ?_ | with_reducible refine Keeps.ite ?_ ?_ | split

theorem doXlRerunDone_keeps {M : Nat} {ident : ℕ} {cls : ℕ} {used : ℕ} {residue : Bool} {ecc : Option ℕ} {countEcc : Bool} {s u : State} (h : Keeps M s u)
    (hM : Mask.Le 0x280E36 M := by first | assumption | exact Mask.trans (by assumption) rfl) :
    Keeps M s (doXlRerunDone ident cls used residue ecc countEcc u) := by
  unfold doXlRerunDone
  dsimp only
  repeat' first | with_reducible exact h | exact id | with_reducible refine State.fault_keeps ?_ | with_reducible refine State.xlFault_keeps ?_ | with_reducible refine State.inc_keeps ?_ | with_reducible refine State.afterCls_keeps ?_ | with_reducible refine State.updCls_keeps ?_ | with_reducible refine Keeps.ite ?_ ?_ | split | with_reducible refine Keeps.upd ?_ ?_ ?_ ?_ ?_ ?_ ?_ ?_ ?_ ?_ ?_ ?_ ?_ ?_ | exact Sparse.wf_upd _ _ _ _

theorem doAmtCalDue_keeps {M : Nat} {q : ℕ} {t : ℕ} {temp : ℕ} {s u : State} (h : Keeps M s u)
    (hM : Mask.Le 0x200 M := by first | assumption | exact Mask.trans (by assumption) rfl) :
    Keeps M s (doAmtCalDue q t temp u) := by
  unfold doAmtCalDue
  dsimp only
  repeat' first | with_reducible exact h | with_reducible refine State.updTile_keeps ?_ | with_reducible refine Keeps.ite ?_ ?_ | split

theorem doAmtCalDone_keeps {M : Nat} {q : ℕ} {t : ℕ} {cal : List RowCal} {s u : State} (h : Keeps M s u)
    (hM : Mask.Le 0x224 M := by first | assumption | exact Mask.trans (by assumption) rfl) :
    Keeps M s (doAmtCalDone q t cal u) := by
  unfold doAmtCalDone
  dsimp only
  repeat' first | with_reducible exact h | with_reducible refine State.calEnd_keeps ?_ | with_reducible refine Keeps.ite ?_ ?_ | split

theorem State.setWidth_keeps {M : Nat} {p : ℕ} {s u : State} (h : Keeps M s u)
    (hM : Mask.Le 0x404 M := by first | assumption | exact Mask.trans (by assumption) rfl) :
    Keeps M s (State.setWidth p u) := by
  unfold State.setWidth
  dsimp only
  repeat' first | with_reducible exact h | with_reducible refine State.updPort_keeps ?_ | with_reducible refine State.setFld_keeps ?_ | with_reducible refine Keeps.ite ?_ ?_ | split

theorem doSpnTrainingBlockRx_keeps {M : Nat} {p : ℕ} {lane : ℕ} {b : TrainBlock} {s u : State} (h : Keeps M s u)
    (hM : Mask.Le 0x404 M := by first | assumption | exact Mask.trans (by assumption) rfl) :
    Keeps M s (doSpnTrainingBlockRx p lane b u) := by
  unfold doSpnTrainingBlockRx
  dsimp only
  repeat' first | with_reducible exact h | with_reducible refine State.setWidth_keeps ?_ | with_reducible refine State.updPort_keeps ?_ | with_reducible refine Keeps.ite ?_ ?_ | split

theorem doSpnTrainTimeout_keeps {M : Nat} {p : ℕ} {s u : State} (h : Keeps M s u)
    (hM : Mask.Le 0x404 M := by first | assumption | exact Mask.trans (by assumption) rfl) :
    Keeps M s (doSpnTrainTimeout p u) := by
  unfold doSpnTrainTimeout
  dsimp only
  repeat' first | with_reducible exact h | with_reducible refine State.updPort_keeps ?_ | with_reducible refine State.see_keeps ?_ | with_reducible refine State.setPortState_keeps ?_ | with_reducible refine Keeps.ite ?_ ?_ | split

theorem doSpnDownRestart_keeps {M : Nat} {p : ℕ} {s u : State} (h : Keeps M s u)
    (hM : Mask.Le 0x280E36 M := by first | assumption | exact Mask.trans (by assumption) rfl) :
    Keeps M s (doSpnDownRestart p u) := by
  unfold doSpnDownRestart
  repeat' first | with_reducible exact h | with_reducible refine State.fullTrain_keeps ?_ | with_reducible refine Keeps.ite ?_ ?_ | split

theorem doSpnBlockLockLost_keeps {M : Nat} {p : ℕ} {lane : ℕ} {s u : State} (h : Keeps M s u)
    (hM : Mask.Le 0x404 M := by first | assumption | exact Mask.trans (by assumption) rfl) :
    Keeps M s (doSpnBlockLockLost p lane u) := by
  unfold doSpnBlockLockLost
  repeat' first | with_reducible exact h | with_reducible refine State.fastRetrain_keeps ?_ | with_reducible refine State.updPort_keeps ?_ | with_reducible refine Keeps.ite ?_ ?_ | split

theorem doSpnFastRetrainTimeout_keeps {M : Nat} {p : ℕ} {s u : State} (h : Keeps M s u)
    (hM : Mask.Le 0x280E36 M := by first | assumption | exact Mask.trans (by assumption) rfl) :
    Keeps M s (doSpnFastRetrainTimeout p u) := by
  unfold doSpnFastRetrainTimeout
  repeat' first | with_reducible exact h | with_reducible refine State.fullTrain_keeps ?_ | with_reducible refine Keeps.ite ?_ ?_ | split

theorem doUnsupportedMessage_keeps {M : Nat} {hd : Hdr} {type : ℕ} {body : Sys2Proof.Bytes} {s u : State} (h : Keeps M s u)
    (hM : Mask.Le 0x200404 M := by first | assumption | exact Mask.trans (by assumption) rfl) :
    Keeps M s (doUnsupportedMessage hd type body u) := by
  unfold doUnsupportedMessage
  dsimp only
  repeat' first | with_reducible exact h | with_reducible refine State.dropMsg_keeps ?_ | with_reducible refine State.send_keeps ?_ | with_reducible refine State.countReject_keeps ?_ | with_reducible refine State.see_keeps ?_ | with_reducible refine State.inc_keeps ?_ | with_reducible refine State.reject_keeps ?_ | with_reducible refine Keeps.ite ?_ ?_ | split

theorem State.refuseCaps_keeps {M : Nat} {hd : Hdr} {st : ℕ} {s u : State} (h : Keeps M s u)
    (hM : Mask.Le 0x200404 M := by first | assumption | exact Mask.trans (by assumption) rfl) :
    Keeps M s (State.refuseCaps hd st u) := by
  unfold State.refuseCaps
  repeat' first | with_reducible exact h | with_reducible refine State.send_keeps ?_ | with_reducible refine State.countReject_keeps ?_

theorem State.attach_keeps {M : Nat} {n : ℕ} {a : Attach} {c : Caps} {tag : ℕ} {s u : State} (h : Keeps M s u)
    (hM : Mask.Le 0x200C04 M := by first | assumption | exact Mask.trans (by assumption) rfl) :
    Keeps M s (State.attach n a c tag u) := by
  unfold State.attach
  dsimp only
  repeat' first | with_reducible exact h | with_reducible refine State.updPartner_keeps ?_ | with_reducible refine State.see_keeps ?_ | with_reducible refine State.inc_keeps ?_ | with_reducible refine State.rosterDueAfter_keeps ?_ | with_reducible refine State.send_keeps ?_

theorem doCaps_keeps {M : Nat} {hd : Hdr} {c : Caps} {s u : State} (h : Keeps M s u)
    (hM : Mask.Le 0x200C04 M := by first | assumption | exact Mask.trans (by assumption) rfl) :
    Keeps M s (doCaps hd c u) := by
  unfold doCaps
  dsimp only
  repeat' first | with_reducible exact h | with_reducible refine State.refuseCaps_keeps ?_ | with_reducible refine State.endAttach_keeps ?_ | with_reducible refine State.see_keeps ?_ | with_reducible refine State.attach_keeps ?_ | split

theorem doCapsTimeout_keeps {M : Nat} {e : Endp} {s u : State} (h : Keeps M s u)
    (hM : Mask.Le 0x804 M := by first | assumption | exact Mask.trans (by assumption) rfl) :
    Keeps M s (doCapsTimeout e u) := by
  unfold doCapsTimeout
  repeat' first | with_reducible exact h | with_reducible refine State.see_keeps ?_ | with_reducible refine State.endAttach_keeps ?_ | with_reducible refine Keeps.ite ?_ ?_ | split

theorem doHeartbeat_keeps {M : Nat} {hd : Hdr} {hbSeq : ℕ} {s u : State} (h : Keeps M s u)
    (hM : Mask.Le 0x804 M := by first | assumption | exact Mask.trans (by assumption) rfl) :
    Keeps M s (doHeartbeat hd hbSeq u) := by
  unfold doHeartbeat
  dsimp only
  repeat' first | with_reducible exact h | with_reducible refine State.dropMsg_keeps ?_ | with_reducible refine State.updPartner_keeps ?_ | with_reducible refine State.see_keeps ?_ | with_reducible refine Keeps.ite ?_ ?_ | split

theorem doHeartbeatSend_keeps {M : Nat} {n : ℕ} {s u : State} (h : Keeps M s u)
    (hM : Mask.Le 0x200C02 M := by first | assumption | exact Mask.trans (by assumption) rfl) :
    Keeps M s (doHeartbeatSend n u) := by
  unfold doHeartbeatSend
  dsimp only
  repeat' first | with_reducible exact h | with_reducible refine State.updPartner_keeps ?_ | with_reducible refine State.post_keeps ?_ | with_reducible refine Keeps.ite ?_ ?_ | split

theorem doHeartbeatWindowEnd_keeps {M : Nat} {n : ℕ} {s u : State} (h : Keeps M s u)
    (hM : Mask.Le 0x280E36 M := by first | assumption | exact Mask.trans (by assumption) rfl) :
    Keeps M s (doHeartbeatWindowEnd n u) := by
  unfold doHeartbeatWindowEnd
  dsimp only
  repeat' first | with_reducible exact h | with_reducible refine State.updPartner_keeps ?_ | with_reducible refine State.losePartner_keeps ?_ | with_reducible refine Keeps.ite ?_ ?_ | split

theorem doPartnerClose_keeps {M : Nat} {n : ℕ} {s u : State} (h : Keeps M s u)
    (hM : Mask.Le 0x800 M := by first | assumption | exact Mask.trans (by assumption) rfl) :
    Keeps M s (doPartnerClose n u) := by
  unfold doPartnerClose
  repeat' first | with_reducible exact h | with_reducible refine State.rosterDue_keeps ?_ | with_reducible refine State.updPartner_keeps ?_ | with_reducible refine Keeps.ite ?_ ?_ | split

theorem doPartnerDetach_keeps {M : Nat} {n : ℕ} {s u : State} (h : Keeps M s u)
    (hM : Mask.Le 0x280E36 M := by first | assumption | exact Mask.trans (by assumption) rfl) :
    Keeps M s (doPartnerDetach n u) := by
  unfold doPartnerDetach
  repeat' first | with_reducible exact h | with_reducible refine State.losePartner_keeps ?_

theorem doRosterSend_keeps {M : Nat} {s u : State} (h : Keeps M s u)
    (hM : Mask.Le 0x200C02 M := by first | assumption | exact Mask.trans (by assumption) rfl) :
    Keeps M s (doRosterSend u) := by
  unfold doRosterSend
  dsimp only
  repeat' first | with_reducible exact h | with_reducible exact Keeps.refl _ | exact id | with_reducible refine State.post_keeps ?_ | with_reducible refine Keeps.foldl (fun _ _ => ?_) _ ?_ | with_reducible refine Keeps.ite ?_ ?_ | split | with_reducible refine Keeps.upd ?_ ?_ ?_ ?_ ?_ ?_ ?_ ?_ ?_ ?_ ?_ ?_ ?_ ?_ | exact Sparse.wfFrom_filter _ _ _ _ | dsimp only

theorem doPartnerCoolEnd_keeps {M : Nat} {n : ℕ} {s u : State} (h : Keeps M s u)
    (hM : Mask.Le 0x800 M := by first | assumption | exact Mask.trans (by assumption) rfl) :
    Keeps M s (doPartnerCoolEnd n u) := by
  unfold doPartnerCoolEnd
  dsimp only
  repeat' first | with_reducible exact h | with_reducible refine State.updPartner_keeps ?_ | with_reducible refine Keeps.ite ?_ ?_ | split

theorem doOrphanAtHold_keeps {M : Nat} {n : ℕ} {s u : State} (h : Keeps M s u)
    (hM : Mask.Le 0x280E36 M := by first | assumption | exact Mask.trans (by assumption) rfl) :
    Keeps M s (doOrphanAtHold n u) := by
  unfold doOrphanAtHold
  dsimp only
  repeat' first | with_reducible exact h | exact id | with_reducible refine State.orphan_keeps ?_ | with_reducible refine Keeps.ite ?_ ?_ | split | with_reducible refine Keeps.upd ?_ ?_ ?_ ?_ ?_ ?_ ?_ ?_ ?_ ?_ ?_ ?_ ?_ ?_ | exact Sparse.wfFrom_filter _ _ _ _

theorem doSealCountTrigger_keeps {M : Nat} {s u : State} (h : Keeps M s u)
    (hM : Mask.Le 0x180004 M := by first | assumption | exact Mask.trans (by assumption) rfl) :
    Keeps M s (doSealCountTrigger u) := by
  unfold doSealCountTrigger
  repeat' first | with_reducible exact h | with_reducible refine State.sealIfDue_keeps ?_ | with_reducible refine Keeps.ite ?_ ?_ | split

theorem doSealTimerTrigger_keeps {M : Nat} {s u : State} (h : Keeps M s u)
    (hM : Mask.Le 0x180004 M := by first | assumption | exact Mask.trans (by assumption) rfl) :
    Keeps M s (doSealTimerTrigger u) := by
  unfold doSealTimerTrigger
  repeat' first | with_reducible exact h | with_reducible refine State.sealIfDue_keeps ?_ | with_reducible refine Keeps.ite ?_ ?_ | split

theorem doColTailCommit_keeps {M : Nat} {lo : ℕ} {s u : State} (h : Keeps M s u)
    (hM : Mask.Le 0x100004 M := by first | assumption | exact Mask.trans (by assumption) rfl) :
    Keeps M s (doColTailCommit lo u) := by
  unfold doColTailCommit
  dsimp only
  repeat' first | with_reducible exact h | exact id | with_reducible refine State.setFld_keeps ?_ | with_reducible refine Keeps.ite ?_ ?_ | split | with_reducible refine Keeps.upd ?_ ?_ ?_ ?_ ?_ ?_ ?_ ?_ ?_ ?_ ?_ ?_ ?_ ?_ | exact Sparse.wfFrom_filter _ _ _ _

theorem doColApertureRead_keeps {M : Nat} {off : ℕ} {ecc : Bool} {s u : State} (h : Keeps M s u)
    (hM : Mask.Le 0x900004 M := by first | assumption | exact Mask.trans (by assumption) rfl) : Keeps M s (doColApertureRead off ecc u) := by
  unfold doColApertureRead
  dsimp only
  split
  · exact State.answer_keeps h
  · exact State.answer_keeps (State.readEntry_keeps h)

theorem doBindLoad_keeps {M : Nat} {s u : State} (h : Keeps M s u)
    (hM : Mask.Le 0x1084 M := by first | assumption | exact Mask.trans (by assumption) rfl) :
    Keeps M s (doBindLoad u) := by
  unfold doBindLoad
  dsimp only
  repeat' first | with_reducible exact h | with_reducible exact Keeps.refl _ | exact id | with_reducible refine State.bindEnd_keeps ?_ | with_reducible refine State.bindRun_keeps ?_ | with_reducible refine State.bindCmd_keeps (fun _ => ?_) ?_ | with_reducible refine Keeps.ite ?_ ?_ | split | with_reducible refine Keeps.upd ?_ ?_ ?_ ?_ ?_ ?_ ?_ ?_ ?_ ?_ ?_ ?_ ?_ ?_ | dsimp only

theorem doBindLoadDone_keeps {M : Nat} {s u : State} (h : Keeps M s u)
    (hM : Mask.Le 0x1084 M := by first | assumption | exact Mask.trans (by assumption) rfl) :
    Keeps M s (doBindLoadDone u) := by
  unfold doBindLoadDone
  repeat' first | with_reducible exact h | with_reducible refine State.bindEnd_keeps ?_ | with_reducible refine State.loadSpoils_keeps ?_ | with_reducible refine State.inc_keeps ?_ | with_reducible refine State.loadWrites_keeps ?_ | split

theorem doCatAdd_keeps {M : Nat} {win : ℕ} {variant : ℕ} {s u : State} (h : Keeps M s u)
    (hM : Mask.Le 0x21004 M := by first | assumption | exact Mask.trans (by assumption) rfl) :
    Keeps M s (doCatAdd win variant u) := by
  unfold doCatAdd
  dsimp only
  repeat' first | with_reducible exact h | with_reducible exact Keeps.refl _ | exact id | with_reducible refine State.bindEnd_keeps ?_ | with_reducible refine State.dmaCheck_keeps ?_ | with_reducible refine State.bindRun_keeps ?_ | with_reducible refine State.bindCmd_keeps (fun _ => ?_) ?_ | with_reducible refine Keeps.ite ?_ ?_ | split | with_reducible refine Keeps.upd ?_ ?_ ?_ ?_ ?_ ?_ ?_ ?_ ?_ ?_ ?_ ?_ ?_ ?_ | exact Sparse.wfFrom_filter _ _ _ _ | dsimp only

theorem doCatSizeWrite_keeps {M : Nat} {v : ℕ} {s u : State} (h : Keeps M s u)
    (hM : Mask.Le 0x4 M := by first | assumption | exact Mask.trans (by assumption) rfl) :
    Keeps M s (doCatSizeWrite v u) := by
  unfold doCatSizeWrite
  dsimp only
  repeat' first | with_reducible exact h | with_reducible refine State.setFld_keeps ?_ | with_reducible refine Keeps.ite ?_ ?_ | split

theorem doMsetWrite_keeps {M : Nat} {q : ℕ} {slot : ℕ} {v : ℕ} {s u : State} (h : Keeps M s u)
    (hM : Mask.Le 0x1004 M := by first | assumption | exact Mask.trans (by assumption) rfl) :
    Keeps M s (doMsetWrite q slot v u) := by
  unfold doMsetWrite
  repeat' first | with_reducible exact h | with_reducible refine State.goStale_keeps ?_ | with_reducible refine State.setFld_keeps ?_ | with_reducible refine Keeps.ite ?_ ?_ | split

theorem doCensusSettled_keeps {M : Nat} {n : ℕ} {s u : State} (h : Keeps M s u)
    (hM : Mask.Le 0x10 M := by first | assumption | exact Mask.trans (by assumption) rfl) :
    Keeps M s (doCensusSettled n u) := by
  unfold doCensusSettled
  repeat' first | with_reducible exact h | with_reducible refine State.updRun_keeps ?_ | with_reducible refine Keeps.ite ?_ ?_ | split

theorem doFltCensusRead_keeps {M : Nat} {n : ℕ} {s u : State} (h : Keeps M s u)
    (hM : Mask.Le 0x4 M := by first | assumption | exact Mask.trans (by assumption) rfl) :
    Keeps M s (doFltCensusRead n u) := by
  unfold doFltCensusRead
  repeat' first | with_reducible exact h | with_reducible refine State.setFld_keeps ?_ | with_reducible refine State.wrWords_keeps ?_ | with_reducible refine Keeps.ite ?_ ?_ | split

theorem State.putBackItems_keeps {M : Nat} {n : ℕ} {e : Census} {s u : State} (h : Keeps M s u)
    (hM : Mask.Le 0x280C36 M := by first | assumption | exact Mask.trans (by assumption) rfl) :
    Keeps M s (State.putBackItems n e u) := by
  unfold State.putBackItems
  dsimp only
  repeat' first | with_reducible exact h | exact id | with_reducible refine State.faultCol_keeps ?_ | with_reducible refine State.updFolio_keeps ?_ | with_reducible refine State.forward_keeps ?_ | with_reducible refine State.inc_keeps ?_ | with_reducible refine State.updRun_keeps ?_ | with_reducible refine Keeps.upd ?_ ?_ ?_ ?_ ?_ ?_ ?_ ?_ ?_ ?_ ?_ ?_ ?_ ?_ | exact Sparse.wfFrom_filter _ _ _ _

theorem State.retry_keeps {M : Nat} {n : ℕ} {s u : State} (h : Keeps M s u)
    (hM : Mask.Le 0x280E36 M := by first | assumption | exact Mask.trans (by assumption) rfl) :
    Keeps M s (State.retry n u) := by
  unfold State.retry
  repeat' first | with_reducible exact h | with_reducible refine State.orphan_keeps ?_ | with_reducible refine State.putBackItems_keeps ?_ | split

theorem doFltCensusRetry_keeps {M : Nat} {hh : Handle} {s u : State} (h : Keeps M s u)
    (hM : Mask.Le 0x280E36 M := by first | assumption | exact Mask.trans (by assumption) rfl) :
    Keeps M s (doFltCensusRetry hh u) := by
  unfold doFltCensusRetry
  dsimp only
  repeat' first | with_reducible exact h | with_reducible refine State.setFld_keeps ?_ | with_reducible refine State.retry_keeps ?_ | with_reducible refine State.censusResult_keeps ?_ | with_reducible refine Keeps.ite ?_ ?_ | split

theorem doModelScrubVisit_keeps {M : Nat} {q : ℕ} {addr : ℕ} {bad : Bool} {s u : State} (h : Keeps M s u)
    (hM : Mask.Le 0x1000 M := by first | assumption | exact Mask.trans (by assumption) rfl) :
    Keeps M s (doModelScrubVisit q addr bad u) := by
  unfold doModelScrubVisit
  repeat' first | with_reducible exact h | exact id | with_reducible refine Keeps.ite ?_ ?_ | split | with_reducible refine Keeps.upd ?_ ?_ ?_ ?_ ?_ ?_ ?_ ?_ ?_ ?_ ?_ ?_ ?_ ?_

theorem doNvmErase_keeps {M : Nat} {s u : State} (h : Keeps M s u)
    (hM : Mask.Le 0x22004 M := by first | assumption | exact Mask.trans (by assumption) rfl) :
    Keeps M s (doNvmErase u) := by
  unfold doNvmErase
  repeat' first | with_reducible exact h | with_reducible refine State.nvmCmd_keeps ?_

theorem doNvmOpDone_keeps {M : Nat} {data : DmaIn} {bad : NvmBad} {s u : State} (h : Keeps M s u)
    (hM : Mask.Le 0x402006 M := by first | assumption | exact Mask.trans (by assumption) rfl) :
    Keeps M s (doNvmOpDone data bad u) := by
  unfold doNvmOpDone
  dsimp only
  repeat' first | with_reducible exact h | with_reducible refine State.nvmErase_keeps ?_ | with_reducible refine State.nvmEnd_keeps ?_ | with_reducible refine State.dmaErr_keeps ?_ | with_reducible refine State.dmaWrite_keeps ?_ | with_reducible refine State.nvmProgram_keeps ?_ | with_reducible refine Keeps.ite ?_ ?_ | split

theorem doEpdWriteDone_keeps {M : Nat} {chunks : List DmaIn} {bad : NvmBad} {s u : State} (h : Keeps M s u)
    (hM : Mask.Le 0x26006 M := by first | assumption | exact Mask.trans (by assumption) rfl) :
    Keeps M s (doEpdWriteDone chunks bad u) := by
  unfold doEpdWriteDone
  repeat' first | with_reducible exact h | with_reducible refine State.epdChunks_keeps ?_ | split

theorem doEpdResume_keeps {M : Nat} {win : ℕ} {data : DmaIn} {s u : State} (h : Keeps M s u)
    (hM : Mask.Le 0x24004 M := by first | assumption | exact Mask.trans (by assumption) rfl) :
    Keeps M s (doEpdResume win data u) := by
  unfold doEpdResume
  dsimp only
  repeat' first | with_reducible exact h | with_reducible exact Keeps.refl _ | with_reducible refine State.epdEnd_keeps ?_ | with_reducible refine State.chunk0_keeps ?_ | with_reducible refine State.epdRun_keeps ?_ | with_reducible refine State.epdPhase_keeps ?_ | with_reducible refine State.epdCmd_keeps (fun _ => ?_) ?_ | with_reducible refine Keeps.ite ?_ ?_ | split | dsimp only

theorem doEpdGet_keeps {M : Nat} {key : ℕ} {s u : State} (h : Keeps M s u)
    (hM : Mask.Le 0x4004 M := by first | assumption | exact Mask.trans (by assumption) rfl) :
    Keeps M s (doEpdGet key u) := by
  unfold doEpdGet
  dsimp only
  repeat' first | with_reducible exact h | with_reducible exact Keeps.refl _ | with_reducible refine State.epdEnd_keeps ?_ | with_reducible refine State.setFld_keeps ?_ | with_reducible refine State.wr_keeps ?_ | with_reducible refine State.epdCmd_keeps (fun _ => ?_) ?_ | with_reducible refine Keeps.foldl (fun _ _ => ?_) _ ?_ | with_reducible refine Keeps.ite ?_ ?_ | split | dsimp only

theorem doPowerOn_keeps {M : Nat} {s u : State} (h : Keeps M s u)
    (hM : Mask.Le 0xFFFFFF M := by first | assumption | exact Mask.trans (by assumption) rfl) :
    Keeps M s (doPowerOn u) := by
  unfold doPowerOn
  repeat' first | with_reducible exact h | exact id | with_reducible refine State.coldReset_keeps ?_ | with_reducible refine Keeps.ite ?_ ?_ | split | with_reducible refine Keeps.upd ?_ ?_ ?_ ?_ ?_ ?_ ?_ ?_ ?_ ?_ ?_ ?_ ?_ ?_ | exact fun _ => rfl

theorem doPerstNLow_keeps {M : Nat} {ns : ℕ} {s u : State} (h : Keeps M s u)
    (hM : Mask.Le 0xFFFFFF M := by first | assumption | exact Mask.trans (by assumption) rfl) :
    Keeps M s (doPerstNLow ns u) := by
  unfold doPerstNLow
  repeat' first | with_reducible exact h | exact id | with_reducible refine State.coldReset_keeps ?_ | with_reducible refine Keeps.ite ?_ ?_ | split | with_reducible refine Keeps.upd ?_ ?_ ?_ ?_ ?_ ?_ ?_ ?_ ?_ ?_ ?_ ?_ ?_ ?_ | exact fun _ => rfl

theorem doBrownOut_keeps {M : Nat} {ns : ℕ} {s u : State} (h : Keeps M s u)
    (hM : Mask.Le 0xFFFFFF M := by first | assumption | exact Mask.trans (by assumption) rfl) :
    Keeps M s (doBrownOut ns u) := by
  unfold doBrownOut
  repeat' first | with_reducible exact h | with_reducible refine State.coldReset_keeps ?_ | with_reducible refine Keeps.ite ?_ ?_ | split

theorem State.latchCode_keeps {M : Nat} {code : ℕ} {tick : ℕ} {s u : State} (h : Keeps M s u)
    (hM : Mask.Le 0x30004 M := by first | assumption | exact Mask.trans (by assumption) rfl) :
    Keeps M s (State.latchCode code tick u) := by
  unfold State.latchCode
  dsimp only
  repeat' first | with_reducible exact h | exact id | with_reducible refine State.setFld_keeps ?_ | with_reducible refine State.raiseIbi_keeps ?_ | with_reducible refine Keeps.ite ?_ ?_ | split | with_reducible refine Keeps.upd ?_ ?_ ?_ ?_ ?_ ?_ ?_ ?_ ?_ ?_ ?_ ?_ ?_ ?_

theorem Nvm.kill_wf {n : Nvm} (h : Sparse.wf blankPage n.pages = true) : Sparse.wf blankPage n.kill.pages = true := by
  simp only [Nvm.kill, List.foldl]
  exact Sparse.wf_set _ _ _ _ (Sparse.wf_set _ _ _ _ h)

theorem State.killKey_keeps {M : Nat} {s u : State} (h : Keeps M s u)
    (hM : Mask.Le 0x2004 M := by first | assumption | exact Mask.trans (by assumption) rfl) : Keeps M s (State.killKey u) := by
  unfold State.killKey
  exact State.setFld_keeps (Keeps.upd h id id id id id Nvm.kill_wf id id id id id id id)

theorem of_ite_none {c : Prop} [Decidable c] {a w : State} (e : (if c then none else some a) = some w) : a = w := by
  split at e
  · cases e
  · exact Option.some.inj e

theorem State.startTamper_keeps {M : Nat} {s u w : State} {sensors : Nat} (h : Keeps M s u) (e : State.startTamper sensors u = some w)
    (hM : Mask.Le 0x32004 M := by first | assumption | exact Mask.trans (by assumption) rfl) : Keeps M s w := by
  have e := of_ite_none e
  subst e
  refine State.haltLocked_keeps ?_
  split
  · exact State.killKey_keeps (Keeps.foldl (fun _ _ => State.latchCode_keeps (Keeps.refl _)) _ (State.setFld_keeps h))
  · exact Keeps.foldl (fun _ _ => State.latchCode_keeps (Keeps.refl _)) _ (State.setFld_keeps h)

theorem State.startMemory_keeps {M : Nat} {c : ColdIn} {s u : State} (h : Keeps M s u)
    (hM : Mask.Le 0x3BEE36 M := by first | assumption | exact Mask.trans (by assumption) rfl) : Keeps M s (State.startMemory c u) := by
  unfold State.startMemory
  dsimp only
  split
  · exact State.halt_keeps h
  have k : Keeps M s { u with pwr := { u.pwr with stack0 := c.stack0.val, stack1 := c.stack1.val } } :=
    Keeps.upd h id id id id id id id id id id id id id
  split
  · exact State.halt_keeps k
  split
  · exact State.halt_keeps k
  · exact State.startRest_keeps k

theorem doColdStart_keeps {M : Nat} {c : ColdIn} {s u : State} (h : Keeps M s u)
    (hM : Mask.Le 0x3FEE36 M := by first | assumption | exact Mask.trans (by assumption) rfl) : Keeps M s (doColdStart c u) := by
  unfold doColdStart
  dsimp only
  split
  · exact h
  have k : Keeps M s (State.setFld F.HIF_LINK_WIDTH c.width.val (State.setFld F.HIF_LINK_SPEED c.speed.val
      { u with pins := { u.pins with resetLow := false, perstLow := false } })) :=
    State.setFld_keeps (State.setFld_keeps (Keeps.upd h id id id id id id id id id id id id id))
  split
  · exact State.halt_keeps k
  split
  · rename_i e
    exact State.startTamper_keeps k e
  · exact State.startMemory_keeps k

theorem doShlResetCold_keeps {M : Nat} {guard : ℕ} {s u : State} (h : Keeps M s u)
    (hM : Mask.Le 0xFFFFFF M := by first | assumption | exact Mask.trans (by assumption) rfl) :
    Keeps M s (doShlResetCold guard u) := by
  unfold doShlResetCold
  repeat' first | with_reducible exact h | with_reducible refine State.coldReset_keeps ?_ | with_reducible refine Keeps.ite ?_ ?_ | split

theorem doShlResetQuire_keeps {M : Nat} {guard : ℕ} {quires : ℕ} {tEnd : ℕ} {badJournals : List (Fin 8)} {cals : List CalIn} {s u : State} (h : Keeps M s u)
    (hM : Mask.Le 0x281EB6 M := by first | assumption | exact Mask.trans (by assumption) rfl) :
    Keeps M s (doShlResetQuire guard quires tEnd badJournals cals u) := by
  unfold doShlResetQuire
  repeat' first | with_reducible exact h | with_reducible refine State.quireReset_keeps ?_ | with_reducible refine Keeps.ite ?_ ?_ | split

theorem doQsvMemoryError_keeps {M : Nat} {q : ℕ} {tEnd : ℕ} {badJournals : List (Fin 8)} {cals : List CalIn} {s u : State} (h : Keeps M s u)
    (hM : Mask.Le 0x281EB6 M := by first | assumption | exact Mask.trans (by assumption) rfl) :
    Keeps M s (doQsvMemoryError q tEnd badJournals cals u) := by
  unfold doQsvMemoryError
  repeat' first | with_reducible exact h | with_reducible refine State.quireReset_keeps ?_

theorem doPcieLinkDown_keeps {M : Nat} {speed : ℕ} {width : ℕ} {w : WarmIn} {s u : State} (h : Keeps M s u)
    (hM : Mask.Le 0x3ADEFF M := by first | assumption | exact Mask.trans (by assumption) rfl) :
    Keeps M s (doPcieLinkDown speed width w u) := by
  unfold doPcieLinkDown
  repeat' first | with_reducible exact h | with_reducible refine State.warmReset_keeps ?_

theorem doPfFlr_keeps {M : Nat} {w : WarmIn} {s u : State} (h : Keeps M s u)
    (hM : Mask.Le 0x3ADEFF M := by first | assumption | exact Mask.trans (by assumption) rfl) :
    Keeps M s (doPfFlr w u) := by
  unfold doPfFlr
  dsimp only
  repeat' first | with_reducible exact h | exact id | with_reducible refine State.warmReset_keeps ?_ | with_reducible refine Keeps.upd ?_ ?_ ?_ ?_ ?_ ?_ ?_ ?_ ?_ ?_ ?_ ?_ ?_ ?_ | exact Sparse.wfFrom_filter _ _ _ _

theorem State.leavePs3_keeps {M : Nat} {p : PwrIn} {s u : State} (h : Keeps M s u)
    (hM : Mask.Le 0x8004 M := by first | assumption | exact Mask.trans (by assumption) rfl) :
    Keeps M s (State.leavePs3 p u) := by
  unfold State.leavePs3
  dsimp only
  repeat' first | with_reducible exact h | exact id | with_reducible refine State.enterState_keeps ?_ | with_reducible refine State.reloadQsvs_keeps ?_ | with_reducible refine State.setFld_keeps ?_ | with_reducible refine Keeps.upd ?_ ?_ ?_ ?_ ?_ ?_ ?_ ?_ ?_ ?_ ?_ ?_ ?_ ?_

theorem State.endUpds_keeps {M : Nat} {s u : State} (h : Keeps M s u)
    (hM : Mask.Le 0x84 M := by first | assumption | exact Mask.trans (by assumption) rfl) :
    Keeps M s (State.endUpds u) := by
  unfold State.endUpds
  repeat' first | with_reducible exact h | with_reducible exact Keeps.refl _ | with_reducible refine State.updEnd_keeps ?_ | with_reducible refine Keeps.foldl (fun _ _ => ?_) _ ?_ | with_reducible refine Keeps.ite ?_ ?_ | split | dsimp only

theorem State.wakeCore_keeps {M : Nat} {s u : State} (h : Keeps M s u)
    (hM : Mask.Le 0x90CC M := by first | assumption | exact Mask.trans (by assumption) rfl) :
    Keeps M s (State.wakeCore u) := by
  unfold State.wakeCore
  dsimp only
  repeat' first | with_reducible exact h | exact id | with_reducible refine State.reloadCore_keeps ?_ | with_reducible refine State.endUpds_keeps ?_ | with_reducible refine State.warmOpen_keeps ?_ | with_reducible refine State.setFld_keeps ?_ | with_reducible refine Keeps.upd ?_ ?_ ?_ ?_ ?_ ?_ ?_ ?_ ?_ ?_ ?_ ?_ ?_ ?_ | exact fun _ => rfl

theorem State.enterPs0_keeps {M : Nat} {cals : List CalIn} {s u : State} (h : Keeps M s u)
    (hM : Mask.Le 0x92EC M := by first | assumption | exact Mask.trans (by assumption) rfl) :
    Keeps M s (State.enterPs0 cals u) := by
  unfold State.enterPs0
  dsimp only
  repeat' first | with_reducible exact h | exact id | with_reducible refine State.wakeCore_keeps ?_ | with_reducible refine State.freshEngines_keeps ?_ | with_reducible refine State.enterState_keeps ?_ | with_reducible refine Keeps.ite ?_ ?_ | split | with_reducible refine Keeps.upd ?_ ?_ ?_ ?_ ?_ ?_ ?_ ?_ ?_ ?_ ?_ ?_ ?_ ?_

theorem doPwrTransitionDone_keeps {M : Nat} {p : PwrIn} {s u : State} (h : Keeps M s u)
    (hM : Mask.Le 0x389EFE M := by first | assumption | exact Mask.trans (by assumption) rfl) :
    Keeps M s (doPwrTransitionDone p u) := by
  unfold doPwrTransitionDone
  dsimp only
  repeat' first | with_reducible exact h | with_reducible refine State.enterState_keeps ?_ | with_reducible refine State.enterPs2_keeps ?_ | with_reducible refine State.enterPs3_keeps ?_ | with_reducible refine State.leavePs3_keeps ?_ | with_reducible refine State.trainPorts_keeps ?_ | with_reducible refine State.enterPs0_keeps ?_ | with_reducible refine Keeps.ite ?_ ?_ | split

theorem doThermalResume_keeps {M : Nat} {cals : List CalIn} {s u : State} (h : Keeps M s u)
    (hM : Mask.Le 0x8224 M := by first | assumption | exact Mask.trans (by assumption) rfl) :
    Keeps M s (doThermalResume cals u) := by
  unfold doThermalResume
  dsimp only
  repeat' first | with_reducible exact h | exact id | with_reducible refine State.setFld_keeps ?_ | with_reducible refine State.freshEngines_keeps ?_ | with_reducible refine Keeps.ite ?_ ?_ | split | with_reducible refine Keeps.upd ?_ ?_ ?_ ?_ ?_ ?_ ?_ ?_ ?_ ?_ ?_ ?_ ?_ ?_

theorem State.tamperPhase_keeps {M : Nat} {s u : State} (h : Keeps M s u)
    (hM : Mask.Le 0x10004 M := by first | assumption | exact Mask.trans (by assumption) rfl) :
    Keeps M s (State.tamperPhase u) := by
  unfold State.tamperPhase
  repeat' first | with_reducible exact h | exact id | with_reducible refine State.setFld_keeps ?_ | with_reducible refine Keeps.ite ?_ ?_ | split | with_reducible refine Keeps.upd ?_ ?_ ?_ ?_ ?_ ?_ ?_ ?_ ?_ ?_ ?_ ?_ ?_ ?_

theorem State.loseSealKey_keeps {M : Nat} {s u : State} (h : Keeps M s u)
    (hM : Mask.Le 0x100004 M := by first | assumption | exact Mask.trans (by assumption) rfl) :
    Keeps M s (State.loseSealKey u) := by
  unfold State.loseSealKey
  dsimp only
  repeat' first | with_reducible exact h | exact id | with_reducible refine State.setFld_keeps ?_ | with_reducible refine State.fltLog_keeps ?_ | with_reducible refine State.see_keeps ?_ | with_reducible refine Keeps.upd ?_ ?_ ?_ ?_ ?_ ?_ ?_ ?_ ?_ ?_ ?_ ?_ ?_ ?_

theorem State.zeroise_keeps {M : Nat} {s u : State} (h : Keeps M s u)
    (hM : Mask.Le 0x110004 M := by first | assumption | exact Mask.trans (by assumption) rfl) :
    Keeps M s (State.zeroise u) := by
  unfold State.zeroise
  dsimp only
  repeat' first | with_reducible exact h | exact id | with_reducible refine State.setFld_keeps ?_ | with_reducible refine State.loseSealKey_keeps ?_ | with_reducible refine Keeps.ite ?_ ?_ | split | with_reducible refine Keeps.upd ?_ ?_ ?_ ?_ ?_ ?_ ?_ ?_ ?_ ?_ ?_ ?_ ?_ ?_

theorem doTamperEvent_keeps {M : Nat} {code : ℕ} {active : Bool} {s u : State} (h : Keeps M s u)
    (hM : Mask.Le 0x132004 M := by first | assumption | exact Mask.trans (by assumption) rfl) :
    Keeps M s (doTamperEvent code active u) := by
  unfold doTamperEvent
  dsimp only
  repeat' first | with_reducible exact h | with_reducible refine State.setFld_keeps ?_ | with_reducible refine State.latchCode_keeps ?_ | with_reducible refine State.killKey_keeps ?_ | with_reducible refine State.tamperPhase_keeps ?_ | with_reducible refine State.zeroise_keeps ?_ | with_reducible refine Keeps.ite ?_ ?_ | split

theorem doSecProvBegin_keeps {M : Nat} {draw : ℕ} {attest : Sys2Proof.Bytes} {s u : State} (h : Keeps M s u)
    (hM : Mask.Le 0x10004 M := by first | assumption | exact Mask.trans (by assumption) rfl) :
    Keeps M s (doSecProvBegin draw attest u) := by
  unfold doSecProvBegin
  dsimp only
  repeat' first | with_reducible exact h | exact id | with_reducible refine State.provEnd_keeps ?_ | with_reducible refine State.wrWords_keeps ?_ | with_reducible refine State.setFld_keeps ?_ | with_reducible refine Keeps.ite ?_ ?_ | split | with_reducible refine Keeps.upd ?_ ?_ ?_ ?_ ?_ ?_ ?_ ?_ ?_ ?_ ?_ ?_ ?_ ?_

theorem State.writeKeyBlock_keeps {M : Nat} {bad : NvmBad} {rec_ : Sys2Proof.Bytes} {b : ℕ} {s u : State} (h : Keeps M s u)
    (hM : Mask.Le 0x2006 M := by first | assumption | exact Mask.trans (by assumption) rfl) :
    Keeps M s (State.writeKeyBlock bad rec_ b u).2 := by
  unfold State.writeKeyBlock
  dsimp only
  repeat' first | with_reducible exact h | with_reducible refine State.nvmErase_keeps ?_ | with_reducible refine State.nvmProgram_keeps ?_ | with_reducible refine Keeps.ite ?_ ?_ | split

theorem doSecProvCommit_keeps {M : Nat} {nonce : Sys2Proof.Bytes} {bad : NvmBad} {s u : State} (h : Keeps M s u)
    (hM : Mask.Le 0x12006 M := by first | assumption | exact Mask.trans (by assumption) rfl) :
    Keeps M s (doSecProvCommit nonce bad u) := by
  unfold doSecProvCommit
  dsimp only
  repeat' first | with_reducible exact h | exact id | with_reducible refine State.provEnd_keeps ?_ | with_reducible refine State.writeKeyBlock_keeps ?_ | with_reducible refine State.setFld_keeps ?_ | with_reducible refine Keeps.ite ?_ ?_ | split | with_reducible refine Keeps.upd ?_ ?_ ?_ ?_ ?_ ?_ ?_ ?_ ?_ ?_ ?_ ?_ ?_ ?_ | exact fun _ => rfl

theorem doWinDrained_keeps {M : Nat} {w : ℕ} {s u : State} (h : Keeps M s u)
    (hM : Mask.Le 0x4 M := by first | assumption | exact Mask.trans (by assumption) rfl) :
    Keeps M s (doWinDrained w u) := by
  unfold doWinDrained
  repeat' first | with_reducible exact h | with_reducible refine State.setFld_keeps ?_ | with_reducible refine Keeps.ite ?_ ?_ | split

theorem State.qpCheck_keeps {M : Nat} {q : ℕ} {s u : State} (h : Keeps M s u)
    (hM : Mask.Le 0x20004 M := by first | assumption | exact Mask.trans (by assumption) rfl) :
    Keeps M s (State.qpCheck q u).2 := by
  unfold State.qpCheck
  dsimp only
  repeat' first | with_reducible exact h | with_reducible refine State.dmaCheck_keeps ?_ | with_reducible refine Keeps.ite ?_ ?_ | split

theorem doQpEnable_keeps {M : Nat} {fn : ℕ} {q : ℕ} {v : ℕ} {s u : State} (h : Keeps M s u)
    (hM : Mask.Le 0x120034 M := by first | assumption | exact Mask.trans (by assumption) rfl) :
    Keeps M s (doQpEnable fn q v u) := by
  unfold doQpEnable
  dsimp only
  repeat' first | with_reducible exact h | with_reducible refine State.writeFields_keeps ?_ | with_reducible refine State.qpCheck_keeps ?_ | with_reducible refine State.setFld_keeps ?_ | with_reducible refine State.qpStart_keeps ?_ | with_reducible refine Keeps.ite ?_ ?_ | split

theorem doQpSqTailWrite_keeps {M : Nat} {fn : ℕ} {q : ℕ} {v : ℕ} {s u : State} (h : Keeps M s u)
    (hM : Mask.Le 0x20004 M := by first | assumption | exact Mask.trans (by assumption) rfl) :
    Keeps M s (doQpSqTailWrite fn q v u) := by
  unfold doQpSqTailWrite
  dsimp only
  repeat' first | with_reducible exact h | with_reducible refine State.qpError_keeps ?_ | with_reducible refine State.updQp_keeps ?_ | with_reducible refine State.wr_keeps ?_ | with_reducible refine Keeps.ite ?_ ?_ | split

theorem doQpFolioRelease_keeps {M : Nat} {q : ℕ} {inp : DmaIn} {s u : State} (h : Keeps M s u)
    (hM : Mask.Le 0x420014 M := by first | assumption | exact Mask.trans (by assumption) rfl) :
    Keeps M s (doQpFolioRelease q inp u) := by
  unfold doQpFolioRelease
  dsimp only
  repeat' first | with_reducible exact h | with_reducible exact Keeps.refl _ | with_reducible refine State.complete_keeps ?_ | with_reducible refine State.release_keeps ?_ | with_reducible refine State.sqe_keeps (fun _ _ _ => ?_) ?_ | with_reducible refine Keeps.ite ?_ ?_ | split | dsimp only

theorem doQpFolioRead_keeps {M : Nat} {q : ℕ} {inp : DmaIn} {s u : State} (h : Keeps M s u)
    (hM : Mask.Le 0x420004 M := by first | assumption | exact Mask.trans (by assumption) rfl) :
    Keeps M s (doQpFolioRead q inp u) := by
  unfold doQpFolioRead
  repeat' first | with_reducible exact h | with_reducible exact Keeps.refl _ | with_reducible refine State.sqeRead_keeps ?_ | with_reducible refine State.sqe_keeps (fun _ _ _ => ?_) ?_ | dsimp only

theorem doQpCensusRetry_keeps {M : Nat} {q : ℕ} {inp : DmaIn} {s u : State} (h : Keeps M s u)
    (hM : Mask.Le 0x6A0E36 M := by first | assumption | exact Mask.trans (by assumption) rfl) :
    Keeps M s (doQpCensusRetry q inp u) := by
  unfold doQpCensusRetry
  dsimp only
  repeat' first | with_reducible exact h | with_reducible exact Keeps.refl _ | with_reducible refine State.complete_keeps ?_ | with_reducible refine State.retry_keeps ?_ | with_reducible refine State.sqe_keeps (fun _ _ _ => ?_) ?_ | with_reducible refine Keeps.ite ?_ ?_ | split | dsimp only

theorem doMsixModIntervalEnd_keeps {M : Nat} {fn : ℕ} {vec : ℕ} {s u : State} (h : Keeps M s u)
    (hM : Mask.Le 0x20000 M := by first | assumption | exact Mask.trans (by assumption) rfl) :
    Keeps M s (doMsixModIntervalEnd fn vec u) := by
  unfold doMsixModIntervalEnd
  dsimp only
  repeat' first | with_reducible exact h | exact id | with_reducible refine State.fireMsix_keeps ?_ | with_reducible refine Keeps.ite ?_ ?_ | split | with_reducible refine Keeps.upd ?_ ?_ ?_ ?_ ?_ ?_ ?_ ?_ ?_ ?_ ?_ ?_ ?_ ?_ | exact Sparse.wf_set _ _ _ _ | exact Sparse.wfFrom_filter _ _ _ _

theorem doI3cWake_keeps {M : Nat} {b1 : ℕ} {b2 : ℕ} {s u : State} (h : Keeps M s u)
    (hM : Mask.Le 0x8004 M := by first | assumption | exact Mask.trans (by assumption) rfl) :
    Keeps M s (doI3cWake b1 b2 u) := by
  unfold doI3cWake
  repeat' first | with_reducible exact h | with_reducible refine State.wake_keeps ?_ | with_reducible refine Keeps.ite ?_ ?_ | split

theorem doJtagTapReset_keeps {M : Nat} {s u : State} (h : Keeps M s u)
    (hM : Mask.Le 0x40000 M := by first | assumption | exact Mask.trans (by assumption) rfl) :
    Keeps M s (doJtagTapReset u) := by
  unfold doJtagTapReset
  repeat' first | with_reducible exact h | exact id | with_reducible refine Keeps.upd ?_ ?_ ?_ ?_ ?_ ?_ ?_ ?_ ?_ ?_ ?_ ?_ ?_ ?_

theorem doJtagSamplePreload_keeps {M : Nat} {inputs : List Bool} {cells : List Bool} {s u : State} (h : Keeps M s u)
    (hM : Mask.Le 0x40000 M := by first | assumption | exact Mask.trans (by assumption) rfl) :
    Keeps M s (doJtagSamplePreload inputs cells u) := by
  unfold doJtagSamplePreload
  repeat' first | with_reducible exact h | exact id | with_reducible refine Keeps.upd ?_ ?_ ?_ ?_ ?_ ?_ ?_ ?_ ?_ ?_ ?_ ?_ ?_ ?_

theorem doJtagBypass_keeps {M : Nat} {code : ℕ} {s u : State} (h : Keeps M s u)
    (hM : Mask.Le 0x40000 M := by first | assumption | exact Mask.trans (by assumption) rfl) :
    Keeps M s (doJtagBypass code u) := by
  unfold doJtagBypass
  repeat' first | with_reducible exact h | exact id | with_reducible refine Keeps.upd ?_ ?_ ?_ ?_ ?_ ?_ ?_ ?_ ?_ ?_ ?_ ?_ ?_ ?_

theorem doPowerDown_keeps {M : Nat} {s u : State} (h : Keeps M s u)
    (hM : Mask.Le 0xFFFFFF M := by first | assumption | exact Mask.trans (by assumption) rfl) :
    Keeps M s (doPowerDown u) := by
  unfold doPowerDown
  dsimp only
  repeat' first | with_reducible exact h | exact id | with_reducible refine State.coldReset_keeps ?_ | with_reducible refine Keeps.upd ?_ ?_ ?_ ?_ ?_ ?_ ?_ ?_ ?_ ?_ ?_ ?_ ?_ ?_ | exact fun _ => rfl

theorem doMsixVectorUnmask_keeps {M : Nat} {fn : ℕ} {vec : ℕ} {s u : State} (h : Keeps M s u)
    (hM : Mask.Le 0x20000 M := by first | assumption | exact Mask.trans (by assumption) rfl) :
    Keeps M s (doMsixVectorUnmask fn vec u) := by
  unfold doMsixVectorUnmask
  repeat' first | with_reducible exact h | with_reducible refine State.unmask_keeps ?_

theorem State.draw_keeps {M : Nat} {s u : State} (h : Keeps M s u)
    (hM : Mask.Le 0x2 M := by first | assumption | exact Mask.trans (by assumption) rfl) :
    Keeps M s (State.draw u).2 := by
  unfold State.draw
  dsimp only
  repeat' first | with_reducible exact h | exact id | with_reducible refine Keeps.upd ?_ ?_ ?_ ?_ ?_ ?_ ?_ ?_ ?_ ?_ ?_ ?_ ?_ ?_

end Sys2Proof.Machine
end

