-- ==== Sys2Proof/Machine/Package.lean ====
section
/-!
DEFINITION. The ball map of the package (R481 to R485): which function each of the 5,184 balls carries, by row and column from 1
to 72. Nothing that the part does depends on it.
-/
namespace Sys2Proof.Machine

/-- The rails of Table 19.2. -/
inductive Rail where
  | core | shell | sram | ana | aon | ser | hSer | io18 | vppHbm | vddHbm | vddqHbm
  deriving DecidableEq, Repr

/-- The single CMOS pins of Table 19.5, in its order. -/
inductive CmosPin where
  | resetN | perstN | wakeN | tamperSwN | thermTripN | i3cScl | i3cSda | tck | tms | tdi | tdo | trstN
  | vid (n : Nat)
  | meshAOut | meshAIn | meshBOut | meshBIn
  deriving DecidableEq, Repr

/-- A ball's function (Table 19.2): a pair's ball is given by its lane, whether it transmits, and whether it is the P ball. -/
inductive Ball where
  | spine (port lane : Nat) (tx p : Bool)
  | pcie (lane : Nat) (tx p : Bool)
  | cascade (lane : Nat) (out p : Bool)
  | refClk (p : Bool)
  | cmos (pin : CmosPin)
  | dnc
  | rail (r : Rail)
  | gnd
  deriving DecidableEq, Repr

/-- The groups of Table 19.2. -/
inductive BallGroup where
  | spine | pcie | cascade | refClk | cmos | dnc
  | rail (r : Rail)
  | gnd
  deriving DecidableEq, Repr

/-- The group of a function. -/
def Ball.group : Ball → BallGroup
  | .spine .. => .spine | .pcie .. => .pcie | .cascade .. => .cascade | .refClk _ => .refClk | .cmos _ => .cmos | .dnc => .dnc
  | .rail r => .rail r | .gnd => .gnd

/-- The side of the package whose outer band holds a ball that no corner block claims, with its depth a and its place c along the
edge (Table 19.3): none in the interior. Row bands come first, so that a corner belongs to side 0 or 2. -/
def sideOf (row col : Nat) : Option (Nat × Nat × Nat) :=
  if row ≤ 8 then some (0, row, col)
  else if 65 ≤ row then some (2, 73 - row, col)
  else if 65 ≤ col then some (1, 73 - col, row)
  else if col ≤ 8 then some (3, col, row)
  else none

/-- A pair row of a block (Table 19.4): the lane within the row and whether the ball is the pair's P ball; b from 1 to 8. -/
def pairOf (b : Nat) : Nat × Bool := ((b - 1) / 2, b % 2 == 1)

/-- A ball of a Spine port's block (R482, Table 19.4). -/
def spineBall (p a b : Nat) : Ball :=
  let l := pairOf b
  if a % 2 = 0 then .gnd else .spine p (l.1 + (if a = 3 ∨ a = 7 then 4 else 0)) (decide (a ≤ 3)) l.2

/-- A ball of a PCI Express block: the high block holds lanes 8 to 15. -/
def pcieBall (high : Bool) (a b : Nat) : Ball :=
  let l := pairOf b
  if a % 2 = 0 then .gnd
  else .pcie (l.1 + (if a = 3 ∨ a = 7 then 4 else 0) + (if high then 8 else 0)) (decide (a ≤ 3)) l.2

/-- A ball of the cascade's block, which also holds the reference clock. -/
def cascadeBall (a b : Nat) : Ball :=
  let l := pairOf b
  if a = 1 then .cascade l.1 true l.2 else if a = 3 then .cascade l.1 false l.2
  else if a = 5 ∧ b ≤ 2 then .refClk l.2 else .gnd

/-- The control corner (R483, Table 19.5). -/
def cornerRow : Nat → List Ball
  | 1 => [.cmos .resetN, .cmos .perstN, .cmos .wakeN, .cmos .tamperSwN, .cmos .thermTripN, .cmos .i3cScl, .cmos .i3cSda, .gnd]
  | 2 => [.cmos .tck, .cmos .tms, .cmos .tdi, .cmos .tdo, .cmos .trstN, .gnd, .cmos (.vid 0), .cmos (.vid 1)]
  | 3 => [.cmos (.vid 2), .cmos (.vid 3), .cmos (.vid 4), .cmos (.vid 5), .gnd, .cmos .meshAOut, .cmos .meshAIn, .gnd]
  | 4 => [.cmos .meshBOut, .cmos .meshBIn, .gnd, .dnc, .dnc, .dnc, .dnc, .dnc]
  | 5 => [.dnc, .dnc, .dnc, .gnd, .gnd, .gnd, .gnd, .gnd]
  | 6 => List.replicate 8 (.rail .aon)
  | _ => List.replicate 8 (.rail .io18)

/-- A perimeter ball outside every block (R484). -/
def bandBall (even : Bool) (a : Nat) : Ball :=
  if !even then .gnd else if 7 ≤ a then .rail .hSer else .rail .ser

/-- A ball of the outer band: in a block at its place along the edge, or between the blocks. -/
def edgeBall (even : Bool) (side a c : Nat) : Ball :=
  if side = 0 ∧ c ≤ 8 then (cornerRow a)[c - 1]?.getD .gnd
  else if side = 0 ∧ 65 ≤ c then pcieBall false a (c - 64)
  else if side = 2 ∧ 65 ≤ c then pcieBall true a (c - 64)
  else if side = 2 ∧ c ≤ 8 then cascadeBall a c
  else if (c - 9) % 14 < 8 ∧ (c - 9) / 14 < 4 then spineBall (4 * side + (c - 9) / 14) a ((c - 9) % 14 + 1)
  else bandBall even a

/-- A ball of the interior, rows and columns 9 to 64 (R484). -/
def innerBall (even : Bool) (row col : Nat) : Ball :=
  if col ≤ 16 ∨ 57 ≤ col then
    if !even then .gnd else if row ≤ 12 then .rail .vppHbm else if row ≤ 36 then .rail .vddHbm else .rail .vddqHbm
  else if 33 ≤ row then (if row % 2 = 1 ∧ col % 2 = 1 then .gnd else .rail .core)
  else if !even then .gnd
  else if row ≤ 16 then .rail .shell else if row ≤ 28 then .rail .sram else .rail .ana

/-- The function of the ball at a row and a column, each from 1 to 72 (R481). -/
def ballAt (row col : Nat) : Ball :=
  let even := (row + col) % 2 == 0
  match sideOf row col with
  | some (side, a, c) => edgeBall even side a c
  | none => innerBall even row col

/-- How many of the 5,184 balls belong to a group. -/
def ballCount (g : BallGroup) : Nat :=
  ((List.range 72).map fun r => ((List.range 72).filter fun c => (ballAt (r + 1) (c + 1)).group == g).length).sum

/-- A board may leave the ball unconnected, for a part whose enabled Spine ports are these and that is on a ring or not (R485). DNC
balls must be left so. -/
def Ball.mayFloat (enabled : Nat → Bool) (onRing : Bool) : Ball → Bool
  | .spine p _ _ _ => !enabled p
  | .cascade _ _ _ => !onRing
  | .dnc => true
  | _ => false

end Sys2Proof.Machine
end

