-- ==== Sys2Proof/Tests/Slice0.lean ====
section
/-!
SUPPORT. Own tests: small states, a witness of every hypothesis of the statements, the checks of well-formedness, and published vectors and
worked examples.
-/
namespace Sys2Proof.Tests

open Sys2Proof.Machine

/-! ### States for the tests and the witnesses -/

/-- A state with some register fields set. -/
def put (l : List (Fld × Nat)) (s : State) : State := l.foldl (fun s x => s.setFld x.1 x.2) s

/-- A part that has started: READY, with the host link up. -/
def up : State := put [(F.SHL_BOOT_STATUS_STEP, 15), (F.SHL_BOOT_STATUS_READY, 1)] State.reset

/-- A part whose gathering is sealed. -/
def sealedUp : State := { up with dkl := { up.dkl with gather := .sealed, lastSeal := some 0 } }

/-- A part whose drain starts at tick 20, with an AMA command running in quire 2. -/
def drainUp : State :=
  { up with
    dkl := { up.dkl with gather := .pending, lastSeal := some 0, beginAt := some 20 }
    ama := up.ama.setUpd 2 (some { op := 1, bank := 3, entry := [], plan := [], suspended := false }) }

/-- A small binding: one profile for every tenant, a region of each kind, no tables. -/
def smallBinding : Binding :=
  { digest := zeros 48
    manifest := { abiMin := 0, abiMax := 65535, steppings := 3, profiles := 1, declaredIn := 4000, declaredOut := 800, provenIn := 100,
                  provenOut := 50, cmapId := 0, snapBytes := 256, stateFormat := 0, iddel := 0 }
    regions := [{ kind := 1, index := 0, pFirst := 0, pCount := 0, base := 0, size := 4194304 },
      { kind := 2, index := 1, pFirst := 0, pCount := 0, base := 4194304, size := 4194304 },
      { kind := 3, index := 2, pFirst := 0, pCount := 0, base := 8388608, size := 4194304 },
      { kind := 4, index := 3, pFirst := 0, pCount := 0, base := 12582912, size := 4194304 }]
    profiles := [{ num := 0, inQuires := 1, outQuires := 1, inPath := 100, outPath := 50, inCls := 0, outCls := 0, inEns := 0, outEns := 0,
                   inCost := [10, 0, 0, 0], outCost := [0, 0, 0, 0, 10] }]
    tenantMap := [], quires := [], tables := [], banks := [], entries := [] }

/-- A part with that binding in force and a sealed gathering. -/
def boundUp : State := { sealedUp with bnd := { sealedUp.bnd with cur := some smallBinding } }

/-- A part whose open window began at tick `t`. -/
def openUp (t : Nat) : State := { up with dkl := { up.dkl with openFrom := t, noLimit := false } }

/-- A part in SEALING: after a window without limit or not, by the timer or not. -/
def sealingUp (noLimit timer : Bool) : State :=
  { up with dkl := { up.dkl with gather := .sealing, noLimit := noLimit, sealTimer := timer } }

/-- A sealed gathering, GATEWAY partner 3 at (1, 0), DECODE partner 4 at (2, 0), folio 7 in this state, and these items admitted. -/
def streamUp (st : FState) (items : List Item) : State :=
  { boundUp with
    parts := { boundUp.parts with table :=
      [(3, { Partner.blank with state := .attached, kind := .gateway, at_ := { port := 1, ep := 0 } }),
       (4, { Partner.blank with state := .attached, kind := .decode, at_ := { port := 2, ep := 0 } })] }
    ldg := { boundUp.ldg with
      fresh := 8
      folios := [(7, { Folio.blank with state := st, gw := 3, dec := 4, pf := noPartner, ft := noPartner, relSeq := 5, promptLen := 64 })] }
    adm := { boundUp.adm with live := items } }

/-- An item of folio 7 that waits at the gate for tick 500. -/
def gateItem7 (c : Chan) (k : ItemKind) (r : Option Outcome1) : Item :=
  { Item.fresh 11 7 0 0 c k 100 with phase := .admitted, slot := false, admNo := 9, tAdm := 300, tRel := 500, result := r }

/-- A block that was computed in time, and one output item that was not. -/
def passItem : Item := { gateItem7 .inp (.block 2) (some .pass) with doneAt := some 400 }
def lateItem : Item := gateItem7 .outp .cand none
def doneItem : Item := gateItem7 .inp (.block 2) (some .pass)
def gatePass : State := streamUp .screenIn [passItem]
def gateLate : State := streamUp .generating [lateItem]
def gateDone : State := streamUp .screenIn [doneItem]
def gateDrain : State :=
  let s := streamUp .generating [{ lateItem with late := true }]
  { s with dkl := { s.dkl with gather := .draining, beginAt := some 600 } }

/-- A block of folio 7 that waits in the input queue, and the part that admits it. -/
def queuedBlock : Item := { Item.fresh 12 7 0 0 .inp (.block 0) 100 with phase := .queued, tokens := [1, 2, 3] }
def admitUp : State :=
  let s := put [(F.DKL_DELAY_IN_DELAY, 400), (F.DKL_DELAY_OUT_DELAY, 80)] (streamUp .admitting [])
  { s with adm := { s.adm with queue := [queuedBlock] } }

/-- A balancer that counts at every 100 us and wants at least n output groups. -/
def balUp (n : Nat) : State :=
  put [(F.ADM_BAL_CTRL_ENABLE, 1), (F.ADM_BAL_CTRL_PERIOD_US, 100), (F.ADM_BAL_CTRL_CONFIRM, 1), (F.ADM_BAL_LIMIT_MIN_OUT, n),
    (F.ADM_BAL_LIMIT_MAX_OUT, 56), (F.DKL_DELAY_IN_DELAY, 4000), (F.DKL_DELAY_OUT_DELAY, 800)] boundUp

/-- Group 5 of quire 3 is fenced, toward output, with work booked. -/
def fencedUp : State :=
  let s := balUp 16
  { s with adm := { (s.adm.setB 3 .inp .twe 100).setB 3 .outp .amt 50 with fence := some (3, 5, true) } }

/-- Ports 1 to 4 are UP: GATEWAY partner 3, DECODE partner 4, PREFILL partner 5 and FAR_TIER partner 6, each behind one of them; folio 7
has all four, is in this state and holds these pages. -/
def msgUp (st : FState) (pages : List Page) (items : List Item) : State :=
  let s := put [(F.SPN_PORT_STATUS_STATE 1, 3), (F.SPN_PORT_STATUS_STATE 2, 3), (F.SPN_PORT_STATUS_STATE 3, 3),
    (F.SPN_PORT_STATUS_STATE 4, 3), (F.ADM_CHAN_IN_TENANT_CAP, 1000), (F.ADM_CHAN_OUT_TENANT_CAP, 1000)] (streamUp st items)
  { s with
    parts := { s.parts with table := s.parts.table ++
      [(5, { Partner.blank with state := .attached, kind := .prefill, at_ := { port := 3, ep := 0 },
                                caps := { Partner.blank.caps with pageKib := 4 } }),
       (6, { Partner.blank with state := .attached, kind := .farTier, at_ := { port := 4, ep := 0 } })] }
    ldg := { s.ldg with folios := [(7, { s.folio 7 with pf := 5, ft := 6, pages := pages, pageKib := 4,
                                                        gateOpen := st == .hold || st == .generating || st == .paused })] } }

/-- A message's header: this port, endpoint 0, TAG 77. -/
def hdOn (p : Fin 16) : Hdr := { port := p, ep := 0, tag := 77 }

/-- The handle of folio 7. -/
def h7 : Handle := { folio := 7, gen := 0 }

/-- A REQ_OPEN that is in order, and one for an unknown tenant. -/
def openReq : OpenReq :=
  { gwHandle := 99, tenant := 5, pf := 5, dec := 4, maxOut := 16, seed := 1, deadlineRel := 0, priority := 0, select := 0 }
def badReq : OpenReq := { openReq with tenant := 2000 }

/-- Folio 7 generates, one item of it is admitted, and its GATEWAY partner or the host has asked for its cancel. -/
def cancelUp (b : CancelBy) : State :=
  let s := msgUp .generating [] [lateItem]
  { s with ldg := { s.ldg with cancels := [{ folio := 7, gen := 0, at_ := 0, by_ := b }] } }

/-- A page in the hold area, one that was forwarded, and one on the far tier. -/
def heldPage : Page := { no := 0, loc := .held, addr := 2048, data := [1, 2], holds := true, sent := false, asked := none, tag := 0, farCopy := none }
def fwdPage : Page := { heldPage with loc := .fwd, addr := 0, sent := true }
def farPage : Page := { heldPage with no := 1, loc := .far, addr := 4242, data := [], holds := false }

/-- Folio 7 is PAUSED until tick 10^12. -/
def pausedUp (pages : List Page) : State :=
  let s := msgUp .paused pages []
  { s with ldg := { s.ldg with folios := [(7, { s.folio 7 with dec := noPartner, tExpire := 10 ^ 12, ttlS := 1 })] } }

/-- Folio 7 pauses: its DECODE partner has been asked for its pages and has returned this many. -/
def evictUp (pages : List Page) (returned : Nat) : State :=
  let s := msgUp .generating pages []
  { s with
    ldg := { s.ldg with folios := [(7, { s.folio 7 with pauseReq := true, pfDone := true, ttlS := 60 })] }
    parts := { s.parts with evicts := [{ folio := 7, since := 0, returned := returned, ended := false }] } }

/-- A returned page whose store is under way, and a far page that is being fetched. -/
def askedPage : Page := { heldPage with asked := some 100, tag := 77 }
def fetchPage : Page := { farPage with asked := some 100, tag := 77 }

/-- Folio 7 resumes toward DECODE partner 4; and a part that waits for one FT_FREE_ACK. -/
def resumingUp (pages : List Page) : State :=
  let s := pausedUp pages
  { s with ldg := { s.ldg with folios := [(7, { s.folio 7 with dec := 4, resumeReq := true, tExpire := 0 })] } }
def freeingUp : State :=
  let s := pausedUp []
  { s with parts := { s.parts with frees := [{ partner := 6, tag := 77, handle := 4242, since := 100 }] } }

/-- A CAND_LIST body of folio 7 for this position with two candidates, and its SPECULATIVE bit. -/
def candBody (pos : Nat) (spec : Nat) : Bytes :=
  le 2 7 ++ le 1 0 ++ le 1 spec ++ le 4 pos ++ le 1 2 ++ zeros 7 ++ le 4 11 ++ le 2 0x3F80 ++ le 2 0 ++ le 4 12 ++ le 2 0x4000 ++ le 2 0

/-- A cache with one entry of tenant 5 and one of tenant 6, both of epoch 0, and a sweep of tenant 5 begun at tick 500. -/
def entryOf (tenant : Nat) : PvcEnt := { PvcEnt.blank with valid := true, tenant := tenant, blocked := true }
def sweepUp : State :=
  let s := put [(F.PVC_CMD_RESULT_BUSY, 1)] boundUp
  { s with pvc := { s.pvc with ents := [(80, entryOf 5), (81, entryOf 6)], epochPend := [(500, some 5)], sweep := some (some 5) } }

/-- Item 11 copies from entry 80. -/
def copyUp : State :=
  let s := streamUp .screenIn [{ passItem with copying := true, doneAt := none }]
  { s with pvc := { s.pvc with ents := [(80, entryOf 5), (81, entryOf 6)], pins := [(80, 11)] } }

/-- The small binding with two tables: table 0 holds bank 3, table 1 is cascaded and holds bank 35, both of one unit. -/
def amaBinding : Binding :=
  { smallBinding with
    tables := [(0, { defined := true, mask := false, cascade := false, width := 0, banks := 1 }),
               (1, { defined := true, mask := false, cascade := true, width := 0, banks := 1 })]
    banks := [(3, { table := 0, inTable := true, order := 0, gutter := 0 }), (35, { table := 1, inTable := true, order := 0, gutter := 0 })] }

/-- A position that holds this unit, valid. -/
def slotOf (u : Unit3) : AmaSlot := { AmaSlot.blank with units := [u], cells := [(u.value, u.care)], valid := true }

/-- A part with those tables: bank 3 holds two entries, at positions 4 and 5. -/
def amaUp : State :=
  { boundUp with
    bnd := { boundUp.bnd with cur := some amaBinding }
    ama := { boundUp.ama with slots := [(slotKey 3 4, slotOf { value := 1, care := 3, tag := 7 }), (slotKey 3 5, slotOf { value := 2, care := 3, tag := 8 })] } }

/-- A command of quire 0 on bank 3 runs, with this plan. -/
def updUp (plan : List AmaMicro) : State :=
  let s := put [(F.QUIRE_AMA_UPD_RESULT_BUSY 0, 1)] amaUp
  { s with ama := s.ama.setUpd 0 (some { op := 1, bank := 3, entry := [{ value := 5, care := 7, tag := 9 }], plan := plan, suspended := false }) }

/-- An input item of folio 7, block 1, with two tokens, that searches at this table index. -/
def srchItem (tab : Nat) : Item :=
  { gateItem7 .inp (.block 1) none with tokens := [1, 2], srchTab := tab, costs := [(.ama, 20)] }

/-- Those tables, that item at its search, and a ring of two chips in this state, this chip at position 1. -/
def ringUp (st tab : Nat) (casc : Casc → Casc) : State :=
  let s := put [(F.SHL_CASCADE_STATUS_STATE, st)] amaUp
  let m := msgUp .screenIn [] [srchItem tab]
  { s with
    adm := m.adm, parts := m.parts
    ldg := { m.ldg with runs := [(7, { FRun.zero with prompt := [1, 2] })] }
    casc := casc { s.casc with joined := true, n := 2, pos := 1 } }

/-- A SEARCH frame of another chip for a table that is not here, and this chip's own search on the ring. -/
def otherFrame : CFrame := { CFrame.empty 2 with type := 1, table := 9 }
def ownSearch : CSearch := { searchId := 5, item := 11, slot := 3, frame := { CFrame.empty 3 with type := 1, table := 9, searchId := 5 } }

/-- A model of one tree (node 0 compares feature 1 with split word 0, which is 10; nodes 1 and 2 are the leaves 5 and −3) in an
ensemble of two, and one classifier of one layer with no weight but the bias 40. -/
def treeSlot : SlotDesc :=
  { num := 0, cls := 1, region := 0, memOff := 0, memBytes := 4096, env1 := 0, env2 := 0, aFirst := 0, aCount := 2, bFirst := 0, bCount := 1,
    cFirst := 0, cCount := 1, dFirst := 0, dCount := 0, raw := [] }
def clsSlot : SlotDesc := { treeSlot with num := 1, cls := 2, memOff := 4096, aCount := 1, bCount := 1, cCount := 0 }
def treeMem : SlotMem :=
  { digest := zeros 48
    body := { cls := 1, slotDigest := zeros 48, memBytes := 4096
              recsA := [le 8 (1 * 2 ^ 32), le 8 (1 * 2 ^ 32)]
              recsB := [le 8 0 ++ le 8 1 ++ le 2 0 ++ le 2 2 ++ le 1 32 ++ le 1 2 ++ zeros 10]
              recsC := [le 8 10], recsD := []
              image := le 8 (1 * 2 ^ 52 + 1) ++ le 8 (2 ^ 33 + 5) ++ le 8 (2 ^ 33 + 0xFFFFFFFD) } }
def clsMem : SlotMem :=
  { digest := zeros 48
    body := { cls := 2, slotDigest := zeros 48, memBytes := 4096
              recsA := [le 2 0 ++ le 1 1 ++ le 1 0 ++ le 2 1 ++ le 1 0 ++ le 1 0 ++ le 4 4096 ++ le 2 0 ++ zeros 2]
              recsB := [le 4 4100 ++ le 4 4104 ++ le 4 4108 ++ le 2 1 ++ le 2 1 ++ le 4 0 ++ le 1 9 ++ le 1 0 ++ le 2 0 ++ zeros 8]
              recsC := [], recsD := [le 2 0 ++ zeros 2 ++ le 4 1000]
              image := zeros 8 ++ le 4 40 ++ le 4 0 } }
def smallModel : QModel :=
  { cfg := { slots := [treeSlot, clsSlot], features := [], witness := [] }, mem := [some treeMem, some clsMem] }

/-- Item 11 of folio 7 on quire 0, with that model there and its searches not over. -/
def engItem (cls : List ClsRun) (fetched : Bool) : Item :=
  { gateItem7 .inp (.block 1) none with
    tokens := [1, 2], cls := cls, fetched := fetched, fv := some [(1, some 7)],
    accs := [Acc.start 0 (EnsDesc.mk 0 1 0 2 32 false true false)] }
def engUp (i : Item) (e : Eng → Eng) : State :=
  let s := streamUp .screenIn [i]
  { s with
    bnd := { s.bnd with models := [smallModel], cur := some { smallBinding with profiles := smallBinding.profiles.map fun p => { p with inCls := 1 } } }
    ldg := { s.ldg with runs := [(7, { FRun.zero with prompt := [1, 2] })] }
    eng := e s.eng }
def sampleAt (node level : Nat) : Sample :=
  { item := 11, quire := 0, twe := 3, ens := 0, tree := 0, started := true, node := node, level := level }
def runCls (st : ClsStatus) : ClsRun := { num := 0, x := [3], status := st, scores := [], est := [(45, some 10)] }

/-- Tile 0 of quire 0 runs a pass of item 11's row, with a calibration. -/
def passTile (e : Eng) : Eng :=
  { e with tiles := [(0, { Tile.blank with
      rows := [{ item := 11, cls := 0, x := [3], at_ := 100 }], running := true, valid := true
      cal := List.replicate 9 { gain := 16384, offset := 0, eps16 := 4 } })] }

/-- A part whose tile 5 of quire 2 is like this; and a row. -/
def calUp (g : Tile → Tile) : State := { boundUp with eng := { boundUp.eng with tiles := [(69, g { Tile.blank with cal := [] , calAt := 1 })] } }
def calRow : TRow := { item := 11, cls := 0, x := [3], at_ := 100 }

/-- Port 9 in this state with ENABLE as given, and its link like this. -/
def portIn (st en : Nat) (g : Port → Port) : State :=
  let s := put [(F.SPN_PORT_STATUS_STATE 9, st), (F.SPN_PORT_CTRL_ENABLE 9, en)] (msgUp .screenIn [] [])
  { s with ports := [(9, g { Port.blank with t0 := 100, downAt := 100, retrainAt := 100 })] }

/-- A flit with its CRC; a DATA flit of channel 0 with this SEQ and an empty payload; a flit of the sender. -/
def flitOf (bs : Bytes) : Bytes := bs ++ le 4 (crc32 bs)
def dataFlitOf (seq : Nat) : Bytes := flitOf ([1, 0] ++ le 2 seq ++ zeros 248)
def oneFlit : TxFlit := { seq := 0, vc := 0, ep := 0, msg := 0, idx := 0, page := 0, payload := [1] }

/-- An attach of this kind under way at port 1, endpoint 2; CAPS that suit a GATEWAY; and GATEWAY partner 3 CLOSING. -/
def attachUp (k : PKind) : State :=
  let s := msgUp .screenIn [] []
  { s with parts := { s.parts with attaches := [{ at_ := { port := 1, ep := 2 }, kind := k, unitId := zeros 16, since := 100 }] } }
def gwCaps : Caps := { flags := 0, pageKib := 0, maxCand := 64, maxStreams := 0, ftPages := 0, maxBody := 1024 }
def closingUp : State :=
  let s := msgUp .screenIn [] []
  { s with parts := s.parts.put 3 { s.partner 3 with state := .closing } }

/-- ROSTERs are due after ticks 100 and 110; DECODE partner 4 cools since 100 and folio 7 in HOLD is due for its orphaning. -/
def rosterUp : State :=
  let s := msgUp .screenIn [] []
  { s with parts := { s.parts with rosterAfter := [100, 110] } }
def coolUp : State :=
  let s := msgUp .hold [] []
  { s with parts := { s.parts.put 4 { s.partner 4 with state := .cooling, lostAt := 100 } with orphanAt := [(110, 7, 0)] } }

/-- A chain of one part 0 and n CANCEL Colophons after it, with the key there and this signature pending. -/
def cancelCol1 : Col :=
  { tick := 100, rank := rankCancel, sub := 0, status := 0x26, flags := 0, gather := 0, handle := 7, tenant := 0,
    body := .cancel 0 0 0 0 1 0 0 0 0 0 }
def sealUp (n : Nat) (sig : Option Nat) : State :=
  let s := put [(F.COL_STATUS_KEY_OK, 1)] (msgUp .screenIn [] [])
  { s with
    chain := List.replicate n cancelCol1 ++ [{ cancelCol1 with rank := rankSeal0, body := .seal0 1 0 1 0 0 [] }]
    col := { s.col with startAt := 50, pendingSig := sig } }

/-- That chain with pushing on: a ring of 2^5 entries in DMA window 5, which the PF owns and which takes 4 KiB of device writes. -/
def pushUp (n : Nat) : State :=
  put [(F.COL_CTRL_PUSH_ENABLE, 1), (F.COL_CTRL_PUSH_LOG2, 5), (F.COL_CTRL_PUSH_WINDOW, 5), (F.HIF_WIN_CTRL_ENABLE 5, 1),
    (F.HIF_WIN_CTRL_DEV_WRITE 5, 1), (F.HIF_WIN_CTRL_DEV_READ 5, 1)] ((sealUp n none).wr (R.HIF_WIN_SIZE_LO 5) 8192)

/-- A part in its first open window with the small binding staged, DMA window 5 open, and this command running. -/
def bindUp (op : Option BindOp) : State :=
  let s := put [(F.HIF_WIN_CTRL_ENABLE 5, 1), (F.HIF_WIN_CTRL_DEV_READ 5, 1), (F.SHL_CAT_SIZE_GIB, 4)] (up.wr (R.HIF_WIN_SIZE_LO 5) 8192)
  { s with bnd := { s.bnd with staged := some smallBinding, op := op } }

/-- A part that restores quire 0, with bank 3 in the save area. -/
def restoreUp : State :=
  { amaUp with
    bnd := { amaUp.bnd with restoring := [0], models := List.replicate 8 smallModel }
    ama := { amaUp.ama with saves := [{ bank := 3, slots := [(9, slotOf { value := 1, care := 3, tag := 7 })], failed := true, journal := none }] } }

/-- Folio 7 is FAULTED over a tile's fault in GENERATING with one item held; its census entry, settled or not; and its GATEWAY partner has
attached again since. -/
def censOf (settled : Bool) : Census :=
  { state := 1, prior := .generating, block := 2, quire := 0, engine := 3, status := 0x42, itemKind := 2, unreleased := 1, damaged := false,
    multi := false, settled := settled, further := 0, step := 0, relSeq := 5, tFault := 100 }
def faultedUp (settled : Bool) : State :=
  let s := msgUp .generating [fwdPage] [{ lateItem with phase := .held }]
  { s with ldg := { s.ldg with
      folios := [(7, { s.folio 7 with state := .faulted, census := 1, censusStep := 0 })]
      runs := [(7, { FRun.zero with cens := some (censOf settled) })] } }
def lostUp : State :=
  let s := faultedUp true
  { s with parts := s.parts.put 3 { s.partner 3 with tAttach := 200 } }

/-- A part with DMA window 5 open both ways, one programmed page in the user area, and this NVM command running. -/
def nvmUp (op : Option NvmOp) : State :=
  let s := put [(F.HIF_WIN_CTRL_ENABLE 5, 1), (F.HIF_WIN_CTRL_DEV_READ 5, 1), (F.HIF_WIN_CTRL_DEV_WRITE 5, 1)] (up.wr (R.HIF_WIN_SIZE_LO 5) 8192)
  { s with nvm := { s.nvm with pages := [(352 * 256 + 9, padTo 256 [7])], op := op } }
def nvmJob (op len : Nat) : NvmOp := { op := op, addr := 352 * 65536, len := len, win := 5, host := 0 }

/-- A PROGRAM of 512 bytes at the start of the user area is set up. -/
def progUp : State := ((nvmUp none).wr R.NVM_ADDR (352 * 65536)).wr R.NVM_LEN 512

/-- A part with DMA window 5 open, 128 KiB of it, and the update in this phase with the store's journal at chunk 1. -/
def epdUp (phase : Nat) (op : Option EpdOp) : State :=
  let s := put [(F.HIF_WIN_CTRL_ENABLE 5, 1), (F.HIF_WIN_CTRL_DEV_READ 5, 1), (F.EPD_STATE_PHASE, phase)] (up.wr (R.HIF_WIN_SIZE_LO 5) 262144)
  { s with epd := { s.epd with journal := { seq := 3, phase := phase, digest := zeros 48, cursor := 1 }, op := op } }

/-- A chunk 0 of an image of three chunks, as far as the loop of R412 looks at it. -/
def image3 : Bytes := zeros 10 ++ le 2 3 ++ zeros 4

/-- A part whose new firmware waits for the open window, and one in the handover, with a seal that waits for its end or not. -/
def handUp (w : Option Bool) : State :=
  let s := epdUp 6 none
  { s with epd := { s.epd with handover := some 0, sealWait := w, bank1 := { s.epd.bank1 with version := 12, bundleTag := 5, qsvTag := 5 } } }

/-- A part in operation with a key and a chain, and one whose power is off. -/
def keyUp : State :=
  let s := sealUp 3 none
  { s with now := 900, sec := { s.sec with key := some 5 } }
def darkUp : State := { State.reset with pins := { State.reset.pins with powered := false } }

/-- A cold start that finds a store without firmware, and one that finds a broken stack. -/
def coldIn : ColdIn :=
  { endpaperOk := true, sensors := 0, selfTestOk := true, stack0 := 2, stack1 := 2, trainOk := true, journalTorn := false,
    auditUpset := false, fuseTo := none, chainId := 7, cals := [], speed := 5, width := 16 }

/-- What a warm start brings, and parts before it: one in lockdown; one in operation whose folio 7 has an item in flight. -/
def warmIn : WarmIn := { tLoad := 2000, tEnd := 9000, tSign := 3000, r := 1, sg := 1, badJournals := [], switched := true, cals := [] }
def lockedUp : State := put [(F.SEC_STATE_MODE, 1), (F.HIF_INT_ENABLE_ENABLE, 5), (F.HIF_EVENT_BOOT_READY, 1)] keyUp
def flightUp : State := put [(F.EPD_STATE_PHASE, 5)] (msgUp .generating [fwdPage] [{ lateItem with folio := 7 }])

/-- A part on its way between power states: it shows this one, and goes to that one. -/
def pwrUp (cur target : Nat) : State :=
  let s := put [(F.PWR_STATE_CURRENT, cur), (F.PWR_STATE_BUSY, 1)] (sealUp 3 none)
  { s with pwr := { s.pwr with target := target, stopFrom := some 10, waking := cur == 1 } }

/-- A part in a thermal stop since tick 10 that reads cool since then; and what a transition brings. -/
def hotUp : State :=
  let s := put [(F.PWR_STATE_THERM_STOP, 1)] (msgUp .screenIn [] [])
  { s with pwr := { s.pwr with thermFrom := some 10, coolFrom := some 10 } }
def pwrIn : PwrIn := { cals := [], speed := 5, width := 16 }

/-- That part after a tamper event, with its lockdown due; and one in lockdown for want of a key record, with a new key drawn or not. -/
def tamperedUp : State :=
  let s := msgUp .generating [fwdPage] [lateItem]
  { s with sec := { s.sec with tamper := true, lockAt := 510 } }
def provUp (k : Option (Nat × Bytes × Nat)) : State :=
  let s := put [(F.SHL_BOOT_STATUS_STEP, 8), (F.SHL_BOOT_STATUS_HALTED, 1), (F.SEC_STATE_MODE, if k.isSome then 2 else 1),
    (F.SEC_STATE_LOCK_CODE, 0x82)] State.reset
  { s with sec := { s.sec with newKey := k } }

/-- DMA windows: window 5 of the PF enabled and not busy, window 6 of VF 3 closed, with a SIZE; and queue pair 4 of VF 3 on window 6. -/
def winUp : State :=
  put [(F.HIF_WIN_CTRL_OWNER 6, 3), (F.HIF_QP_CTRL_OWNER 4, 3), (F.HIF_QP_CTRL_WINDOW 4, 6)] ((nvmUp none).wr (R.HIF_WIN_SIZE_LO 6) 65536)

/-- Queue pair 2 of the PF on window 5, enabled, with rings of 16 entries at 0 and 4,096 and one entry waiting; its interrupt on vector 9. -/
def qpUp : State :=
  let s := put [(F.HIF_QP_CTRL_ENABLE 2, 1), (F.HIF_QP_CTRL_IRQ_EN 2, 1), (F.HIF_QP_CTRL_WINDOW 2, 5), (F.HIF_QP_CTRL_SQ_LOG2 2, 4),
    (F.HIF_QP_CTRL_CQ_LOG2 2, 4), (F.HIF_QP_STATUS_ACTIVE 2, 1), (F.HIF_QP_VECTOR_VECTOR 2, 9)]
    (((msgUp .generating [] []).wr (R.HIF_WIN_SIZE_LO 5) 8192).wr (R.HIF_QP_CQ_BASE_LO 2) 4096)
  let s := put [(F.HIF_WIN_CTRL_ENABLE 5, 1), (F.HIF_WIN_CTRL_DEV_READ 5, 1), (F.HIF_WIN_CTRL_DEV_WRITE 5, 1)] s
  { s with hif := { s.hif with qps := [(2, { Qp.zero with sqTail := 1 })], msix := [(9, { MsixEnt.reset with masked := false, addr := 4096, data := 7 })] } }

/-- A submission entry: opcode, command number, handle, offset. -/
def sqeOf (op cid handle off : Nat) : Bytes := le 1 op ++ zeros 1 ++ le 2 cid ++ zeros 4 ++ le 4 handle ++ zeros 4 ++ le 8 off ++ zeros 40

/-! ### Witnesses: states and operands that meet the hypotheses of the statements -/

theorem wit_StepRunsFront : State.reset.pending = [] ∧ State.reset.parts.waiting = [] := by decide

theorem wit_StepKeepsQueue : goesOn (step { up with pending := [.powerDown 5] }) = true ∧
    ({ up with pending := [.powerDown 5] }).queueOk = true := by decide

theorem wit_AccessCodes : ({ hi := 3, lo := 2, acc := .w1c, chk := .any } : FieldInfo).lo ≤
    ({ hi := 3, lo := 2, acc := .w1c, chk := .any } : FieldInfo).hi := by decide

theorem wit_StepKeepsCanon : (∃ s u : State, s.Canon ∧ step s = .next u ∧ s.pending ≠ []) :=
  ⟨{ State.reset with pending := [.powerDown 5] }, _, ⟨by decide, by decide, by decide, by decide, by decide, by decide, by decide, by decide,
    by decide, by decide, by decide⟩, rfl, by decide⟩

/-- One Colophon of tick 40 for a withheld item. -/
def anItemCol : Col :=
  { tick := 40, rank := rankItem, sub := 1, status := 0x28, flags := 4, gather := 1, handle := 7, tenant := 0,
    body := .seal1 0 [] [] }
set_option maxRecDepth 20000 in
theorem wit_StepKeepsChainOrder : chainOrdered ({ gateLate with chain := [anItemCol] }).chain = true ∧
    goesOn (step { gateLate with chain := [anItemCol], pending := [.gateRelease 500 false] }) = true := by decide

theorem wit_StepKeepsGateRoom : (∃ s u : State, GateRoom s.dkl.booked ∧ step s = .next u ∧ s.pending ≠ []) :=
  ⟨{ State.reset with pending := [.powerDown 5] }, _, fun t => by simp [State.reset, Dkl.cold, Sparse.get], rfl, by decide⟩

theorem wit_Unattached : attachedOnly (Instr.reqEnd 1000 { hdOn 1 with ep := 9 } h7) = some (1000, { hdOn 1 with ep := 9 }) ∧
    (msgUp .hold [] []).portUp ({ hdOn 1 with ep := 9 } : Hdr).port.val = true ∧
    (msgUp .hold [] []).sender ({ hdOn 1 with ep := 9 } : Hdr).src = none := by decide

theorem wit_RefClock_live : up.liveUp = true := by decide
theorem wit_RefClock_host : up.hostUp 0 = true := by decide

theorem wit_MarginEval : up.coreUp = true ∧ up.dkl.lastEval = none := by decide

theorem wit_Gathering_begin : sealedUp.hostUp 0 = true := by decide
theorem wit_Gathering_drain : drainUp.coreUp = true ∧ drainUp.dkl.beginAt = some 20 ∧ drainUp.dkl.gather = GState.pending ∧
    20 ≤ (drainUp.at_ 20).tick := by decide
theorem wit_Gathering_quiet : ({ drainUp with dkl := { drainUp.dkl with gather := GState.draining } } : State).coreUp = true ∧
    (({ drainUp with dkl := { drainUp.dkl with gather := GState.draining } } : State).at_ 20).drainEnd ≤ 20 ∧ drainUp.adm.live.all (fun i => i.phase != .admitted) = true := by decide

theorem wit_Sealing_seal : up.hostUp 0 = true ∧ up.lockdown = false ∧ up.fld F.DKL_GATHER_ID_ID ≠ 0xFFFFFFFF ∧
    up.dkl.gather = GState.openW ∧ sealedUp.hostUp 0 = true ∧ sealedUp.dkl.gather ≠ GState.openW := by decide
theorem wit_Sealing_limit : (openUp 0).coreUp = true ∧ (openUp 0).dkl.gather = GState.openW ∧ (openUp 0).dkl.noLimit = false ∧
    (openUp 0).fld F.DKL_GATHER_ID_ID ≠ 0xFFFFFFFF ∧
    (openUp 0).dkl.openFrom + 1000 * (openUp 0).fld F.DKL_OPEN_LIMIT_LIMIT_US ≤ ((openUp 0).at_ 60000000).now ∧ (openUp 0).epd.handover = none := by decide
theorem wit_Sealing_switch : (sealingUp false false).coreUp = true ∧ (sealingUp false false).dkl.gather = GState.sealing ∧
    (sealingUp false false).fld F.DKL_GATHER_ID_ID ≠ 0xFFFFFFFF ∧ (sealingUp false false).dkl.noLimit = false := by decide
theorem wit_Sealing_stays : (sealingUp true false).coreUp = true ∧ (sealingUp true false).dkl.gather = GState.sealing ∧
    (sealingUp true false).dkl.sealTimer = false ∧ (sealingUp true false).sealOk = false ∧ (sealingUp true false).dkl.noLimit = true := by decide

theorem wit_Gate_onTime : gatePass.coreUp = true ∧
    gatePass.adm.live.find? (gatePass.at_ 500).gateDue = some passItem ∧ passItem.doneBy passItem.tRel = true ∧
    (gatePass.at_ 500).behind passItem = false ∧ (gatePass.frun 7).endBlock ≠ some 2 ∧ (gatePass.folio 7).misses passItem = false ∧
    (gatePass.partner (gatePass.folio 7).gw).state = PState.attached := by decide
theorem wit_Gate_late : gateLate.coreUp = true ∧ gateLate.adm.live.find? (gateLate.at_ 500).gateDue = some lateItem ∧
    lateItem.doneBy lateItem.tRel = false ∧ (gateLate.at_ 500).behind lateItem = false ∧ (gateLate.folio 7).misses lateItem = false ∧
    (gateLate.folio 7).pauseReq = false ∧ (gateLate.folio 7).withheld + 1 < gateLate.fld F.DKL_LATE_LIMIT_LIMIT := by decide
theorem wit_Gate_done : gateDone.coreUp = true ∧ gateDone.item? 11 = some doneItem ∧ doneItem.result.isSome = true ∧ doneItem.doneAt = none := by
  decide
theorem wit_Gate_drain : gateDrain.coreUp = true ∧ (gateDrain.at_ 600).tick = (gateDrain.at_ 600).drainEnd ∧
    gateDrain.adm.live = [{ lateItem with late := true }] ∧ lateItem.doneBy 600 = false ∧ (gateDrain.folio 7).misses { lateItem with late := true } = false := by decide

theorem wit_Admission : admitUp.coreUp = true ∧ (admitUp.at_ 400).admitting = true ∧ admitUp.adm.lastRun ≠ some (admitUp.at_ 400).tick ∧
    admitUp.adm.cuts = [] ∧ (admitUp.at_ 400).eligibles .outp = [] ∧ (admitUp.at_ 400).eligibles .inp = [queuedBlock] ∧
    admitUp.chanMode .inp = false ∧ 1 ≤ admitUp.lookahead .inp ∧ (admitUp.at_ 400).passes queuedBlock = some (0, [(.twe, 10)]) := by decide
theorem wit_Admission_stopped : (up.at_ 400).admitting = false ∧ up.adm.cuts = [] := by decide

theorem wit_Balance_refill : boundUp.coreUp = true ∧ (boundUp.at_ 1000).tick % 1000 = 0 ∧ boundUp.adm.lastRefill ≠ some (boundUp.at_ 1000).tick ∧
    boundUp.adm.cuts = [] := by decide
theorem wit_Balance_none : (balUp 16).coreUp = true ∧ ((balUp 16).at_ 100000).tick % (1000 * (balUp 16).fld F.ADM_BAL_CTRL_PERIOD_US) = 0 ∧
    (balUp 16).adm.lastBal ≠ some ((balUp 16).at_ 100000).tick ∧ (balUp 16).flag F.ADM_BAL_CTRL_ENABLE = true ∧
    (balUp 16).dkl.gather = GState.sealed ∧ (balUp 16).flag F.DKL_STATUS_HALT = false ∧ (balUp 16).adm.fence = none ∧
    ((balUp 16).at_ 100000).balWant = none := by decide
theorem wit_Balance_fence : (balUp 20).coreUp = true ∧ ((balUp 20).at_ 100000).balWant = some true ∧
    ((balUp 20).at_ 100000).tick % (1000 * (balUp 20).fld F.ADM_BAL_CTRL_PERIOD_US) = 0 ∧
    (balUp 20).adm.lastBal ≠ some ((balUp 20).at_ 100000).tick ∧ (balUp 20).flag F.ADM_BAL_CTRL_ENABLE = true ∧
    (balUp 20).dkl.gather = GState.sealed ∧ (balUp 20).flag F.DKL_STATUS_HALT = false ∧ (balUp 20).adm.fence = none ∧
    (balUp 20).fld F.ADM_BAL_CTRL_CONFIRM ≤ (if (balUp 20).adm.lastWant = some true then (balUp 20).adm.streak + 1 else 1) := by decide
theorem wit_Balance_moved : fencedUp.coreUp = true ∧ fencedUp.adm.fence = some (3, 5, true) ∧ fencedUp.groupIdle 3 5 = true ∧
    3 < fencedUp.adm.nOut.length := by decide

theorem wit_ReqOpen : (msgUp .hold [] []).portUp (hdOn 1).port.val = true ∧
    (msgUp .hold [] []).sender (hdOn 1).src = some (3, (msgUp .hold [] []).partner 3) ∧ ((msgUp .hold [] []).partner 3).kind = .gateway ∧
    (msgUp .hold [] []).openRefuse openReq 3 = none ∧ (msgUp .hold [] []).ldg.pop = some (8, { (msgUp .hold [] []).ldg with fresh := 9 }) := by decide
theorem wit_ReqOpen_refused : (msgUp .hold [] []).openRefuse badReq 3 = some 0x15 ∧
    (msgUp .hold [] []).portUp (hdOn 2).port.val = true ∧
    (msgUp .hold [] []).sender (hdOn 2).src = some (4, (msgUp .hold [] []).partner 4) ∧ ((msgUp .hold [] []).partner 4).kind ≠ .gateway := by decide

theorem wit_Prompt_tokens : (msgUp .screenIn [] []).portUp (hdOn 1).port.val = true ∧
    (msgUp .screenIn [] []).sender (hdOn 1).src = some (3, (msgUp .screenIn [] []).partner 3) ∧
    ((msgUp .screenIn [] []).partner 3).kind = .gateway ∧ (msgUp .screenIn [] []).tokensRefuse h7 3 64 2 = none ∧
    (msgUp .screenIn [] []).tokensRefuse h7 3 63 2 = some 0x15 := by decide
theorem wit_Prompt_end : (msgUp .screenIn [] []).limp = false ∧ (msgUp .screenIn [] []).genOk h7 = true ∧
    (msgUp .screenIn [] []).promptOpen h7 3 = true ∧ ((msgUp .screenIn [] []).folio h7.idx).promptLen ≠ 0 ∧
    (msgUp .screenIn [] []).gwOf h7 3 = true ∧ ((msgUp .screenIn [] []).folio h7.idx).state = .screenIn ∧
    (msgUp .screenIn [] []).genOk { h7 with gen := 1 } = false := by decide

theorem wit_Cancel_ask : (msgUp .generating [] []).portUp (hdOn 1).port.val = true ∧
    (msgUp .generating [] []).sender (hdOn 1).src = some (3, (msgUp .generating [] []).partner 3) ∧
    ((msgUp .generating [] []).partner 3).kind = .gateway ∧ (msgUp .generating [] []).limp = false ∧
    (msgUp .generating [] []).gwOf h7 3 = true ∧ (msgUp .generating [] []).cancelRefuse h7 = none ∧
    (msgUp .done [] []).cancelRefuse h7 = some 0x15 ∧ (msgUp .done [] []).gwOf h7 3 = true ∧
    (msgUp .done [] []).hostUp 0 = true ∧ (msgUp .done [] []).lockdown = false ∧
    (msgUp .done [] []).flag F.LDG_FOLIO_RESULT_BUSY = false := by decide
theorem wit_Cancel_commit : (cancelUp .host).coreUp = true ∧
    (cancelUp .host).ldg.cancels.find? (fun c => c.at_ ≤ ((cancelUp .host).at_ 100).now && !((cancelUp .host).at_ 100).gateRan c.folio) =
      some { folio := 7, gen := 0, at_ := 0, by_ := .host } ∧
    (cancelUp .host).cancelRefuse { folio := BitVec.ofNat 16 7, gen := BitVec.ofNat 8 0 } = none := by decide

theorem wit_PauseResume_pause : (msgUp .generating [] []).portUp (hdOn 1).port.val = true ∧
    (msgUp .generating [] []).sender (hdOn 1).src = some (3, (msgUp .generating [] []).partner 3) ∧
    ((msgUp .generating [] []).partner 3).kind = .gateway ∧ (msgUp .generating [] []).pauseRefuse h7 3 6 60 = none ∧
    (msgUp .generating [] []).parts.evicts.any (fun e => e.folio == h7.idx) = false ∧
    (msgUp .generating [] []).pauseRefuse h7 3 6 0 = some 0x15 := by decide
theorem wit_PauseResume_resume : (pausedUp [farPage]).portUp (hdOn 1).port.val = true ∧
    (pausedUp [farPage]).sender (hdOn 1).src = some (3, (pausedUp [farPage]).partner 3) ∧
    ((pausedUp [farPage]).partner 3).kind = .gateway ∧ ((pausedUp [farPage]).at_ 100).resumeRefuse h7 3 4 = none ∧
    ((pausedUp [heldPage]).at_ 100).resumeRefuse h7 3 4 = none ∧
    ((pausedUp [farPage]).at_ 2000000000000).resumeRefuse h7 3 4 = some 0x23 := by decide

theorem wit_FolioCommands : (msgUp .done [] []).hostUp 0 = true ∧ (msgUp .done [] []).lockdown = false ∧
    (msgUp .done [] []).flag F.LDG_FOLIO_RESULT_BUSY = false ∧ (msgUp .done [] []).genOk h7 = true := by decide
theorem wit_FolioCommands_expire : (pausedUp [farPage]).coreUp = true ∧ ((pausedUp [farPage]).at_ 1000000001070).scanDue 7 = true ∧
    ((pausedUp [farPage]).folio 7).state = .paused ∧ ((pausedUp [farPage]).folio 7).resumeReq = false ∧
    ((pausedUp [farPage]).folio 7).tExpire ≤ ((pausedUp [farPage]).at_ 1000000001070).tick ∧
    ((pausedUp [farPage]).at_ 1000000001080).scanDue 7 = false := by decide

theorem wit_Pages_in : (msgUp .hold [] []).portUp (hdOn 3).port.val = true ∧ (msgUp .hold [] []).parts.waiting = [] ∧
    (msgUp .hold [] []).sender (hdOn 3).src = some (5, (msgUp .hold [] []).partner 5) ∧ ((msgUp .hold [] []).partner 5).kind = .prefill ∧
    (msgUp .hold [] []).limp = false ∧ (msgUp .hold [] []).genOk h7 = true ∧ (msgUp .hold [] []).pfSender h7.idx 5 = true ∧
    ((msgUp .hold [] []).folio h7.idx).pageKib = 4 ∧ ((msgUp .hold [] []).folio h7.idx).pages.length = 0 ∧
    (msgUp .hold [] []).pageFits h7.idx 4 true = true ∧ ((msgUp .hold [] []).folio h7.idx).forwards = true ∧
    ((msgUp .screenIn [] []).folio h7.idx).forwards = false ∧ (msgUp .hold [] []).genOk { h7 with gen := 1 } = false := by decide
theorem wit_Pages_back : (evictUp [fwdPage] 0).portUp (hdOn 2).port.val = true ∧ (evictUp [fwdPage] 0).parts.waiting = [] ∧
    (evictUp [fwdPage] 0).sender (hdOn 2).src = some (4, (evictUp [fwdPage] 0).partner 4) ∧
    ((evictUp [fwdPage] 0).partner 4).kind = .decode ∧ (evictUp [fwdPage] 0).limp = false ∧ (evictUp [fwdPage] 0).genOk h7 = true ∧
    (evictUp [fwdPage] 0).parts.evicts.find? (fun e => e.folio == h7.idx) = some { folio := 7, since := 0, returned := 0, ended := false } ∧
    ((evictUp [fwdPage] 0).folio h7.idx).dec = 4 ∧ ((evictUp [fwdPage] 0).folio h7.idx).state = .generating ∧
    ((evictUp [fwdPage] 0).folio h7.idx).pageKib = 4 ∧ pageNo? ((evictUp [fwdPage] 0).folio h7.idx).pages 0 = some fwdPage ∧
    (evictUp [fwdPage] 0).pageFits h7.idx 4 false = true := by decide

theorem wit_Stores_ack : (msgUp .hold [fwdPage] []).portUp (hdOn 2).port.val = true ∧
    (msgUp .hold [fwdPage] []).sender (hdOn 2).src = some (4, (msgUp .hold [fwdPage] []).partner 4) ∧
    (msgUp .hold [fwdPage] []).genOk h7 = true ∧ pageNo? ((msgUp .hold [fwdPage] []).folio h7.idx).pages 0 = some fwdPage ∧
    ((msgUp .hold [fwdPage] []).folio h7.idx).dec = 4 ∧ ((msgUp .hold [fwdPage] []).folio h7.idx).resumeReq = false ∧
    (msgUp .hold [fwdPage] []).parts.waiting = [] ∧ (msgUp .hold [fwdPage] []).genOk { h7 with gen := 1 } = false := by decide
theorem wit_Stores_store : (evictUp [askedPage] 1).portUp (hdOn 4).port.val = true ∧
    (evictUp [askedPage] 1).sender (hdOn 4).src = some (6, (evictUp [askedPage] 1).partner 6) ∧
    (evictUp [askedPage] 1).asked? 6 (hdOn 4).tag.toNat .held = some (7, askedPage) ∧ ((evictUp [askedPage] 1).at_ 1000).now ≤ 100 + 10000000 ∧
    (evictUp [askedPage] 1).parts.strays = [] ∧ ((evictUp [askedPage] 1).folio 7).resumeReq = false ∧
    (evictUp [askedPage] 1).parts.evicts = [{ folio := 7, since := 0, returned := 1, ended := false }] ∧
    (evictUp [askedPage] 1).parts.waiting = [] ∧ ((evictUp [askedPage] 1).folio 7).state = .generating ∧
    ((evictUp [askedPage] 1).folio 7).pauseReq = true ∧ pageNo? ((evictUp [askedPage] 1).folio 7).pages 0 = some askedPage := by decide
theorem wit_Stores_late : (evictUp [askedPage] 1).coreUp = true ∧ 100 + 10000000 < ((evictUp [askedPage] 1).at_ 20000000).now ∧
    0 + 100000000 < ((evictUp [askedPage] 1).at_ 200000000).now := by decide

theorem wit_Fetches_data : (resumingUp [fetchPage]).portUp (hdOn 4).port.val = true ∧
    (resumingUp [fetchPage]).sender (hdOn 4).src = some (6, (resumingUp [fetchPage]).partner 6) ∧
    (resumingUp [fetchPage]).asked? 6 (hdOn 4).tag.toNat .far = some (7, fetchPage) ∧
    pageNo? ((resumingUp [fetchPage]).folio 7).pages fetchPage.no = some fetchPage ∧
    ((resumingUp [fetchPage]).at_ 1000).now ≤ 100 + 10000000 ∧ ((resumingUp [fetchPage]).folio 7).pageKib = 4 ∧
    ((resumingUp [fetchPage]).folio 7).dec ≠ noPartner := by decide
theorem wit_Fetches_late : (resumingUp [fetchPage]).coreUp = true ∧ pageNo? ((resumingUp [fetchPage]).folio 7).pages 1 = some fetchPage ∧
    100 + 10000000 < ((resumingUp [fetchPage]).at_ 20000000).now ∧ ((resumingUp [fetchPage]).folio 7).state = .paused := by decide
theorem wit_Fetches_free : freeingUp.portUp (hdOn 4).port.val = true ∧ freeingUp.sender (hdOn 4).src = some (6, freeingUp.partner 6) ∧
    freeingUp.coreUp = true ∧ freeingUp.parts.frees = [{ partner := 6, tag := 77, handle := 4242, since := 100 }] ∧
    100 + 10000000 < (freeingUp.at_ 20000000).now := by decide

theorem wit_CandList : (msgUp .hold [] []).portUp (hdOn 2).port.val = true ∧
    (msgUp .hold [] []).sender (hdOn 2).src = some (4, (msgUp .hold [] []).partner 4) ∧ ((msgUp .hold [] []).partner 4).kind = .decode ∧
    (msgUp .hold [] []).candRefuse (candBody 0 0) 4 = none ∧ (msgUp .hold [] []).candRefuse (candBody 63 0) 4 = some 0x15 ∧
    (msgUp .hold [] []).candRefuse (candBody 64 1) 4 = some 0x14 := by decide

theorem wit_Speculative : (msgUp .hold [] []).portUp (hdOn 2).port.val = true ∧
    (msgUp .hold [] []).sender (hdOn 2).src = some (4, (msgUp .hold [] []).partner 4) ∧ ((msgUp .hold [] []).partner 4).kind = .decode ∧
    (msgUp .hold [] []).limp = false ∧ bitOf 0 (fieldAt 3 1 (candBody 64 1)) = true := by decide

theorem wit_PrefixCache : boundUp.hostUp 0 = true ∧ boundUp.flag F.PVC_CMD_RESULT_BUSY = false ∧ sweepUp.hostUp 0 = true ∧
    sweepUp.coreUp = true ∧ sweepUp.flag F.PVC_CMD_RESULT_BUSY = true ∧ sweepUp.pvc.sweep = some (some 5) ∧
    (∀ e ∈ sweepUp.pvc.epochPend, e.1 < (sweepUp.at_ 1000).tick) := by decide
theorem wit_PrefixCache_copy : copyUp.coreUp = true ∧ copyUp.pvc.pins.find? (fun x => x.2 == 11) = some (80, 11) ∧
    copyUp.item? 11 = some { passItem with copying := true, doneAt := none } := by decide

theorem wit_AmaUpdates : amaUp.hostUp 0 = true ∧ amaUp.lockdown = false ∧ amaUp.flag (F.QUIRE_AMA_UPD_RESULT_BUSY (0 : Fin 8).val) = false ∧
    amaUp.updRefused (32 * (0 : Fin 8).val + (3 : Fin 32).val) (some 4) 16383 = false ∧
    amaUp.updRefused (32 * (0 : Fin 8).val + (3 : Fin 32).val) (some 16384) 16384 = false ∧
    amaUp.updRefused (32 * (0 : Fin 8).val + (3 : Fin 32).val) none 0 = false ∧
    (updUp []).hostUp 0 = true ∧ (updUp []).lockdown = false ∧ (updUp []).flag (F.QUIRE_AMA_UPD_RESULT_BUSY (0 : Fin 8).val) = true := by decide

theorem wit_AmaSteps : (updUp [.put 4, .validate 4 true none]).coreUp = true ∧
    (updUp [.put 4, .validate 4 true none]).ama.updOf 0 =
      some { op := 1, bank := 3, entry := [{ value := 5, care := 7, tag := 9 }], plan := [.put 4, .validate 4 true none], suspended := false } ∧
    ((updUp [.copy 6 5]).ama.slot 3 5).quar = false ∧ copySource [.clear 6 false, .copy 6 5] = some 5 ∧ amaUp.coreUp = true ∧ amaUp.ama.updOf 0 = none ∧
    amaUp.ama.scrubDue.find? (fun y => y.1 == 3) = none ∧
    ({ amaUp with ama := { amaUp.ama with scrubDue := [(3, 4)] } } : State).coreUp = true ∧
    ({ amaUp with ama := { amaUp.ama with scrubDue := [(3, 4)] } } : State).ama.scrubDue.find? (fun y => y.1 == 3) = some (3, 4) := by decide

theorem wit_AmaSearch : (ringUp 2 0 (fun c => c)).coreUp = true ∧ (ringUp 2 0 (fun c => c)).item? 11 = some (srchItem 0) ∧
    (ringUp 2 0 (fun c => c)).maySearch (srchItem 0) = true ∧
    ((ringUp 2 0 (fun c => c)).tablesFor (srchItem 0).chan)[(srchItem 0).srchTab]? =
      some (0, { defined := true, mask := false, cascade := false, width := 0, banks := 1 }) ∧
    (((srchItem 0).apply .miss).nextSearch 2).srchDone = false := by decide
theorem wit_AmaSearch_ring : (ringUp 3 1 (fun c => c)).coreUp = true ∧ (ringUp 3 1 (fun c => c)).item? 11 = some (srchItem 1) ∧
    (ringUp 3 1 (fun c => c)).maySearch (srchItem 1) = true ∧ (srchItem 1).casc = none ∧ (ringUp 3 1 (fun c => c)).ringUp = false ∧
    ((ringUp 3 1 (fun c => c)).tablesFor (srchItem 1).chan)[(srchItem 1).srchTab]? =
      some (1, { defined := true, mask := false, cascade := true, width := 0, banks := 1 }) ∧
    (ringUp 3 1 (fun c => c)).casc.flying.any (fun c => c.item == 11) = false ∧
    (((srchItem 1).apply .incomplete).nextSearch 2).srchDone = false := by decide
def lastUp : State :=
  let s := ringUp 3 1 (fun c => c)
  { s with adm := { s.adm with live := [{ srchItem 1 with srchPos := 1 }] } }
def backUp : State :=
  let s := ringUp 2 1 (fun c => c)
  { s with adm := { s.adm with live := [{ srchItem 1 with casc := some .miss }] } }
theorem wit_AmaSearch_last : lastUp.coreUp = true ∧ lastUp.item? 11 = some { srchItem 1 with srchPos := 1 } ∧
    lastUp.maySearch { srchItem 1 with srchPos := 1 } = true ∧
    (lastUp.tablesFor .inp)[1]? = some (1, { defined := true, mask := false, cascade := true, width := 0, banks := 1 }) ∧
    (lastUp.tablesFor .inp).length = 2 ∧
    ((({ srchItem 1 with srchPos := 1 } : Item).apply .incomplete).nextSearch 2).srchDone = true ∧
    (({ srchItem 1 with srchPos := 1 } : Item).apply .incomplete).incomplete = true := by decide
theorem wit_AmaSearch_back : backUp.coreUp = true ∧ backUp.item? 11 = some { srchItem 1 with casc := some .miss } ∧
    backUp.maySearch { srchItem 1 with casc := some .miss } = true ∧ (({ srchItem 1 with casc := some .miss } : Item).casc = some .miss) ∧
    ((({ srchItem 1 with casc := some .miss } : Item).apply .miss).nextSearch 2).srchDone = false := by decide
set_option maxRecDepth 20000 in
theorem wit_AmaSearch_found : ((ringUp 2 0 (fun c => c)).at_ 400).searchLocal 0 (searchKey 1 0 0 [1]) [] =
    (.hit 3 4 7 [], (ringUp 2 0 (fun c => c)).at_ 400) := by decide

theorem wit_Cascade_send : (ringUp 2 1 (fun c => c)).coreUp = true ∧ (ringUp 2 1 (fun c => c)).casc.joined = true ∧
    (ringUp 2 1 (fun c => c)).ringUp = true ∧ (ringUp 2 1 (fun c => c)).casc.n ≠ 0 ∧ 3 % (ringUp 2 1 (fun c => c)).casc.n = 1 ∧
    (ringUp 2 1 (fun c => c)).casc.pos = 1 ∧ (ringUp 2 1 (fun c => c)).casc.flying = [] ∧
    (ringUp 2 1 (fun c => c)).item? 11 = some (srchItem 1) ∧ (srchItem 1).quire < 8 ∧ (ringUp 1 1 (fun c => c)).fld F.SHL_CASCADE_STATUS_STATE = 1 ∧
    (ringUp 1 1 (fun c => c)).coreUp = true ∧ (ringUp 1 1 (fun c => c)).casc.joined = true := by decide
set_option maxRecDepth 20000 in
theorem wit_Cascade_frame : frameCrcOk otherFrame.bytes = true ∧ (parseFrame otherFrame.bytes).type = 1 ∧
    (parseFrame otherFrame.bytes).cmap = (ringUp 2 1 (fun c => c)).cmapId ∧
    (ringUp 2 1 (fun c => c)).tableBanks (parseFrame otherFrame.bytes).table = [] ∧ frameCrcOk (zeros 64) = false := by decide
set_option maxRecDepth 20000 in
theorem wit_Cascade_own : (ringUp 2 1 (fun c => { c with flying := [ownSearch] })).casc.flying.find? (fun c => c.slot == 3) = some ownSearch ∧
    frameCrcOk ownSearch.frame.bytes = true ∧ (parseFrame ownSearch.frame.bytes).type = 1 ∧
    (parseFrame ownSearch.frame.bytes).searchId = ownSearch.searchId := by decide
theorem wit_Cascade_rx : 2 % (ringUp 2 1 (fun c => c)).casc.n ≠ (ringUp 2 1 (fun c => c)).casc.pos ∧
    (ringUp 2 1 (fun c => c)).casc.crcRun < 3 ∧ (ringUp 2 1 (fun c => c)).casc.noGood < 15 := by decide
theorem wit_Cascade_timers : (ringUp 1 1 (fun c => { c with closedAt := some 100 })).fld F.SHL_CASCADE_STATUS_STATE = 1 ∧
    (ringUp 1 1 (fun c => { c with closedAt := some 100 })).casc.closedAt = some 100 ∧
    (ringUp 1 1 (fun c => c)).casc.trainAt + 100000 ≤ ((ringUp 1 1 (fun c => c)).at_ 200000).now ∧
    (ringUp 3 1 (fun c => { c with downAt := some 100 })).fld F.SHL_CASCADE_STATUS_STATE = 3 ∧
    (ringUp 3 1 (fun c => { c with downAt := some 100 })).casc.downAt = some 100 ∧
    (ringUp 3 1 (fun c => { c with downAt := some 100 })).coreUp = true ∧
    100 + 1000000 ≤ ((ringUp 3 1 (fun c => { c with downAt := some 100 })).at_ 2000000).now := by decide

theorem wit_Compute_step : (engUp (engItem [] true) (fun e => { e with samples := [sampleAt 0 0] })).coreUp = true ∧
    (engUp (engItem [] true) (fun e => { e with samples := [sampleAt 0 0] })).item? 11 = some (engItem [] true) ∧
    (engUp (engItem [] true) (fun e => { e with samples := [sampleAt 0 0] })).current (engItem [] true) = true ∧
    (engItem [] true).decided = false ∧ (smallModel.tree 0) = some { slot := treeSlot, root := 0, depth := 1, ens := 0, rsvd := false } ∧
    smallModel.read treeSlot 0 8 = .ok (le 8 (2 ^ 52 + 1)) ∧ (parseNode (unle (le 8 (2 ^ 52 + 1)))).leaf = false := by decide
theorem wit_Compute_leaf : smallModel.read treeSlot 8 8 = .ok (le 8 (2 ^ 33 + 5)) ∧ (parseNode (unle (le 8 (2 ^ 33 + 5)))).leaf = true ∧
    (smallModel.ens 0) = some { base := 0, threshold := 1, firstTree := 0, trees := 2, leafShift := 32, output := false, decides := true, rsvd := false } ∧
    mod7 0 = 0 ∧ overflow64 (0 + leafAddend 5 32) = false := by decide
theorem wit_Compute_fetch : (engUp (engItem [] false) (fun e => e)).item? 11 = some (engItem [] false) ∧
    (engUp (engItem [] false) (fun e => e)).embBoundary (engItem [] false) = none ∧
    (engUp (engItem [] false) (fun e => e)).current (engItem [] false) = true ∧ (engItem [] false).srchDone = false := by decide
theorem wit_Compute_pass : (engUp (engItem [runCls .onTile] true) passTile).coreUp = true ∧
    ((engUp (engItem [runCls .onTile] true) passTile).tile 0 0).running = true ∧
    ((engUp (engItem [runCls .onTile] true) passTile).tile 0 0).rows = [{ item := 11, cls := 0, x := [3], at_ := 100 }] ∧
    (engUp (engItem [runCls .onTile] true) passTile).rowLive { item := 11, cls := 0, x := [3], at_ := 100 } = true ∧
    (smallModel.cls 0).isSome = true ∧ ((smallModel.cls 0).map smallModel.clsBoundary) = some none ∧
    (engUp (engItem [runCls .onTile] true) passTile).eng.waitRows = [] := by decide
theorem wit_Compute_rerun : (engUp (engItem [runCls .toXl] true) (fun e => e)).item? 11 = some (engItem [runCls .toXl] true) ∧
    ((smallModel.cls 0).map fun d => withinBounds (smallModel.exact (smallModel.layersOf d) [3]) [(45, some 10)]) = some true ∧
    ((engUp (engItem [runCls .toXl] true) (fun e => e)).folio 7).pauseReq = false ∧
    ((engUp (engItem [runCls .toXl] true) (fun e => e)).folio 7).resumeReq = false := by decide

theorem wit_Tiles_gather : (calUp (fun x => { x with rows := [calRow] })).coreUp = true ∧
    ((calUp (fun x => { x with rows := [calRow] })).tile 2 5).rows = [calRow] ∧ ((calUp id).tile 2 5).running = false ∧
    ((calUp id).tile 2 5).calibrating = false ∧
    calRow.at_ + (calUp id).fld (F.QUIRE_AMT_CTRL_GATHER_NS 2) ≤ ((calUp id).at_ 100000).now := by decide
theorem wit_Tiles_start : ((calUp fun x => { x with dueAt := some 7 }).tile 2 5).dueAt.isSome = true ∧
    (calUp fun x => { x with dueAt := some 7 }).calHead 2 (5 / 4) = some 5 ∧
    (∀ j < 4, ((calUp fun x => { x with dueAt := some 7 }).tile 2 (4 * (5 / 4) + j)).calibrating = false) := by decide
theorem wit_Tiles_done : ((calUp fun x => { x with calibrating := true, calStart := 100 }).tile 2 5).calibrating = true ∧
    ((calUp fun x => { x with calibrating := true, calStart := 100 }).tile 2 5).calStart + 20000 ≤ ((calUp id).at_ 100000).now ∧
    (calUp fun x => { x with calibrating := true, calStart := 100 }).eng.waitRows = [] := by decide
theorem wit_Tiles_window : (calUp id).coreUp = true ∧ ((calUp id).at_ 3000000).tick % 1000000 = 0 := by decide

theorem wit_PortControl_write : (msgUp .screenIn [] []).hostUp 0 = true ∧ (msgUp .screenIn [] []).portsOn = true ∧
    (msgUp .screenIn [] []).coreUp = true ∧ (msgUp .screenIn [] []).portState 2 = 3 ∧ (msgUp .screenIn [] []).portState 9 = 0 := by decide
theorem wit_PortControl_canon : (msgUp .screenIn [] []).Canon ∧ (portIn 2 1 id).Canon ∧ (portIn 4 1 id).Canon ∧ (portIn 1 1 id).Canon :=
  ⟨by constructor <;> decide, by constructor <;> decide, by constructor <;> decide, by constructor <;> decide⟩
theorem wit_PortControl_timers : (portIn 2 1 id).coreUp = true ∧ (portIn 2 1 id).portState 9 = 2 ∧
    ((portIn 2 1 id).port 9).t0 + 2000000 ≤ ((portIn 2 1 id).at_ 3000000).now ∧ (portIn 1 1 id).coreUp = true ∧
    (portIn 1 1 id).portState 9 = 1 ∧ (portIn 1 1 id).portsOn = true ∧ (portIn 1 1 id).flag (F.SPN_PORT_CTRL_ENABLE 9) = true ∧
    ((portIn 1 1 id).port 9).downAt + 1000000 ≤ ((portIn 1 1 id).at_ 3000000).now ∧ (portIn 4 1 id).portState 9 = 4 ∧
    ((portIn 4 1 id).port 9).retrainAt + 100000 ≤ ((portIn 4 1 id).at_ 3000000).now ∧ (portIn 4 1 id).coreUp = true := by decide

theorem wit_PortBlocks_train : (portIn 2 1 id).coreUp = true ∧ (portIn 2 1 id).portState 9 = 2 ∧ ((portIn 2 1 id).port 9).dataOn = false ∧
    (0 : Fin 2).val = ((portIn 2 1 id).port 9).rate ∧ (portIn 4 1 id).portState 9 = 4 ∧ ((portIn 4 1 id).port 9).dataOn = false := by decide
theorem wit_PortBlocks_fec : (portIn 3 1 id).coreUp = true ∧ (portIn 3 1 id).carries 9 = true ∧ (portIn 3 1 id).portState 9 = 3 := by decide
set_option maxRecDepth 200000 in
theorem wit_PortBlocks_flit : flitCrcOk (dataFlitOf 0) = true ∧ (parseFlit (dataFlitOf 0)).nak = false ∧ (parseFlit (dataFlitOf 0)).kind = 1 ∧
    (parseFlit (dataFlitOf 0)).seq = ((portIn 3 1 id).port 9).rxSeq ∧ (parseFlit (dataFlitOf 1)).seq ≠ ((portIn 3 1 id).port 9).rxSeq := by decide
theorem wit_PortBlocks_replay : (portIn 3 1 fun q => { q with unacked := [oneFlit] }).portState 9 = 3 ∧
    ((portIn 3 1 fun q => { q with unacked := [oneFlit] }).port 9).unacked = [oneFlit] ∧
    ((portIn 3 1 fun q => { q with unacked := [oneFlit] }).port 9).ackAt + 4000 ≤ ((portIn 3 1 id).at_ 10000).now := by decide

theorem wit_Attachment_hello : (msgUp .screenIn [] []).portUp (hdOn 1).port.val = true ∧
    (msgUp .screenIn [] []).sender { hdOn 1 with ep := 2 }.src = none ∧ PKind.ofCode 3 = some .decode ∧ PKind.ofCode 6 = none ∧
    (msgUp .screenIn [] []).sender (hdOn 1).src = some (3, (msgUp .screenIn [] []).partner 3) := by decide
theorem wit_Attachment_canon : (msgUp .screenIn [] []).Canon := by constructor <;> decide
theorem wit_Attachment_caps : (attachUp .gateway).portUp 1 = true ∧
    (attachUp .gateway).parts.attaches.find? (fun a => a.at_ == { hdOn 1 with ep := 2 }.src) =
      some { at_ := { port := 1, ep := 2 }, kind := .gateway, unitId := zeros 16, since := 100 } ∧
    capsRefuse .gateway gwCaps = none ∧ (attachUp .gateway).parts.lowestFree = some 0 ∧ capsRefuse .gateway { gwCaps with maxCand := 65 } = some 0x14 ∧
    (msgUp .screenIn [] []).parts.attaches.find? (fun a => a.at_ == { hdOn 1 with ep := 2 }.src) = none := by decide
theorem wit_Attachment_timeout : (attachUp .gateway).coreUp = true ∧
    (attachUp .gateway).parts.attaches.find? (fun a => a.at_ == { port := (1 : Fin 16).val, ep := (2 : Fin 4).val }) =
      some { at_ := { port := 1, ep := 2 }, kind := .gateway, unitId := zeros 16, since := 100 } ∧ 100 + 1000000 < ((attachUp .gateway).at_ 1000101).now ∧
    (msgUp .screenIn [] []).hostUp 0 = true := by decide
theorem wit_Attachment_unknown : noReject 0x42 = true ∧ noReject 0x77 = false ∧ (0x77 : BitVec 8) ≠ 0 ∧ ((msgUp .screenIn [] []).partner 3).state = .attached ∧
    ((closingUp).partner 3).state = .closing ∧ closingUp.hostUp 0 = true := by decide

theorem wit_Heartbeats : (msgUp .screenIn [] []).portUp (hdOn 1).port.val = true ∧
    (msgUp .screenIn [] []).sender (hdOn 1).src = some (3, (msgUp .screenIn [] []).partner 3) ∧
    ((msgUp .screenIn [] []).partner 3).state.on = true ∧ (msgUp .screenIn [] []).coreUp = true ∧
    ((msgUp .screenIn [] []).partner 3).tAttach + 50000 * (((msgUp .screenIn [] []).partner 3).windows + 1) ≤
      ((msgUp .screenIn [] []).at_ 50000).now ∧ ((msgUp .screenIn [] []).partner 9).state.on = false ∧
    (msgUp .screenIn [] []).parts.rosterAfter = [] := by decide
theorem wit_Heartbeats_canon : (msgUp .screenIn [] []).Canon := by constructor <;> decide
theorem wit_Heartbeats_roster : rosterUp.coreUp = true ∧ rosterUp.parts.rosterAfter = [100, 110] ∧ 100 < (rosterUp.at_ 200).tick := by decide
theorem wit_Heartbeats_cool : coolUp.coreUp = true ∧ (coolUp.partner 4).state = .cooling ∧ (coolUp.partner 4).lostAt = 100 ∧
    coolUp.parts.orphanAt.find? (fun x => x.2.1 == (7 : BitVec 16).toNat) = some (110, 7, 0) ∧ 110 ≤ (coolUp.at_ 200).tick ∧
    (coolUp.folio 7).gen = 0 ∧ (coolUp.folio 7).state = .hold := by decide

theorem wit_Seals : (sealUp 3 none).coreUp = true ∧ (sealUp 3 none).canSeal = true ∧ (sealUp 3 (some 0)).canSeal = false ∧
    (sealUp 3 (some 0)).coreUp = true ∧ (sealUp 3 none).hostUp 0 = true ∧ bitOf 1 (1 : BitVec 32).toNat = false ∧
    (sealUp 3 none).col.warmReq = false ∧ (sealUp 3 none).chain ≠ [] ∧ (sealUp 0 (some 0)).col.pendingSig = some 0 ∧
    (lastPart0 (sealUp 0 (some 0)).chain).2 = 0 ∧ (sealUp 0 (some 0)).col.hostReq = false ∧ (sealUp 3 none).col.pendingSig = none := by decide

set_option maxRecDepth 20000 in
theorem wit_PushTail : (pushUp 3).hostUp 0 = true ∧ bitOf 0 (0x50502 : BitVec 32).toNat = false ∧ (pushUp 3).hostLink = true ∧
    (pushUp 3).flag F.COL_CTRL_PUSH_ENABLE = true ∧ max (pushUp 3).col.pushed (pushUp 3).col.tail + 1 ≤ (pushUp 3).headSeq ∧
    max (pushUp 3).col.pushed (pushUp 3).col.tail + 1 ≤ (pushUp 3).col.tail + 2 ^ (pushUp 3).fld F.COL_CTRL_PUSH_LOG2 ∧
    (pushUp 3).dmaStatus 5 0 true (pushUp 3).pushBase 128 = 0 ∧ (pushUp 3).col.badSeqs.contains 1 = false ∧
    (sealUp 3 none).flag F.COL_CTRL_PUSH_ENABLE = false ∧ (sealUp 3 none).hostLink = true := by decide

theorem wit_BindingLoad : (bindUp none).hostUp 0 = true ∧ (bindUp none).flag F.SHL_BIND_RESULT_BUSY = false ∧ (bindUp none).lockdown = false ∧
    (put [(F.SHL_BIND_RESULT_BUSY, 1)] up).hostUp 0 = true ∧ (put [(F.SHL_BIND_RESULT_BUSY, 1)] up).flag F.SHL_BIND_RESULT_BUSY = true ∧
    (put [(F.SEC_STATE_MODE, 1)] up).hostUp 0 = true ∧ (put [(F.SEC_STATE_MODE, 1)] up).lockdown = true := by decide
theorem wit_BindingLoad_stage : (bindUp (some (.stage 5 0))).coreUp = true ∧ (bindUp (some (.stage 5 0))).winPermits 5 0 false = true ∧
    fieldAt 0x10 8 (zeros 64) < 112 ∧ 112 ≤ fieldAt 0x10 8 (zeros 16 ++ le 8 200) ∧
    (bindUp (some (.stage 5 0))).dmaStatus 5 0 false 0 200 = 0 := by decide
set_option maxRecDepth 20000 in
theorem wit_BindingLoad_load : (bindUp (some (.load [] true))).coreUp = true ∧ (bindUp (some (.load [] true))).loadBinding true = some smallBinding ∧
    loadCheck smallBinding [] [] none false = none := by decide

theorem wit_Catalogue : (bindUp none).hostUp 0 = true ∧ (bindUp none).flag F.SHL_BIND_RESULT_BUSY = false ∧ (bindUp none).lockdown = false ∧
    (bindUp (some (.catAdd 9 5 0 100 0))).bnd.op = some (.catAdd 9 5 0 100 0) ∧
    (bindUp (some (.catAdd 9 5 0 100 0))).winPermits 5 0 false = true ∧ (bindUp none).bnd.restoring = [] ∧ (bindUp none).bnd.op = none := by decide
theorem wit_Catalogue_restore : restoreUp.coreUp = true ∧ restoreUp.bnd.restoring.contains (0 : Fin 8).val = true ∧ restoreUp.ama.upd = [] ∧
    (∀ x ∈ restoreUp.ama.saves, x.journal = none) ∧ (restoreUp.ama.saves.map (·.bank)) = [3] := by decide

theorem wit_CensusRepair : (faultedUp false).hostUp 0 = true ∧ (faultedUp false).lockdown = false ∧ (faultedUp false).coreUp = true ∧
    (faultedUp false).retryRefuse h7 = some 0x15 ∧ (faultedUp true).retryRefuse h7 = none ∧ (faultedUp true).hostUp 0 = true ∧
    (faultedUp true).lockdown = false ∧ ((faultedUp true).frun h7.idx).cens = some (censOf true) ∧
    (faultedUp true).lostSince h7.idx (censOf true).tFault = none := by decide
theorem wit_CensusRepair_lost : (lostUp).hostUp 0 = true ∧ lostUp.lockdown = false ∧ lostUp.retryRefuse h7 = none ∧
    (lostUp.frun h7.idx).cens = some (censOf true) ∧ lostUp.lostSince h7.idx (censOf true).tFault = some 3 := by decide

theorem wit_NvmCommands : (nvmUp none).hostUp 0 = true ∧ (nvmUp none).liveUp = true ∧ (nvmUp none).nvm.op = none ∧
    (nvmUp (some (nvmJob 1 256))).nvm.op = some (nvmJob 1 256) ∧ (nvmUp (some (nvmJob 2 256))).winPermits 5 0 false = true ∧
    (nvmUp (some (nvmJob 1 256))).winPermits 5 0 true = true ∧ (nvmJob 3 65536).op = 3 ∧
    Sparse.get (fun _ => 0) (nvmUp none).nvm.erases 352 < 10000 := by decide
theorem wit_NvmCommands_canon : (nvmUp (some (nvmJob 2 256))).Canon := by constructor <;> decide

set_option maxRecDepth 20000 in
theorem wit_ProgramBlank : (progUp).hostUp 0 = true ∧ progUp.flag F.NVM_RESULT_BUSY = false ∧ progUp.lockdown = false ∧
    progUp.nvm.readOnly = false ∧ 352 * 65536 ≤ progUp.fld F.NVM_ADDR_ADDR ∧ progUp.fld F.NVM_ADDR_ADDR + progUp.rd R.NVM_LEN ≤ 992 * 65536 ∧
    progUp.fld F.NVM_ADDR_ADDR % 256 = 0 ∧ progUp.rd R.NVM_LEN % 256 = 0 ∧ progUp.rd R.NVM_LEN ≤ 65536 ∧
    progUp.fld F.NVM_ADDR_ADDR < 992 * 65536 ∧
    progUp.dmaStatus 5 0 false (progUp.rd64 R.NVM_HOST_LO R.NVM_HOST_HI) (progUp.rd R.NVM_LEN) = 0 := by decide
set_option maxRecDepth 20000 in
theorem wit_ProgramBlank_done : (nvmUp (some (nvmJob 2 256))).liveUp = true ∧ (nvmUp (some (nvmJob 2 256))).winPermits 5 0 false = true ∧
    (352 * 256, List.replicate 256 (0xFF : BitVec 8)) ∈ asPages ((nvmJob 2 256).addr / 256) (padTo 256 (List.replicate 256 0xFF)) := by decide

theorem wit_EpdImage : (epdUp 0 none).hostUp 0 = true ∧ (epdUp 0 none).flag F.EPD_RESULT_BUSY = false ∧ (epdUp 0 none).lockdown = false ∧
    (epdUp 0 none).nvm.readOnly = false ∧ (epdUp 0 none).dmaStatus 5 0 false (epdUp 0 none).epdSrc 65536 = 0 ∧
    (put [(F.EPD_RESULT_BUSY, 1)] (epdUp 1 none)).flag F.EPD_RESULT_BUSY = true ∧ (put [(F.EPD_STATE_LIMP, 1)] (epdUp 1 none)).limp = true := by
  decide
theorem wit_EpdImage_done : (epdUp 1 (some (.write 5 0 image3))).coreUp = true ∧
    (epdUp 1 (some (.write 5 0 image3))).epd.journal.cursor < fwChunks image3 ∧ image3.length ≤ 65536 ∧
    (epdUp 1 (some (.write 5 0 image3))).dmaStatus 5 0 false 65536 65536 = 0 ∧ (epdUp 1 none).epd.op = none := by decide
theorem wit_EpdImage_canon : (epdUp 1 (some (.write 5 0 image3))).Canon := by constructor <;> decide

theorem wit_EpdArm : (epdUp 3 none).hostUp 0 = true ∧ (epdUp 3 none).flag F.EPD_RESULT_BUSY = false ∧ (epdUp 3 none).lockdown = false ∧
    (epdUp 3 none).limp = false ∧ (epdUp 3 none).nvm.readOnly = false ∧ (epdUp 4 none).coreUp = true ∧
    (epdUp 4 none).fld F.EPD_STATE_PHASE = 4 ∧ (epdUp 3 none).fld F.EPD_STATE_PHASE ≠ 4 := by decide
theorem wit_EpdArm_handover : (handUp none).coreUp = true ∧ (handUp none).epd.handover = some 0 ∧ (handUp none).epd.sealWait = none ∧
    (handUp (some true)).epd.sealWait = some true ∧ (epdUp 3 none).epd.handover = none := by decide

theorem wit_ColdResets : darkUp.pins.powered = false ∧ keyUp.pins.powered = true ∧ keyUp.hostUp 0 = true := by decide
theorem wit_ColdResets_dark : ∀ t, Instr.brownOut 5 0 ≠ Instr.powerOn t := fun _ h => Instr.noConfusion h

theorem wit_ColdStart : State.reset.pins.powered = true ∧ State.reset.fld F.SHL_BOOT_STATUS_STEP = 0 ∧
    State.reset.flag F.SHL_BOOT_STATUS_HALTED = false ∧ State.reset.fld F.SEC_STATE_LOCK_CODE = 0 ∧ State.reset.lockdown = false ∧
    State.reset.limp = false ∧ State.reset.parts = State.reset.parts ∧ State.reset.flag (F.SPN_PORT_CTRL_ENABLE 3) = true ∧
    coldIn.endpaperOk = true ∧ coldIn.sensors = 0 ∧ coldIn.selfTestOk = true ∧ coldIn.stack0 ≠ 0 ∧ coldIn.stack1 ≠ 0 ∧
    coldIn.trainOk = true ∧ up.pins.powered = true ∧ up.fld F.SHL_BOOT_STATUS_STEP ≠ 0 := by decide
theorem wit_ColdStart_canon : State.reset.Canon := by constructor <;> decide

set_option maxRecDepth 20000 in
theorem wit_WarmReset : lockedUp.hostUp 0 = true ∧ lockedUp.hostLink = true ∧ State.reset.hostLink = false ∧ lockedUp.lockdown = true ∧
    flightUp.hostUp 0 = true ∧ flightUp.hostLink = true ∧ flightUp.lockdown = false ∧ flightUp.limp = false ∧
    flightUp.flag F.SHL_BOOT_STATUS_READY = true ∧ flightUp.fld F.PWR_STATE_CURRENT ≠ 2 ∧ (flightUp.folio 7).state.live = true ∧
    flightUp.adm.live.any (fun i => i.folio == 7 && i.phase == .admitted) = true := by decide
set_option maxRecDepth 20000 in
theorem wit_WarmReset_cmd : WarmCmd 500 5 16 warmIn lockedUp (.pcieHotReset 500 5 16 warmIn) 3 ∧
    WarmCmd 500 5 16 warmIn flightUp (.pcieLinkDown 500 5 16 warmIn) 3 ∧ WarmCmd 500 0 0 warmIn lockedUp (.pfFlr 500 warmIn) 4 ∧
    WarmCmd 500 0 0 warmIn lockedUp (.shlResetWarm 500 0xB007 warmIn) 1 ∧ WarmCmd 500 0 0 warmIn flightUp (.scpWatchdogExpiry 500 warmIn) 2 :=
  ⟨⟨by decide, by decide, by decide, .inr (.inr (.inl ⟨⟨5, 16, rfl, rfl, .inl rfl⟩, rfl⟩))⟩,
   ⟨by decide, by decide, by decide, .inr (.inr (.inl ⟨⟨5, 16, rfl, rfl, .inr rfl⟩, rfl⟩))⟩,
   ⟨by decide, by decide, by decide, .inr (.inr (.inr ⟨rfl, rfl⟩))⟩, ⟨by decide, by decide, by decide, .inl ⟨rfl, rfl, by decide⟩⟩,
   ⟨by decide, by decide, by decide, .inr (.inl ⟨rfl, rfl⟩)⟩⟩
set_option maxRecDepth 20000 in
theorem wit_WarmReset_canon : lockedUp.Canon ∧ flightUp.Canon := ⟨by constructor <;> decide, by constructor <;> decide⟩

set_option maxRecDepth 20000 in
theorem wit_QuireResets : flightUp.hostUp 0 = true ∧ flightUp.coreUp = true ∧ flightUp.limp = false ∧
    (put [(F.EPD_STATE_LIMP, 1)] flightUp).coreUp = true ∧ (put [(F.EPD_STATE_LIMP, 1)] flightUp).limp = true ∧
    (flightUp.folio 7).state.live = true ∧ (0x01 : BitVec 8) = BitVec.ofNat 8 (2 ^ (0 : Fin 8).val) ∧ (0x01 : BitVec 8) ≠ 0 := by decide
set_option maxRecDepth 20000 in
theorem wit_QuireResets_canon : flightUp.Canon := by constructor <;> decide

set_option maxRecDepth 20000 in
theorem wit_Power : (sealUp 3 none).hostUp 0 = true ∧ (pwrUp 0 1).pins.powered = true ∧ (pwrUp 0 1).lockdown = false ∧
    (pwrUp 0 1).flag F.PWR_STATE_BUSY = true ∧ (pwrUp 0 1).fld F.PWR_STATE_CURRENT = 0 ∧ (pwrUp 1 3).fld F.PWR_STATE_CURRENT = 1 ∧
    (pwrUp 2 3).fld F.PWR_STATE_CURRENT = 2 ∧ (pwrUp 3 0).fld F.PWR_STATE_CURRENT = 3 ∧ (pwrUp 1 3).pwr.target = 3 ∧
    (pwrUp 2 3).col.pendingSig = none ∧ ((pwrUp 1 3).partner 3).state.on = true ∧ (pwrUp 1 0).pwr.waking = true ∧
    (sealUp 3 none).flag F.PWR_STATE_BUSY = false ∧ lockedUp.lockdown = true ∧ lockedUp.hostUp 0 = true := by decide
def ps2Up : State := { pwrUp 2 0 with parts := State.reset.parts }
set_option maxRecDepth 20000 in
theorem wit_Power_canon : ps2Up.Canon ∧ ps2Up.parts = State.reset.parts ∧ ps2Up.pwr.target < 2 := ⟨by constructor <;> decide, by decide, by decide⟩
set_option maxRecDepth 20000 in
theorem wit_Power_thermal : hotUp.liveUp = true ∧ hotUp.pwr.coolFrom = some 10 ∧ hotUp.flag F.PWR_STATE_THERM_STOP = true ∧
    (sealUp 3 none).liveUp = true ∧ (sealUp 3 none).pwr.coolFrom = none ∧ hotUp.limp = false ∧ hotUp.fld F.PWR_STATE_CURRENT = 0 := by decide

set_option maxRecDepth 20000 in
theorem wit_Tamper : keyUp.pins.powered = true ∧ keyUp.fld F.SHL_BOOT_STATUS_STEP ≠ 0 ∧ keyUp.lockdown = false ∧ keyUp.sec.newKey = none ∧
    keyUp.sec.key.isSome = true ∧ keyUp.fld F.SEC_STATE_LOCK_CODE = 0 ∧ tamperedUp.sec.tamper = true ∧ tamperedUp.lockdown = false ∧
    tamperedUp.sec.lockAt ≤ (tamperedUp.at_ 510).tick ∧ (tamperedUp.folio 7).state.live = true := by decide
theorem wit_Tamper_prov : (provUp none).hostUp 0 = true ∧ (provUp none).lockdown = true ∧ (provUp none).fld F.SEC_STATE_LOCK_CODE = 0x82 ∧
    (provUp none).fld F.SEC_TAMPER_ACTIVE = 0 ∧ (provUp none).sec.newKey = none ∧ (provUp (some (5, zeros 96, 1))).sec.newKey = some (5, zeros 96, 1) ∧
    (provUp (some (5, zeros 96, 1))).hostUp 0 = true ∧ (provUp (some (5, zeros 96, 1))).lockdown = true := by decide
set_option maxRecDepth 20000 in
theorem wit_Tamper_canon : tamperedUp.Canon ∧ (provUp (some (5, zeros 96, 1))).Canon := ⟨by constructor <;> decide, by constructor <;> decide⟩

set_option maxRecDepth 20000 in
theorem wit_Windows : winUp.hostUp 0 = true ∧ winUp.hostUp 3 = true ∧ winUp.hostUp 7 = true ∧ winUp.hostLink = true ∧
    winUp.fld (F.HIF_WIN_CTRL_OWNER 6) = (3 : Fin 32).val ∧ winUp.fld (F.HIF_WIN_CTRL_OWNER 6) ≠ (7 : Fin 32).val ∧ (7 : Fin 32) ≠ 0 ∧
    winUp.flag (F.HIF_WIN_CTRL_ENABLE 5) = true ∧ winUp.flag (F.HIF_WIN_CTRL_ENABLE 6) = false ∧ (3 : Fin 32) ≠ 0 := by decide
set_option maxRecDepth 20000 in
theorem wit_Windows_canon : winUp.Canon := by constructor <;> decide

set_option maxRecDepth 20000 in
theorem wit_QpControl : winUp.hostUp 3 = true ∧ winUp.hostUp 7 = true ∧ winUp.fld (F.HIF_QP_CTRL_OWNER 4) = 3 ∧
    winUp.flag (F.HIF_QP_CTRL_ENABLE 4) = false ∧ qpUp.hostUp 0 = true ∧ qpUp.flag (F.HIF_QP_CTRL_ENABLE 2) = true ∧ (qpUp.qp 2).posts = [] ∧
    qpUp.flag (F.HIF_QP_STATUS_ACTIVE 2) = true ∧ 1 < 2 ^ qpUp.fld (F.HIF_QP_CTRL_CQ_LOG2 2) := by decide
def postUp : State := { qpUp with hif := { qpUp.hif with qps := [(2, { Qp.zero with cqTail := 15, posts := [zeros 16] })] } }
set_option maxRecDepth 20000 in
theorem wit_QpControl_post : postUp.hostUp 0 = true ∧ (postUp.qp 2).posts = [zeros 16] ∧ postUp.flag (F.HIF_QP_CTRL_ENABLE 2) = true ∧
    postUp.flag (F.HIF_QP_STATUS_ACTIVE 2) = true ∧ ((postUp.qp 2).cqTail + 1) % 2 ^ postUp.fld (F.HIF_QP_CTRL_CQ_LOG2 2) ≠ 3 ∧
    postUp.dmaStatus 5 0 true (postUp.rd64 (R.HIF_QP_CQ_BASE_LO 2) (R.HIF_QP_CQ_BASE_HI 2) + 16 * 15) 16 = 0 := by decide

set_option maxRecDepth 20000 in
theorem wit_QpCommands : qpUp.hostLink = true ∧ qpUp.flag (F.HIF_QP_CTRL_ENABLE 2) = true ∧ qpUp.flag (F.HIF_QP_STATUS_ACTIVE 2) = true ∧
    (qpUp.qp 2).sqHead ≠ (qpUp.qp 2).sqTail ∧ (qpUp.qp 2).running = none ∧ (qpUp.qp 2).posts = [] ∧
    qpUp.dmaStatus (qpUp.fld (F.HIF_QP_CTRL_WINDOW 2)) (qpUp.fld (F.HIF_QP_CTRL_OWNER 2)) false
      (qpUp.rd64 (R.HIF_QP_SQ_BASE_LO 2) (R.HIF_QP_SQ_BASE_HI 2)) 64 = 0 ∧ qpUp.lockdown = false ∧
    fieldAt 0 1 (padTo 64 (sqeOf 3 77 7 512)) = 3 ∧ fieldAt 0x10 8 (padTo 64 (sqeOf 3 77 7 512)) = 512 ∧
    (slice 0x18 40 (padTo 64 (sqeOf 3 77 7 512))).all (· == 0) = true ∧ fieldAt 0 1 (padTo 64 (sqeOf 0 77 7 0)) = 0 ∧
    fieldAt 0 1 (padTo 64 (sqeOf 1 77 7 0)) = 1 ∧ fieldAt 0 1 (padTo 64 (sqeOf 2 77 7 0)) = 2 ∧ fieldAt 0 1 (padTo 64 (sqeOf 5 77 7 0)) = 5 ∧
    fieldAt 1 1 (padTo 64 (sqeOf 5 77 7 0)) = 0 ∧ fieldAt 4 4 (padTo 64 (sqeOf 5 77 7 0)) = 0 ∧ fieldAt 0xB 1 (padTo 64 (sqeOf 5 77 7 0)) = 0 ∧
    fieldAt 0xC 4 (padTo 64 (sqeOf 5 77 7 0)) = 0 ∧ fieldAt 8 2 (padTo 64 (sqeOf 5 77 7 0)) = 7 := by decide

set_option maxRecDepth 20000 in
theorem wit_Msix : qpUp.hostLink = true ∧ qpUp.hostUp 0 = true ∧ qpUp.flag (F.HIF_QP_CTRL_ENABLE 2) = true ∧
    qpUp.flag (F.HIF_QP_STATUS_ACTIVE 2) = true ∧ (qpUp.qp 2).sqHead ≠ (qpUp.qp 2).sqTail ∧ (qpUp.qp 2).running = none ∧ (qpUp.qp 2).posts = [] ∧
    qpUp.dmaStatus (qpUp.fld (F.HIF_QP_CTRL_WINDOW 2)) (qpUp.fld (F.HIF_QP_CTRL_OWNER 2)) false
      (qpUp.rd64 (R.HIF_QP_SQ_BASE_LO 2) (R.HIF_QP_SQ_BASE_HI 2) + 64 * (qpUp.qp 2).sqHead) 64 = 0 ∧
    qpUp.dmaStatus (qpUp.fld (F.HIF_QP_CTRL_WINDOW 2)) (qpUp.fld (F.HIF_QP_CTRL_OWNER 2)) true
      (qpUp.rd64 (R.HIF_QP_CQ_BASE_LO 2) (R.HIF_QP_CQ_BASE_HI 2) + 16 * (qpUp.qp 2).cqTail) 16 = 0 ∧
    ((qpUp.qp 2).cqTail + 1) % 2 ^ qpUp.fld (F.HIF_QP_CTRL_CQ_LOG2 2) ≠ (qpUp.qp 2).cqHead ∧ fieldAt 0 1 (padTo 64 (sqeOf 0 77 7 0)) = 0 ∧
    1024 * qpUp.fld (F.HIF_QP_CTRL_OWNER 2) + qpUp.fld (F.HIF_QP_VECTOR_VECTOR 2) ≠ 0 ∧ (9 : Fin 1024).val ≠ 0 := by decide
def modUp : State := { qpUp with hif := { qpUp.hif with modUntil := [(9, 400)], modHeld := [(9, 5)] } }
set_option maxRecDepth 20000 in
theorem wit_Msix_interval : modUp.hostLink = true ∧ Sparse.get (fun _ => 0) modUp.hif.modUntil 9 ≠ 0 ∧
    Sparse.get (fun _ => 0) modUp.hif.modUntil 9 ≤ (modUp.at_ 500).now ∧ modUp.hif.modHeld.find? (fun x => x.1 == 9) = some (9, 5) := by decide

theorem wit_Sideband : State.reset.pins.powered = true ∧ State.reset.flag F.HIF_I3C_STATUS_ASSIGNED = false ∧
    (put [(F.HIF_I3C_STATUS_ASSIGNED, 1)] up).flag F.HIF_I3C_STATUS_ASSIGNED = true ∧ (put [(F.HIF_I3C_STATUS_ASSIGNED, 1)] up).pins.powered = true ∧
    ({ State.reset.pins with jtag := .extest }).jtag = .extest ∧ State.reset.pins.shifted.length = 13 := by decide

set_option maxRecDepth 20000 in
theorem wit_RegisterWrites : winUp.hostUp 0 = true ∧ winUp.hostUp 3 = true ∧ ({ winUp with hif := { winUp.hif with d3 := [3] } }).hostUp 3 = false ∧
    (3 : Fin 32) ≠ 0 ∧ winUp.fld (F.HIF_WIN_CTRL_OWNER ((0x300C0 - 0x30000) / 0x20)) = 3 ∧
    winUp.fld (F.HIF_QP_CTRL_OWNER ((0x20104 - 0x20000) / 0x40)) = 3 ∧ winUp.fld (F.HIF_QP_CTRL_OWNER ((0x44000 - 0x40000) / 0x1000)) = 3 ∧
    (regAt R.ADM_BAL_LIMIT).isSome = true ∧ regAt 0x1FFFFFC = none := by decide

set_option maxRecDepth 20000 in
theorem wit_Reads : winUp.hostUp 0 = true ∧ winUp.hostUp 3 = true ∧ (3 : Fin 32) ≠ 0 ∧ latches R.DKL_TIME_LO = true ∧
    latches R.COL_HEAD_SEQ_LO = true ∧ latches R.HIF_EVENT = false ∧ ({ winUp with hif := { winUp.hif with d3 := [3] } }).hostUp 3 = false ∧
    winUp.fld (F.HIF_WIN_CTRL_OWNER ((0x300C0 - 0x30000) / 0x20)) = 3 := by decide

/-- A candidate item of folio 7 that was computed in time: its one candidate was chosen, or masked; a block that was not computed. -/
def chosenItem (e : Bool) : Item :=
  { gateItem7 .outp .cand (some (.token (.chosen 0 5 9))) with
    doneAt := some 400, cands := [{ token := 11, isEnd := e, logit := 0 }] }
def maskedItem (late : Bool) : Item :=
  { gateItem7 .outp .cand (some (.token .allMasked)) with
    doneAt := some 400, cands := [{ token := 11, isEnd := false, logit := 0 }], masks := [(0, 3)], late := late }
def lateBlock : Item := gateItem7 .inp (.block 2) none
def tokenUp (i : Item) : State := streamUp .generating [i]
set_option maxRecDepth 20000 in
theorem wit_Tokens_chosen : ∀ e, (tokenUp (chosenItem e)).coreUp = true ∧
    (tokenUp (chosenItem e)).adm.live.find? ((tokenUp (chosenItem e)).at_ 500).gateDue = some (chosenItem e) ∧
    (chosenItem e).cands[0]? = some { token := 11, isEnd := e, logit := 0 } ∧ (chosenItem e).doneBy (chosenItem e).tRel = true ∧
    ((tokenUp (chosenItem e)).at_ 500).behind (chosenItem e) = false ∧ ((tokenUp (chosenItem e)).folio 7).misses (chosenItem e) = false ∧
    ((tokenUp (chosenItem e)).folio 7).pauseReq = false ∧ ((tokenUp (chosenItem e)).partner 3).state = PState.attached ∧
    ((tokenUp (chosenItem e)).partner 4).state = PState.attached := by decide
set_option maxRecDepth 20000 in
theorem wit_Tokens_masked : ∀ l, (tokenUp (maskedItem l)).adm.live.find? ((tokenUp (maskedItem l)).at_ 500).gateDue = some (maskedItem l) ∧
    (maskedItem l).doneBy (maskedItem l).tRel = true ∧ (maskedItem l).neverDone = false ∧
    ((tokenUp (maskedItem l)).at_ 500).behind (maskedItem l) = false ∧
    ((tokenUp (maskedItem l)).folio 7).withheld + 1 < (tokenUp (maskedItem l)).fld F.DKL_LATE_LIMIT_LIMIT := by decide
theorem wit_Tokens_block : (streamUp .screenIn [lateBlock]).adm.live.find? ((streamUp .screenIn [lateBlock]).at_ 500).gateDue = some lateBlock ∧
    lateBlock.doneBy lateBlock.tRel = false ∧ ((streamUp .screenIn [lateBlock]).at_ 500).behind lateBlock = false ∧
    ((streamUp .screenIn [lateBlock]).folio 7).misses lateBlock = false := by decide

/-! ### Ill-formed commands are refused by the check -/

def badCals : List CalIn := [{ temp := 45, age := 0, rows := [] }]

theorem test_wf_refuses_offset : (Instr.registerWrite 0 0 2 7).wf = false := by decide
theorem test_wf_refuses_tokens : (Instr.reqTokens 0 (hdOn 1) h7 0 []).wf = false := by decide
theorem test_wf_refuses_attrs : (Instr.reqAttr 0 (hdOn 1) h7 []).wf = false := by decide
theorem test_wf_refuses_page : (Instr.kvPage 0 (hdOn 3) h7 0 4 [1]).wf = false ∧ (Instr.kvPageEvict 0 (hdOn 2) h7 0 3 []).wf = false ∧
    (Instr.ftData 0 (hdOn 4) 0 5 [1]).wf = false := by decide
theorem test_wf_refuses_page_end : (Instr.kvEnd 0 (hdOn 3) h7 4194305).wf = false ∧ (Instr.kvEndEvict 0 (hdOn 2) h7 4194305).wf = false := by
  decide
theorem test_wf_refuses_candidates : (Instr.candList 0 (hdOn 2) (zeros 15)).wf = false := by decide
theorem test_wf_refuses_frame : (Instr.cascadeFrameRx 0 3 (zeros 63) []).wf = false := by decide
theorem test_wf_refuses_rows : (Instr.stateFetchDone 0 1 [32] none false).wf = false ∧
    (Instr.amtPassDone 0 0 0 [] [] [8] none false).wf = false ∧ (Instr.amtCalDone 0 0 0 []).wf = false := by decide
theorem test_wf_refuses_fec : (Instr.spnFecBlockRx 0 0 (some (16, 0, []))).wf = false := by decide
theorem test_wf_refuses_body : (Instr.hello 0 (hdOn 1) 1 1 (zeros 15)).wf = false ∧
    (Instr.caps 0 (hdOn 1) { gwCaps with maxCand := 65 }).wf = false := by decide
theorem test_wf_refuses_long_body : (Instr.unsupportedMessage 0 (hdOn 1) 0x7F (zeros 65553)).wf = false := by
  decide +kernel
theorem test_wf_refuses_chunk : (Instr.epdCheck 0 0 (.ok [])).wf = false ∧ (Instr.epdWrite 0 0 (.ok [1]) { blocks := [], pages := [] }).wf = false ∧
    (Instr.epdWriteDone 0 [.ok []] { blocks := [], pages := [] }).wf = false ∧ (Instr.epdResume 0 0 (.ok [])).wf = false := by decide
theorem test_wf_refuses_calibration : (Instr.coldStart 0 { coldIn with cals := badCals }).wf = false ∧
    (Instr.shlResetWarm 0 0 { warmIn with cals := badCals }).wf = false ∧ (Instr.shlResetQuire 0 0 0 0 [] badCals).wf = false ∧
    (Instr.scpWatchdogExpiry 0 { warmIn with cals := badCals }).wf = false ∧ (Instr.qsvWatchdogExpiry 0 0 0 [] badCals).wf = false ∧
    (Instr.qsvMemoryError 0 0 0 [] badCals).wf = false ∧ (Instr.pfFlr 0 { warmIn with cals := badCals }).wf = false ∧
    (Instr.pwrTransitionDone 0 { pwrIn with cals := badCals }).wf = false ∧ (Instr.thermalResume 0 badCals).wf = false := by decide
theorem test_wf_refuses_link : (Instr.pcieHotReset 0 6 16 warmIn).wf = false ∧ (Instr.pcieLinkDown 0 0 16 warmIn).wf = false ∧
    (Instr.coldStart 0 { coldIn with width := 2 }).wf = false ∧ (Instr.pwrTransitionDone 0 { pwrIn with speed := 7 }).wf = false := by decide
theorem test_wf_refuses_function : (Instr.vfFlr 0 0 []).wf = false ∧ (Instr.vfFlr 0 1 [64]).wf = false ∧
    (Instr.msixModIntervalEnd 0 1 32).wf = false ∧ (Instr.msixVectorUnmask 0 31 1023).wf = false := by decide
theorem test_wf_refuses_tamper : (Instr.tamperEvent 0 5 true).wf = false ∧ (Instr.secProvBegin 0 1 []).wf = false ∧
    (Instr.secProvCommit 0 [] { blocks := [], pages := [] }).wf = false := by decide
theorem test_wf_refuses_entry : (Instr.qpNop 0 0 (.ok [])).wf = false ∧ (Instr.qpFolioCancel 0 0 (.ok [])).wf = false ∧
    (Instr.qpFolioRelease 0 0 (.ok [])).wf = false ∧ (Instr.qpFolioRead 0 0 (.ok [])).wf = false ∧
    (Instr.qpCensusRead 0 0 (.ok [])).wf = false ∧ (Instr.qpCensusRetry 0 0 (.ok [])).wf = false := by decide
theorem test_wf_refuses_scan : (Instr.jtagExtest 0 [] []).wf = false ∧ (Instr.jtagSamplePreload 0 [] []).wf = false ∧
    (Instr.jtagBypass 0 1).wf = false := by decide
theorem test_wf_takes_good : (Instr.registerWrite 0 0 4 7).wf = true ∧ (Instr.reqTokens 0 (hdOn 1) h7 0 [5]).wf = true ∧
    (Instr.coldStart 0 coldIn).wf = true ∧ (Instr.shlResetWarm 0 0xB007 warmIn).wf = true := by decide

/-! ### Published vectors and worked examples -/

/-- CRC-32 of the ASCII string "123456789", the check value that is published with the polynomial. -/
theorem test_crc32_check : crc32 [0x31, 0x32, 0x33, 0x34, 0x35, 0x36, 0x37, 0x38, 0x39] = 0xCBF43926 := by decide +kernel

/-- Table 19.2: how many balls each group has. -/
theorem test_ball_counts : [BallGroup.spine, .pcie, .cascade, .refClk, .cmos, .dnc, .rail .core, .rail .shell].map ballCount =
    [512, 64, 16, 2, 22, 8, 960, 160] := by decide +kernel
theorem test_ball_counts_rails : [BallGroup.rail .sram, .rail .ana, .rail .aon, .rail .ser, .rail .hSer, .rail .io18, .rail .vppHbm,
    .rail .vddHbm, .rail .vddqHbm, .gnd].map ballCount = [240, 80, 8, 288, 96, 16, 32, 192, 224, 2264] := by decide +kernel
/-- Chapter 19's worked example, steps 1 to 3. -/
theorem test_ball_example : ballAt 72 29 = .spine 9 3 true true ∧ ballAt 72 30 = .spine 9 3 true false ∧ ballAt 66 27 = .spine 9 6 false true ∧
    ballAt 7 17 = .rail .hSer ∧ ballAt 7 18 = .gnd := by decide

/-- The check of SHA-256 on the empty string (FIPS 180-4). -/
theorem test_sha256_empty : (sha256 []).take 8 = [0xe3, 0xb0, 0xc4, 0x42, 0x98, 0xfc, 0x1c, 0x14] := by decide +kernel
/-- SHA-384 of the empty string (FIPS 180-4). -/
theorem test_sha384_empty : (sha384 []).take 8 = [0x38, 0xb0, 0x60, 0xa7, 0x51, 0xac, 0x96, 0x38] := by decide +kernel

/-- Chapter 12's worked example, steps 3 and 4: a CAPS that arrives within a tick attaches its partner in the next one. -/
theorem test_attach_tick : tickUp 50000004503 = 50000004510 := by decide

/-- Chapter 19's worked example, step 6: 745 mV is VID code 29, and DKL_RAIL reads 0x2E9. -/
theorem test_vid_code : (745 - 600) / 5 = (29 : Nat) ∧ (put [(F.DKL_RAIL_SETPOINT_MV, 745)] State.reset).rd R.DKL_RAIL = 0x2E9 := by decide

/-- A late step never runs the timebase backwards. -/
theorem test_time_never_falls : ((up.at_ 500).at_ 300).now = 500 := by decide

end Sys2Proof.Tests
end

section
/-!
The read of a register by the host (chapter 0, R12 and R35; chapter 18, R456 to R461): what a latch writes, what a read answers and what
it leaves as it was.
-/
namespace Sys2Proof.Machine

/-! ### Fields of a byte string -/

theorem unle_lt (bs : Bytes) : unle bs < 256 ^ bs.length := by
  induction bs with
  | nil => simp [unle]
  | cons b bs ih =>
    have hb := b.isLt
    simp only [unle, List.length_cons, pow_succ]
    omega

theorem slice_length (off n : Nat) (bs : Bytes) : (slice off n bs).length = n := by
  simp only [slice, List.length_append, List.length_replicate, List.length_take]
  omega

theorem fieldAt_lt (off n : Nat) (bs : Bytes) : fieldAt off n bs < 256 ^ n := by
  simpa [fieldAt, slice_length] using unle_lt (slice off n bs)

theorem wordOfBytes_lt (k : Nat) (bs : Bytes) : wordOfBytes k bs < 2 ^ 32 := fieldAt_lt (4 * k) 4 bs

theorem wordOfBytes_drop (k : Nat) (bs : Bytes) : wordOfBytes k (bs.drop 4) = wordOfBytes (k + 1) bs := by
  simp only [wordOfBytes, fieldAt, slice, List.drop_drop]
  rw [show 4 + 4 * k = 4 * (k + 1) by omega]

/-! ### A byte string stored in registers (R501) -/

/-- Storing words touches the register file alone. -/
theorem State.wrWords_frame (off n : Nat) (bs : Bytes) (s : State) : ∃ m, State.wrWords off n bs s = { s with regs := m } := by
  induction n generalizing off bs s with
  | zero => exact ⟨s.regs, rfl⟩
  | succ n ih => exact ih (off + 4) (bs.drop 4) (s.wr off (fieldAt 0 4 bs))

theorem State.rd_wrWords_ne (off n : Nat) (bs : Bytes) (s : State) (o : Nat) (h : ∀ k < n, o ≠ off + 4 * k) :
    (State.wrWords off n bs s).rd o = s.rd o := by
  induction n generalizing off bs s with
  | zero => rfl
  | succ n ih =>
    have hrest : ∀ k < n, o ≠ off + 4 + 4 * k := fun k hk => by have := h (k + 1) (by omega); omega
    have hfirst : o ≠ off := h 0 (by omega)
    rw [State.wrWords, ih _ _ _ hrest, State.rd_wr, if_neg hfirst]

/-- Word k of the string is read back from the kth register. -/
theorem State.rd_wrWords (off n : Nat) (bs : Bytes) (s : State) (k : Nat) (hk : k < n) :
    (State.wrWords off n bs s).rd (off + 4 * k) = wordOfBytes k bs := by
  induction n generalizing off bs s k with
  | zero => omega
  | succ n ih =>
    cases k with
    | zero =>
      rw [State.wrWords, State.rd_wrWords_ne _ _ _ _ _ (fun k _ => by omega), State.rd_wr, if_pos (by omega)]
      exact Nat.mod_eq_of_lt (wordOfBytes_lt 0 bs)
    | succ k =>
      rw [State.wrWords, show off + 4 * (k + 1) = off + 4 + 4 * k by omega, ih _ _ _ _ (by omega), wordOfBytes_drop]

/-! ### The latch of a high half (R35, R346) -/

theorem State.latchHi_of_not_latches {off : Nat} (h : latches off = false) (s : State) : s.latchHi off = s := by
  simp [State.latchHi, h]

theorem State.latchHi_of_latches {off : Nat} (h : latches off = true) (s : State) :
    s.latchHi off = State.wr (off + 4) ((s.view? off).getD 0 / 2 ^ 32)
      (if off = R.COL_HEAD_SEQ_LO then s.wrWords (R.COL_HEAD_DIGEST 0) 12 (s.headAt s.headSeq) else s) := by
  simp only [State.latchHi, h, if_true]

/-- A latch touches the register file alone. -/
theorem State.latchHi_frame (off : Nat) (s : State) : ∃ m, s.latchHi off = { s with regs := m } := by
  cases h : latches off with
  | false => exact ⟨s.regs, State.latchHi_of_not_latches h s⟩
  | true =>
    rw [State.latchHi_of_latches h]
    split
    · obtain ⟨m, hm⟩ := State.wrWords_frame (R.COL_HEAD_DIGEST 0) 12 (s.headAt s.headSeq) s
      rw [hm]
      exact ⟨_, rfl⟩
    · exact ⟨_, rfl⟩

theorem State.rd_latchHi_next {off : Nat} (h : latches off = true) (s : State) :
    (s.latchHi off).rd (off + 4) = (s.view? off).getD 0 / 2 ^ 32 % 2 ^ 32 := by
  rw [State.latchHi_of_latches h, State.rd_wr, if_pos rfl]

/-- The head's digest is latched beside the head's SEQ (R346). -/
theorem State.rd_latchHi_headDigest (s : State) {k : Nat} (hk : k < 12) :
    (s.latchHi R.COL_HEAD_SEQ_LO).rd (R.COL_HEAD_DIGEST k) = wordOfBytes k (s.headAt s.headSeq) := by
  have hne : R.COL_HEAD_DIGEST k ≠ R.COL_HEAD_SEQ_LO + 4 := by simp only [R.COL_HEAD_DIGEST, R.COL_HEAD_SEQ_LO]; omega
  rw [State.latchHi_of_latches (by decide), if_pos rfl, State.rd_wr, if_neg hne]
  exact State.rd_wrWords (R.COL_HEAD_DIGEST 0) 12 _ s k hk

/-- The registers that the read of a latching low half can change. -/
theorem State.latchHi_regsBut (off : Nat) (s : State) :
    RegsBut ((off + 4) :: (if off = R.COL_HEAD_SEQ_LO then (List.range 12).map R.COL_HEAD_DIGEST else [])) s (s.latchHi off) := by
  cases h : latches off with
  | false => rw [State.latchHi_of_not_latches h]; exact RegsBut.refl _ s
  | true =>
    rw [State.latchHi_of_latches h]
    refine RegsBut.wr ?_ _ _ List.mem_cons_self
    split
    · intro o ho
      refine State.rd_wrWords_ne _ _ _ _ _ fun k hk e => ho (List.mem_cons_of_mem _ ?_)
      exact List.mem_map.mpr ⟨k, List.mem_range.mpr hk, e.symm⟩
    · exact RegsBut.refl _ s

/-! ### What was answered before is not shown by any register -/

@[simp] theorem State.answer_rd (space off : Nat) (data : Bytes) (s : State) (o : Nat) : (s.answer space off data).rd o = s.rd o := rfl

@[simp] theorem State.answer_view? (space off : Nat) (data : Bytes) (s : State) (o : Nat) :
    (s.answer space off data).view? o = s.view? o := rfl

theorem State.at_msixEnt (t k : Nat) (s : State) : (s.at_ t).msixEnt k = s.msixEnt k := by simp [State.msixEnt]

theorem State.view?_timeLo (s : State) : s.view? R.DKL_TIME_LO = some s.now := rfl

theorem State.readReg_timeLo (s : State) : s.readReg R.DKL_TIME_LO = s.now % 2 ^ 32 := by
  rw [State.readReg, State.view?_timeLo, Option.getD_some]

/-! ### What each function reads -/

theorem doReadLoLatchHi_pf (off : Nat) (s : State) : doReadLoLatchHi 0 off s =
    State.latchHi (off / 4 * 4) (s.answer 0 (off / 4 * 4) (le 4 (s.readReg (off / 4 * 4)))) := rfl

/-- The virtual function fn owns the queue pair whose configuration or whose doorbells are at this offset of its BAR 0. -/
abbrev State.ownsQpAt (s : State) (fn off : Nat) : Prop :=
  (0x20000 ≤ off ∧ off < 0x21000 ∧ s.fld (F.HIF_QP_CTRL_OWNER ((off - 0x20000) / 0x40)) = fn) ∨
  (0x40000 ≤ off ∧ off < 0x80000 ∧ s.fld (F.HIF_QP_CTRL_OWNER ((off - 0x40000) / 0x1000)) = fn)

/-- It owns the window whose configuration is at this offset. -/
abbrev State.ownsWinAt (s : State) (fn off : Nat) : Prop :=
  0x30000 ≤ off ∧ off < 0x30800 ∧ s.fld (F.HIF_WIN_CTRL_OWNER ((off - 0x30000) / 0x20)) = fn

theorem State.vfMirror_of_ownsQpAt {s : State} {fn off : Nat} (h : s.ownsQpAt fn off) :
    s.vfMirror fn off = some (off + 0x1800000) := by
  obtain ⟨hlo, hhi, ho⟩ | ⟨hlo, hhi, ho⟩ := h
  · simp only [State.vfMirror, hlo, hhi, ho, decide_true, Bool.and_self, if_true, Option.some.injEq]
    omega
  · have h2 : ¬off < 0x21000 := by omega
    have h3 : ¬off < 0x30800 := by omega
    simp only [State.vfMirror, hlo, hhi, ho, h2, h3, decide_true, decide_false, Bool.and_self, Bool.and_false, if_true,
      Bool.false_eq_true, if_false, Option.some.injEq]
    omega

theorem State.vfMirror_of_ownsWinAt {s : State} {fn off : Nat} (h : s.ownsWinAt fn off) :
    s.vfMirror fn off = some (off + 0x17E0000) := by
  obtain ⟨hlo, hhi, ho⟩ := h
  have h2 : ¬off < 0x21000 := by omega
  simp only [State.vfMirror, hlo, hhi, ho, h2, decide_true, decide_false, Bool.and_self, Bool.and_false, if_true,
    Bool.false_eq_true, if_false, Option.some.injEq]
  omega

theorem State.vfMirror_of_not_owns {s : State} {fn off : Nat} (hq : ¬s.ownsQpAt fn off) (hw : ¬s.ownsWinAt fn off) :
    s.vfMirror fn off = none := by
  simp only [State.ownsQpAt, State.ownsWinAt, not_or, not_and] at hq hw
  simp only [State.vfMirror, Bool.and_eq_true, decide_eq_true_eq]
  split_ifs with h₁ ho₁ h₂ ho₂ h₃ ho₃
  · exact absurd ho₁ (hq.1 h₁.1 h₁.2)
  · rfl
  · exact absurd ho₂ (hw h₂.1 h₂.2)
  · rfl
  · exact absurd ho₃ (hq.2 h₃.1 h₃.2)
  · rfl
  · rfl

/-- What a virtual function sees of the PF's registers lies in the host interface's block, above the fault registers (Table 18.5). -/
theorem State.vfMirror_range {s : State} {fn off o : Nat} (h : s.vfMirror fn off = some o) : 0x1810000 ≤ o ∧ o < 0x1880000 := by
  by_cases hq : s.ownsQpAt fn off
  · rw [State.vfMirror_of_ownsQpAt hq, Option.some.injEq] at h
    obtain ⟨hlo, hhi, -⟩ | ⟨hlo, hhi, -⟩ := hq <;> omega
  · by_cases hw : s.ownsWinAt fn off
    · rw [State.vfMirror_of_ownsWinAt hw, Option.some.injEq] at h
      obtain ⟨hlo, hhi, -⟩ := hw
      omega
    · rw [State.vfMirror_of_not_owns hq hw] at h
      cases h

theorem not_latches_of_mirrored {o : Nat} (hlo : 0x1810000 ≤ o) (hhi : o < 0x1880000) : latches o = false := by
  have hblock : o / 0x100000 = 24 := by omega
  have hlist : o ∉ loWhole := fun hm => by
    have hbound : ∀ x ∈ loWhole, x < 0x1810000 := by decide
    exact absurd (hbound o hm) (by omega)
  simp [latches, hblock, hlist]

/-- A virtual function's read records what it answers and latches nothing. -/
theorem doReadLoLatchHi_vf {fn : Nat} (hf : fn ≠ 0) (off : Nat) (s : State) : doReadLoLatchHi fn off s =
    s.answer 0 (off / 4 * 4) (le 4 (s.bar0Read fn (off / 4 * 4)).1) := by
  have hlatch : ∀ o, (s.bar0Read fn (off / 4 * 4)).2 = some o → latches o = false := by
    intro o h
    simp only [State.bar0Read, if_neg hf] at h
    split_ifs at h
    cases hm : s.vfMirror fn (off / 4 * 4) with
    | none => rw [hm] at h; cases h
    | some p =>
      rw [hm] at h
      cases h
      obtain ⟨hlo, hhi⟩ := State.vfMirror_range hm
      exact not_latches_of_mirrored hlo hhi
  simp only [doReadLoLatchHi]
  split
  case h_1 o ho => exact State.latchHi_of_not_latches (hlatch o ho) _
  case h_2 => rfl

theorem State.msixTable_vf (s : State) (fn off : Nat) (h : 0x10000 ≤ off) : s.msixTable fn (off - 0x10000) =
    (s.msixEnt (1024 * fn + (off - 0x10000) / 16)).word (off % 16 / 4) := by
  rw [State.msixTable, msixKey, show (off - 0x10000) % 16 = off % 16 by omega]

theorem State.msixPba_vf (s : State) (fn : Nat) : s.msixPba fn 32 0 =
    sumOf (fun i => if (s.msixEnt (1024 * fn + i)).pending then 2 ^ i else 0) (List.range 32) := by
  refine congrArg List.sum (List.map_congr_left fun i hi => ?_)
  simp [msixKey, List.mem_range.mp hi]

/-- What a virtual function reads: its number, its tenants, its vectors, and the queue pairs and windows that it owns (R461). -/
theorem State.bar0Read_vf {fn off : Nat} (hf : fn ≠ 0) (ha : off % 4 = 0) (s : State) : (s.bar0Read fn off).1 =
    if off = 0 then fn else if off = 4 then s.rd (R.HIF_VF_TENANTS fn)
    else if 0x10000 ≤ off ∧ off < 0x10200 then (s.msixEnt (1024 * fn + (off - 0x10000) / 16)).word (off % 16 / 4)
    else if off = 0x18000 then sumOf (fun i => if (s.msixEnt (1024 * fn + i)).pending then 2 ^ i else 0) (List.range 32)
    else if s.ownsQpAt fn off then s.readReg (off + 0x1800000)
    else if s.ownsWinAt fn off then s.readReg (off + 0x17E0000) else 0 := by
  have hpba : (0x18000 ≤ off ∧ off < 0x18004) ↔ off = 0x18000 := by omega
  simp only [State.bar0Read, if_neg hf, Bool.and_eq_true, decide_eq_true_eq, hpba]
  split_ifs with h0 h4 ht hp hq hw
  · rfl
  · rfl
  · exact s.msixTable_vf fn off ht.1
  · subst hp; exact s.msixPba_vf fn
  · rw [State.vfMirror_of_ownsQpAt hq]
  · rw [State.vfMirror_of_ownsWinAt hw]
  · rw [State.vfMirror_of_not_owns hq hw]

/-! ### Running the read -/

theorem backTo_at (t : Nat) (s : State) : BackTo s (s.at_ t) := by
  rw [State.at_eq]; rfl

/-- An access of a function that the host does not reach changes the time at most (R456). -/
theorem answers_hostDown {i : Instr} {s : State} {P : State → Prop} {t fn : Nat} {f : State → State}
    (e : exec i s = runHost t fn f s) (hs : s.hostUp fn = false) (h : P s) (hat : P (s.at_ t)) : Answers i s P := by
  cases hp : s.pins.powered with
  | false => exact ⟨s, e.trans (by simp [runHost, run, hp]), h⟩
  | true => exact ⟨s.at_ t, e.trans (by simp [runHost, run, hp, hs]), hat⟩

theorem exec_readLoLatchHi (t : Nat) (fn : Fin 32) (off : BitVec 25) (s : State) :
    exec (.readLoLatchHi t fn off) s = runHost t fn.val (doReadLoLatchHi fn.val off.toNat) s := rfl

/-- Settles O59. A function that the host does not reach reads nothing; a read of the PF is an answer and a latch; a read of a virtual
function is an answer alone. -/
theorem registerReadHasNoSideEffect : Obligations.RegisterReadHasNoSideEffect := by
  unfold Obligations.RegisterReadHasNoSideEffect
  refine ⟨fun t fn off s hdown => ?unreached, fun t off s hup => ?pf, fun t fn off s hup hfn => ?vf⟩
  case unreached =>
    exact answers_hostDown (exec_readLoLatchHi t fn off s) hdown ⟨RegsBut.refl _ s, rfl⟩
      ⟨fun o _ => State.at_rd t s o, backTo_at t s⟩
  case pf =>
    refine answers_host (exec_readLoLatchHi t 0 off s) hup fun m n k l => ?_
    simp only [Fin.val_zero, doReadLoLatchHi_pf]
    generalize off.toNat / 4 * 4 = a
    generalize hz : (s.at_ t).answer 0 a (le 4 ((s.at_ t).readReg a)) = z
    have hview : z.view? a = (s.at_ t).view? a := by rw [← hz, State.answer_view?]
    have hrd : ∀ o, z.rd o = s.rd o := fun o => by rw [← hz, State.answer_rd, State.at_rd]
    obtain ⟨r, hr⟩ := State.latchHi_frame a z
    refine ⟨?answer, fun hno => ?none, fun hlatch => ⟨?next, ?frame⟩, ?head, ?time, ?back⟩
    case answer => rw [hr, ← hz, State.at_eq]; rfl
    case none => rw [State.latchHi_of_not_latches hno]; exact fun o _ => hrd o
    case next => rw [← hview]; exact State.rd_latchHi_next hlatch z
    case frame => exact fun o ho => (State.latchHi_regsBut a z o ho).trans (hrd o)
    case head =>
      rintro rfl j hj
      have hhead : z.headAt z.headSeq = s.headAt s.headSeq := by rw [← hz, State.at_eq]; rfl
      rw [← hhead]
      exact State.rd_latchHi_headDigest z hj
    case time =>
      rintro rfl
      have hnow : (z.latchHi R.DKL_TIME_LO).now = (s.at_ t).now := by rw [hr, ← hz]; rfl
      rw [State.vectors_now, hnow]
      exact ⟨State.readReg_timeLo _, (State.rd_latchHi_next (by decide) z).trans (by rw [hview, State.view?_timeLo, Option.getD_some])⟩
    case back => rw [hr, ← hz, State.at_eq]; rfl
  case vf =>
    have hf : fn.val ≠ 0 := fun h => hfn (Fin.ext h)
    refine answers_host (exec_readLoLatchHi t fn off s) hup fun m n k l => ?_
    rw [doReadLoLatchHi_vf hf, State.bar0Read_vf hf (by omega)]
    refine ⟨?answer, fun o _ => State.at_rd t s o, ?back⟩
    case answer => simp only [State.at_rd, State.at_msixEnt]; rw [State.at_eq]; rfl
    case back => rw [State.at_eq]; rfl

end Sys2Proof.Machine
end

section
/-!
The refusal of a speculative candidate batch (chapter 1, R32; chapter 10, R248; chapter 11, R285): what a message put in a send queue and
a REJECT leave as they were, and which answer the batch gets.
-/
namespace Sys2Proof.Machine

/-! ### Registers that an event counts and shows -/

theorem State.rd_inc (off off' : Nat) (s : State) :
    (s.inc off).rd off' = if off' = off then (s.rd off + 1) % 2 ^ 32 else s.rd off' := by
  rw [State.inc, State.rd_wr, Nat.mod_mod]

/-- A status bit lies within its register and is a single bit, so that setting it shows it. -/
theorem State.flag_see (f : Fld) (s : State) (hok : f.ok = true) (hbit : f.hi = f.lo) : (s.see f).flag f = true := by
  have hone : f.hi + 1 - f.lo = 1 := by omega
  rw [State.flag_eq, State.see_eq, State.fld_setFld f 1 s hok, hone]
  rfl

/-- A flag in a register that is not among those that changed reads as before. -/
theorem RegsBut.flag {offs : List Nat} {s u : State} (h : RegsBut offs s u) {f : Fld} (hf : f.off ∉ offs) : u.flag f = s.flag f := by
  have hrd : u.regs.rd f.off = s.regs.rd f.off := h f.off hf
  simp only [State.flag, RegFile.fld, hrd]

/-- An event is counted in one register and shown in another, and nothing else changes. -/
theorem State.inc_see_frame (off : Nat) (f : Fld) (s : State) : ∃ m, (s.inc off).see f = { s with regs := m } := ⟨_, rfl⟩

/-! ### What a message of the part's own and a REJECT change (R285, R288) -/

/-- The message is recorded, and the port's send queue may take it. -/
theorem State.send_frame (dst : Endp) (vc tag status : Nat) (body : MsgBody) (s : State) : ∃ p, s.send dst vc tag status body =
    { s with ports := p, out := { tick := s.tick, dst := dst, vc := vc, tag := tag, status := status, body := body } :: s.out } := by
  unfold State.send
  dsimp only
  split_ifs with hup hretrain
  · exact ⟨_, rfl⟩
  · exact ⟨_, rfl⟩
  · exact ⟨s.ports, rfl⟩

theorem State.countReject_regsBut (port : Nat) (s : State) : RegsBut (rejectRegs port) s (s.countReject port) :=
  ((RegsBut.refl _ s).wr _ _ List.mem_cons_self).setFld (F.SPN_PORT_STATUS_REJECT_SEEN port) 1
    (List.mem_cons_of_mem _ List.mem_cons_self)

/-- A REJECT is one message, and changes no more than registers and the port beside it. -/
theorem State.reject_frame (src : Endp) (type tag handle status : Nat) (s : State) : ∃ m p, s.reject src type tag handle status =
    { s with regs := m, ports := p, out := { tick := s.tick, dst := src, vc := 2, tag := tag, status := status,
                                             body := .reject type tag handle } :: s.out } := by
  obtain ⟨m, hm⟩ := State.inc_see_frame (R.SPN_PORT_REJECT_COUNT src.port) (F.SPN_PORT_STATUS_REJECT_SEEN src.port) s
  obtain ⟨p, hp⟩ := State.send_frame src 2 tag status (.reject type tag handle) { s with regs := m }
  exact ⟨m, p, by rw [State.reject, State.countReject, hm, hp]; rfl⟩

theorem State.reject_regsBut (src : Endp) (type tag handle status : Nat) (s : State) :
    RegsBut (rejectRegs src.port) s (s.reject src type tag handle status) := by
  obtain ⟨p, hp⟩ := State.send_frame src 2 tag status (.reject type tag handle) (s.countReject src.port)
  exact (State.countReject_regsBut src.port s).of_regs (by rw [State.reject, hp])

/-- The registers of token selection lie below those of the ports. -/
theorem not_mem_rejectRegs_of_lt {off : Nat} (h : off < 0x1100004) (p : Nat) : off ∉ rejectRegs p := by
  simp only [rejectRegs, R.SPN_PORT_REJECT_COUNT, R.SPN_PORT_STATUS, List.mem_cons, List.not_mem_nil, or_false]
  omega

/-! ### The speculative batch (R32, R248) -/

@[simp] theorem State.at_sender (t : Nat) (s : State) (e : Endp) : (s.at_ t).sender e = s.sender e := by
  rw [State.at_eq]; rfl

@[simp] theorem State.at_limp (t : Nat) (s : State) : (s.at_ t).limp = s.limp := State.at_flag t s F.EPD_STATE_LIMP

/-- A message from an attached partner of a kind that may send it goes to its owner (R285 steps 2 and 3). -/
theorem State.fromPartner_of_kind {src : Endp} {kinds : List PKind} {s : State} {p : Nat} {pr : Partner}
    (hsrc : s.sender src = some (p, pr)) (hkind : kinds.contains pr.kind = true) (refuse : State → State)
    (f : Nat → State → State) : s.fromPartner src kinds refuse f = f p s := by
  simp only [State.fromPartner, hsrc, hkind, if_true]

/-- SPECULATIVE is looked at before every other field of the batch. -/
theorem State.candRefuse_of_speculative {s : State} {body : Bytes} (hlimp : s.limp = false)
    (hspec : bitOf 0 (fieldAt 3 1 body) = true) (p : Nat) : s.candRefuse body p = some 0x14 := by
  simp only [State.candRefuse, hlimp, hspec, Bool.false_eq_true, if_true, if_false]

/-- The refusal of a batch and its being speculative are counted and shown (R32, R248). -/
def State.countSpeculative (s : State) : State :=
  (((s.inc R.TSU_REJECT_COUNT).see F.TSU_STATUS_REJECT_SEEN).inc R.TSU_SPEC_COUNT).see F.TSU_STATUS_SPEC_SEEN

/-- What counts and shows a speculative batch touches the register file alone. -/
theorem State.countSpeculative_frame (s : State) : ∃ m, s.countSpeculative = { s with regs := m } := by
  obtain ⟨m, hm⟩ := State.inc_see_frame R.TSU_REJECT_COUNT F.TSU_STATUS_REJECT_SEEN s
  obtain ⟨m', hm'⟩ := State.inc_see_frame R.TSU_SPEC_COUNT F.TSU_STATUS_SPEC_SEEN { s with regs := m }
  exact ⟨m', by rw [State.countSpeculative, hm, hm']⟩

theorem State.rd_countSpeculative (s : State) :
    s.countSpeculative.rd R.TSU_SPEC_COUNT = (s.rd R.TSU_SPEC_COUNT + 1) % 2 ^ 32 := by
  rw [State.countSpeculative, State.see_eq, State.rd_setFld_ne _ _ _ _ (by decide), State.rd_inc, if_pos rfl,
    State.see_eq, State.rd_setFld_ne _ _ _ _ (by decide), State.rd_inc, if_neg (by decide)]

theorem State.flag_countSpeculative (s : State) : s.countSpeculative.flag F.TSU_STATUS_SPEC_SEEN = true :=
  State.flag_see _ _ (by decide) rfl

/-- A speculative batch from the DECODE partner is counted and rejected, and nothing else comes of it. -/
theorem doCandList_of_speculative {hd : Hdr} {body : Bytes} {s : State} {p : Nat} {pr : Partner}
    (hsrc : s.sender hd.src = some (p, pr)) (hkind : pr.kind = .decode) (hlimp : s.limp = false)
    (hspec : bitOf 0 (fieldAt 3 1 body) = true) : doCandList hd body s =
      s.countSpeculative.reject hd.src 0x30 hd.tag.toNat (handleOf (fieldAt 0 2 body) (fieldAt 2 1 body)) 0x14 := by
  rw [doCandList, State.fromPartner_of_kind hsrc (by rw [hkind]; rfl)]
  simp [State.candRefuse_of_speculative hlimp hspec p, hspec, State.countSpeculative]

theorem exec_candList (t : Nat) (hd : Hdr) (body : Bytes) (s : State) :
    exec (.candList t hd body) s = runMsg t hd.port.val (doCandList hd body) s := rfl

/-- Settles O26. The batch is counted and rejected, and both change registers, the port and the sent messages alone. -/
theorem speculativeCandListIsRejected : Obligations.SpeculativeCandListIsRejected := by
  unfold Obligations.SpeculativeCandListIsRejected
  intro t p pr hd body s hup hsrc hkind hlimp hspec
  refine answers_msg (exec_candList t hd body s) hup fun m n k l => ?_
  rw [doCandList_of_speculative ((State.at_sender t s hd.src).trans hsrc) hkind ((State.at_limp t s).trans hlimp) hspec]
  generalize handleOf (fieldAt 0 2 body) (fieldAt 2 1 body) = handle
  have hregs := State.reject_regsBut hd.src 0x30 hd.tag.toNat handle 0x14 (s.at_ t).countSpeculative
  have hcount : R.TSU_SPEC_COUNT ∉ rejectRegs hd.src.port := not_mem_rejectRegs_of_lt (by decide) _
  have hseen : F.TSU_STATUS_SPEC_SEEN.off ∉ rejectRegs hd.src.port := not_mem_rejectRegs_of_lt (by decide) _
  refine ⟨?replied, ?items, ?folios, ?engines, ?chain, ?count, ?seen, ?back⟩
  case count => rw [State.vectors_rd, hregs _ hcount, State.rd_countSpeculative, State.at_rd]
  case seen => rw [State.vectors_flag, hregs.flag hseen, State.flag_countSpeculative]
  case replied | items | folios | engines | chain | back =>
    obtain ⟨c, hc⟩ := State.countSpeculative_frame (s.at_ t)
    obtain ⟨r, q, hframe⟩ := State.reject_frame hd.src 0x30 hd.tag.toNat handle 0x14 (s.at_ t).countSpeculative
    rw [hframe, hc, State.at_eq]
    rfl

end Sys2Proof.Machine
end

section
/-!
PROGRAM of the non-volatile store (chapter 16, R405 to R407): what a command that passes the checks of its range, its window and its form
does, and what each page of the store holds after pages were programmed.
-/
namespace Sys2Proof.Machine

/-! ### Pages of the store -/

theorem padTo_of_length {n : Nat} {bs : Bytes} (h : bs.length = n) : padTo n bs = bs := by
  subst h
  simp [padTo, slice]

theorem Nvm.page_setPage (n : Nvm) (p : Nat) (bs : Bytes) (q : Nat) :
    Nvm.page { n with pages := Sparse.set blankPage n.pages p bs } q = if q = p then bs else n.page q :=
  Sparse.get_set blankPage n.pages p bs q

/-- The bytes of one page of the store. -/
theorem Nvm.read_page (n : Nvm) (p : Nat) : n.read (256 * p) 256 = padTo 256 (n.page p) := by
  have hoff : 256 * p % 256 = 0 := by omega
  have hno : 256 * p / 256 = p := by omega
  have hone : ceilDiv (0 + 256) 256 = 1 := by decide
  rw [Nvm.read, hoff, hno, hone, Nvm.readPages, Nvm.readPages, List.append_nil, padTo]

/-- The pages that a byte string covers are distinct. -/
theorem asPages_keys_nodup (p : Nat) (bs : Bytes) : ((asPages p bs).map Prod.fst).Nodup := by
  have hkeys : (asPages p bs).map Prod.fst = ((records 256 (ceilDiv bs.length 256) bs).zipIdx.map Prod.snd).map (p + ·) := by
    simp only [asPages, List.map_map, Function.comp_def]
  rw [hkeys]
  exact (List.nodup_zipIdx_map_snd _).map (add_right_injective p)

/-! ### Programming pages whose verify passes (R407) -/

section Verified
variable {bad : NvmBad} (hbad : bad.pages = []) (torn : Nat)
include hbad

theorem Nvm.programAll_cons_of_verified (p : Nat) (bs : Bytes) (ps : List (Nat × Bytes)) (n : Nvm) :
    Nvm.programAll bad torn ((p, bs) :: ps) n =
      Nvm.programAll bad torn ps { n with pages := Sparse.set blankPage n.pages p (padTo 256 bs) } := by
  simp [Nvm.programAll, Nvm.programPage, hbad]

theorem Nvm.programAll_snd_of_verified (ps : List (Nat × Bytes)) (n : Nvm) : (Nvm.programAll bad torn ps n).2 = true := by
  induction ps generalizing n with
  | nil => rfl
  | cons x ps ih => rw [Nvm.programAll_cons_of_verified hbad]; exact ih _

theorem Nvm.page_programAll_of_not_mem {q : Nat} {ps : List (Nat × Bytes)} (n : Nvm) (hq : q ∉ ps.map Prod.fst) :
    (Nvm.programAll bad torn ps n).1.page q = n.page q := by
  induction ps generalizing n with
  | nil => rfl
  | cons x ps ih =>
    obtain ⟨hne, hrest⟩ : q ≠ x.1 ∧ q ∉ ps.map Prod.fst := by simpa only [List.map_cons, List.mem_cons, not_or] using hq
    rw [Nvm.programAll_cons_of_verified hbad, ih _ hrest, Nvm.page_setPage, if_neg hne]

/-- Each programmed page holds what it was programmed with, since no later page of the list is the same one. -/
theorem Nvm.page_programAll_of_mem {q : Nat} {bs : Bytes} {ps : List (Nat × Bytes)} (n : Nvm) (hps : (ps.map Prod.fst).Nodup)
    (hq : (q, bs) ∈ ps) : (Nvm.programAll bad torn ps n).1.page q = padTo 256 bs := by
  induction ps generalizing n with
  | nil => cases hq
  | cons x ps ih =>
    obtain ⟨hlast, hrest⟩ := List.nodup_cons.mp hps
    rw [Nvm.programAll_cons_of_verified hbad]
    cases hq with
    | head => rw [Nvm.page_programAll_of_not_mem hbad torn _ hlast, Nvm.page_setPage, if_pos rfl]
    | tail _ hmem => exact ih _ hrest hmem

end Verified

/-! ### The start and the end of a command of NVM_CMD -/

@[simp] theorem State.setNvm_nvm (r : Nvm × Bool) (s : State) : (s.setNvm r).nvm = r.1 := by
  simp only [State.setNvm]
  split_ifs <;> rfl

theorem State.nvmProgram_nvm (bad : NvmBad) (ps : List (Nat × Bytes)) (s : State) :
    (s.nvmProgram bad ps).2.nvm = (s.nvm.programAll bad s.free ps).1 := State.setNvm_nvm _ s

@[simp] theorem State.nvmEnd_nvm (st : Nat) (s : State) : (s.nvmEnd st).nvm = { s.nvm with op := none } := rfl

/-- The status that a command ends with has 8 bits. -/
theorem State.nvmEnd_done {st : Nat} (h : st < 256) (s : State) : NvmDone (s.nvmEnd st) st := by
  have hregs : (s.nvmEnd st).regs = ((s.setFld F.NVM_RESULT_STATUS st).setFld F.NVM_RESULT_BUSY 0).regs := rfl
  have hstatus : (s.nvmEnd st).fld F.NVM_RESULT_STATUS = st := by
    rw [State.fld_congr hregs, State.fld_setFld_ne _ _ _ _ (by decide) (by decide), State.fld_setFld _ _ _ (by decide)]
    exact Nat.mod_eq_of_lt h
  have hbusy : (s.nvmEnd st).fld F.NVM_RESULT_BUSY = 0 := by
    rw [State.fld_congr hregs, State.fld_setFld _ _ _ (by decide)]
    rfl
  exact ⟨hstatus, by rw [State.flag_eq, hbusy]; rfl, rfl⟩

@[simp] theorem nvmDone_vectors (a b c d) (s : State) (st : Nat) : NvmDone (s.vectors a b c d) st ↔ NvmDone s st := Iff.rfl

/-- A command that passed its checks runs: nothing but NVM_RESULT and the command that is under way shows it. -/
def State.nvmBegin (o : NvmOp) (s : State) : State :=
  let s := (s.setFld F.NVM_RESULT_STATUS 0).setFld F.NVM_RESULT_BUSY 1
  { s with nvm := { s.nvm with op := some o } }

@[simp] theorem State.nvmBegin_nvm (o : NvmOp) (s : State) : (s.nvmBegin o).nvm = { s.nvm with op := some o } := rfl

theorem State.nvmBegin_busy (o : NvmOp) (s : State) : (s.nvmBegin o).flag F.NVM_RESULT_BUSY = true := by
  have hregs : (s.nvmBegin o).regs = ((s.setFld F.NVM_RESULT_STATUS 0).setFld F.NVM_RESULT_BUSY 1).regs := rfl
  rw [State.flag_eq, State.fld_congr hregs, State.fld_setFld _ _ _ (by decide)]
  rfl

/-- Points 1 and 2 of R405 pass for a range in the user area. -/
theorem State.nvmRange_user {read : Bool} {s : State} (hlo : 352 * 65536 ≤ s.fld F.NVM_ADDR_ADDR)
    (hhi : s.fld F.NVM_ADDR_ADDR < 992 * 65536) (hend : s.fld F.NVM_ADDR_ADDR + s.rd R.NVM_LEN ≤ 992 * 65536) :
    s.nvmRange read = (0, s) := by
  simp only [State.nvmRange, nvmArea, decide_eq_true hlo, decide_eq_true hhi, Bool.and_self, if_true, if_neg (Nat.not_lt.mpr hend)]

/-- Of a command that passes every check but the last of R405, the last decides. -/
theorem State.nvmCmd_of_checks {op win : Nat} {write : Bool} {form : Nat → Nat → Bool} {last : State → Nat} {s : State}
    (hidle : s.flag F.NVM_RESULT_BUSY = false) (hlock : s.lockdown = false) (hrange : s.nvmRange (op == 1) = (0, s))
    (hdma : s.dmaStatus win 0 write (s.rd64 R.NVM_HOST_LO R.NVM_HOST_HI) (s.rd R.NVM_LEN) = 0) (hwr : s.nvm.readOnly = false)
    (hform : form (s.fld F.NVM_ADDR_ADDR) (s.rd R.NVM_LEN) = true) :
    s.nvmCmd op win (some write) form last =
      if last s ≠ 0 then s.nvmEnd (last s)
      else s.nvmBegin { op := op, addr := s.fld F.NVM_ADDR_ADDR, len := s.rd R.NVM_LEN, win := win,
                        host := s.rd64 R.NVM_HOST_LO R.NVM_HOST_HI } := by
  simp [State.nvmCmd, State.dmaCheck, State.nvmBegin, hidle, hlock, hrange, hdma, hwr, hform]

/-! ### What time leaves unchanged -/

@[simp] theorem State.at_nvm (t : Nat) (s : State) : (s.at_ t).nvm = s.nvm := by rw [State.at_eq]

@[simp] theorem State.at_rd64 (t lo hi : Nat) (s : State) : (s.at_ t).rd64 lo hi = s.rd64 lo hi := by simp [State.rd64]

@[simp] theorem State.at_winPermits (t w f : Nat) (write : Bool) (s : State) :
    (s.at_ t).winPermits w f write = s.winPermits w f write := by simp [State.winPermits]

@[simp] theorem State.at_winSize (t w : Nat) (s : State) : (s.at_ t).winSize w = s.winSize w := by simp [State.winSize]

@[simp] theorem State.at_dmaStatus (t w f : Nat) (write : Bool) (o n : Nat) (s : State) :
    (s.at_ t).dmaStatus w f write o n = s.dmaStatus w f write o n := by
  rw [State.dmaStatus, State.dmaStatus, State.at_winPermits, State.at_winSize]

/-! ### PROGRAM (R406) -/

/-- The blank check reads the whole range: its status is NOT_BLANK where some byte is programmed. -/
theorem blankCheck_eq (bs : Bytes) : (if bs.all (· == 0xFF) then 0 else 0x11) = if bs.any (· != 0xFF) = true then 0x11 else 0 := by
  have hnot : bs.all (· == 0xFF) = !bs.any (· != 0xFF) := List.all_eq_not_any_not
  rw [hnot]
  cases bs.any (· != 0xFF) <;> rfl

/-- The blank check decides a PROGRAM of whole pages of the user area whose transfer may run. -/
theorem doNvmProgram_of_checks {win : Nat} {s : State} (hidle : s.flag F.NVM_RESULT_BUSY = false) (hlock : s.lockdown = false)
    (hwr : s.nvm.readOnly = false) (hlo : 352 * 65536 ≤ s.fld F.NVM_ADDR_ADDR) (hhi : s.fld F.NVM_ADDR_ADDR < 992 * 65536)
    (hend : s.fld F.NVM_ADDR_ADDR + s.rd R.NVM_LEN ≤ 992 * 65536) (haddr : s.fld F.NVM_ADDR_ADDR % 256 = 0)
    (hlen : s.rd R.NVM_LEN % 256 = 0) (hmax : s.rd R.NVM_LEN ≤ 65536)
    (hdma : s.dmaStatus win 0 false (s.rd64 R.NVM_HOST_LO R.NVM_HOST_HI) (s.rd R.NVM_LEN) = 0) :
    doNvmProgram win s =
      if (s.nvm.read (s.fld F.NVM_ADDR_ADDR) (s.rd R.NVM_LEN)).any (· != 0xFF) = true then s.nvmEnd 0x11
      else s.nvmBegin { op := 2, addr := s.fld F.NVM_ADDR_ADDR, len := s.rd R.NVM_LEN, win := win,
                        host := s.rd64 R.NVM_HOST_LO R.NVM_HOST_HI } := by
  have hform : (s.fld F.NVM_ADDR_ADDR % 256 == 0 && s.rd R.NVM_LEN % 256 == 0 && decide (s.rd R.NVM_LEN ≤ 65536)) = true := by
    simp [haddr, hlen, hmax]
  rw [doNvmProgram, State.nvmCmd_of_checks hidle hlock (State.nvmRange_user hlo hhi hend) hdma hwr hform, blankCheck_eq]
  by_cases hprog : (s.nvm.read (s.fld F.NVM_ADDR_ADDR) (s.rd R.NVM_LEN)).any (· != 0xFF) = true
  · rw [if_pos hprog, if_pos hprog, if_pos (by decide)]
  · rw [if_neg hprog, if_neg hprog, if_neg (by decide)]

/-- The end of a PROGRAM whose transfer brought its bytes and none of whose pages fails its verify. -/
theorem doNvmOpDone_program {o : NvmOp} {bs : Bytes} {bad : NvmBad} {s : State} (hop : s.nvm.op = some o) (hprog : o.op = 2)
    (hwin : s.winPermits o.win 0 false = true) (hbad : bad.pages = []) :
    doNvmOpDone (.ok bs) bad s = (s.nvmProgram bad (asPages (o.addr / 256) (padTo o.len bs))).2.nvmEnd 0 := by
  have hok : ∀ ps, (s.nvmProgram bad ps).1 = true := fun ps => Nvm.programAll_snd_of_verified hbad s.free ps s.nvm
  simp [doNvmOpDone, hop, hprog, hwin, hok]

theorem exec_nvmProgram (t : Nat) (w : Fin 64) (s : State) : exec (.nvmProgram t w) s = runHost t 0 (doNvmProgram w.val) s := rfl

theorem exec_nvmOpDone (t : Nat) (d : DmaIn) (bad : NvmBad) (s : State) :
    exec (.nvmOpDone t d bad) s = runLive t (doNvmOpDone d bad) s := rfl

/-- Settles O44. The blank check decides before any page changes; at the end each page of the range holds its own 256 bytes, and those of
a page of 0xFF are what a blank page reads as. -/
theorem programOfBlankPageStaysBlank : Obligations.ProgramOfBlankPageStaysBlank := by
  unfold Obligations.ProgramOfBlankPageStaysBlank
  refine ⟨fun t w s hup hidle hlock hwr => ?checked, fun t p o bs s hlive hop hprog hwin hpage => ?done⟩
  case checked =>
    intro a n hlo hend haddr hlen hmax hhi hdma
    refine answers_host (exec_nvmProgram t w s) hup fun _ _ _ _ => ?_
    have hchecks := doNvmProgram_of_checks (win := w.val) (s := s.at_ t)
    simp only [State.at_flag, State.at_lockdown, State.at_fld, State.at_rd, State.at_rd64, State.at_nvm, State.at_dmaStatus] at hchecks
    rw [hchecks hidle hlock hwr hlo hhi hend haddr hlen hmax hdma]
    split
    case isTrue => exact ⟨by simp, by simp, (nvmDone_vectors ..).mpr (State.nvmEnd_done (by decide) _)⟩
    case isFalse => exact ⟨by simp, by simp, (State.vectors_flag ..).trans (State.nvmBegin_busy _ _), by simp [a, n]⟩
  case done =>
    refine answers_live (exec_nvmOpDone t _ _ s) hlive fun _ _ _ _ => ?_
    rw [doNvmOpDone_program (o := o) (by simpa) hprog (by simpa) rfl]
    generalize hu : (((s.at_ t).nvmProgram _ _).2.nvmEnd 0) = u
    have hblank : u.nvm.page p = List.replicate 256 0xFF := by
      rw [← hu, State.nvmEnd_nvm, State.nvmProgram_nvm]
      exact (Nvm.page_programAll_of_mem rfl _ _ (asPages_keys_nodup _ _) hpage).trans (padTo_of_length List.length_replicate)
    have hdone : NvmDone u 0 := by rw [← hu]; exact State.nvmEnd_done (by decide) _
    refine ⟨(nvmDone_vectors ..).mpr hdone, hblank, ?reads⟩
    case reads =>
      rw [State.vectors_nvm, Nvm.read_page, hblank, padTo_of_length List.length_replicate, List.all_replicate]
      decide

end Sys2Proof.Machine
end
